-- ==== Sys2Proof/Word.lean ====
section
/-! DEFINITION. The plain words of the LRS-24: bytes, 16-bit frame words, the 32-bit time tag, and the index of a lift
context. Everything computed from them (bit fields, intervals, check words) stands in files under Machine/. -/

namespace Sys2Proof

/-- Eight bits: the first field of a management request (R156). -/
abbrev Byte := BitVec 8

/-- One 16-bit word of a frame (R111). -/
abbrev Word := BitVec 16

/-- A value of the part's millisecond time base (R119). -/
abbrev TimeTag := BitVec 32

/-- The index of a lift context, 0..23. Lift number n of the manual (1..24) is index n - 1. -/
abbrev Lift := Fin 24

end Sys2Proof
end

