-- ==== Sys2Proof/Config.lean ====
section
/-! DEFINITION. What is fixed for every LRS-24 (identity words, sizes of the FIFOs, limits), and the values the manual
leaves open, which have no body: no proof can see what they are. -/

namespace Sys2Proof.Config

/-- The four words an IDENTIFY reply carries after word 0 (R157). -/
def identity : List Word := [0x21A5#16, 0x0318#16, 0x0002#16, 24#16]

/-- Places of the management reply FIFO and of the command reply FIFO (R152). -/
def replyFifoSize : Nat := 4

/-- Places of the report copy FIFO (R152). -/
def copyFifoSize : Nat := 8

/-- Places of the pass-through queue (R146). -/
def passQueueSize : Nat := 4

/-- Entries one execution may make (R93). -/
def stepBudget : Nat := 32

/-- Indices the return stack of an execution may hold (R100). -/
def stackDepth : Nat := 2

/-- The miss count at which a lane becomes DEGRADED (R115). -/
def missLimit : Nat := 8

/-- Cycles between two probes of a DEGRADED lane (R116). -/
def probeInterval : Nat := 16

/-- Longest payload of a frame, in words (R111). -/
def maxPayload : Nat := 16

/-- Sends remaining of a STOP AND HOLD that the part posts by itself (R138). -/
def partSends : Nat := 15

/-- The bound R30 puts on the time since off-marker-since, in ms. -/
def offMarkerBound : Nat := 600000

/-- Travel against the ordered direction that fails a CREEP step, in cm (R104). -/
def reverseLimit : Nat := 10

/-- FREE VALUE (log 9): the direction of an ASSISTED plan for which no candidate landing exists. The manual says the plan
holds "the mode and direction determined so far" (R69), and none has been determined. `true` stands for UP. -/
opaque openDirection : Nat → Bool

/-- FREE VALUE (log 10): the request kind code in the reply to a MANAGEMENT REQUEST with no payload word, which has no
kind code to answer (R156). -/
opaque openKindCode : Nat → Byte

end Sys2Proof.Config
end

