-- ==== Sys2Proof/Syntax.lean ====
section
/-! DEFINITION. The commands of the block: one constructor of `Instr` for each row of spec/opcode_table.json, with the
operands the row's frame, request or expiry carries. Every command but POWER_ON_RESET carries `t`, the time tag at which
the part takes it (for a received frame its arrival time tag, R113, R119). -/

namespace Sys2Proof

/-- The two lanes of the supervisory ring (R115). -/
inductive Lane
  | a | b
deriving DecidableEq, Repr, Inhabited

/-- The tables management writes and reads, in the order of their codes 0..5 (R156). -/
inductive Table
  | lift | landings | faultClass | scan | recipe | parameters
deriving DecidableEq, Repr, Inhabited

/-- A frame received on the ring that passes its check and whose kind is the one the command's row names: the lane it came
in on, its header fields and its payload (R111). -/
structure Reply where
  lane    : Lane
  dest    : BitVec 6
  source  : BitVec 6
  tag     : BitVec 4
  payload : List Word
deriving DecidableEq, Repr, Inhabited

/-- One command of the block: a row of spec/opcode_table.json with its operands.
`index`, `lift` and `selector` are the bits 7..0 of a request's word 0; `words` and `later` are the words after it. -/
inductive Instr
  /-- POWER_ON_RESET (R24): the reset pin is asserted and released. -/
  | powerOnReset
  /-- IDENTIFY (R157). -/
  | identify (t : TimeTag)
  /-- PREFIX (R158). -/
  | storePrefix (t : TimeTag) (table : Table) (index : Byte) (words : List Word)
  /-- WRITE_ENTRY_LIFT (R2). -/
  | writeEntryLift (t : TimeTag) (index : Byte) (words : List Word)
  /-- WRITE_ENTRY_LANDINGS (R39). -/
  | writeEntryLandings (t : TimeTag) (index : Byte) (words : List Word)
  /-- WRITE_ENTRY_FAULT_CLASS (R29). -/
  | writeEntryFaultClass (t : TimeTag) (index : Byte) (words : List Word)
  /-- WRITE_ENTRY_SCAN (R127). -/
  | writeEntryScan (t : TimeTag) (index : Byte) (words : List Word)
  /-- WRITE_ENTRY_RECIPE (R90). -/
  | writeEntryRecipe (t : TimeTag) (index : Byte) (words : List Word)
  /-- WRITE_ENTRY_PARAMETERS (R161). -/
  | writeEntryParameters (t : TimeTag) (index : Byte) (words : List Word)
  /-- READ_ENTRY (R160). -/
  | readEntry (t : TimeTag) (table : Table) (index : Byte) (later : List Word)
  /-- SWAP_SCAN (R128). -/
  | swapScan (t : TimeTag)
  /-- SWAP_RECIPE (R91). -/
  | swapRecipe (t : TimeTag)
  /-- SWAP_BOTH (R162). -/
  | swapBoth (t : TimeTag)
  /-- READ_CONTEXT (R163). -/
  | readContext (t : TimeTag) (lift : Byte) (later : List Word)
  /-- HOLD (R22). -/
  | hold (t : TimeTag) (lift : Byte)
  /-- RELEASE (R22). -/
  | release (t : TimeTag) (lift : Byte)
  /-- ABORT (R107). -/
  | abort (t : TimeTag) (lift : Byte)
  /-- FORCE_MANUAL (R23). -/
  | forceManual (t : TimeTag) (lift : Byte)
  /-- CLEAR (R23). -/
  | clear (t : TimeTag) (lift : Byte)
  /-- EXTEND_STEP (R106). -/
  | extendStep (t : TimeTag) (lift : Byte) (later : List Word)
  /-- RESTART (R164). -/
  | restart (t : TimeTag)
  /-- UNKNOWN_REQUEST (R156): the whole payload of the request. -/
  | unknownRequest (t : TimeTag) (payload : List Word)
  /-- MANAGEMENT_REQUEST_DISCARD (R150): the destination and the whole payload of the request. -/
  | managementRequestDiscard (t : TimeTag) (dest : BitVec 6) (payload : List Word)
  /-- REMOTE_COMMAND (R146). -/
  | remoteCommand (t : TimeTag) (dest : BitVec 6) (payload : List Word)
  /-- LINK_FRAME_DISCARD (R149): the raw words between two idles of the link; `whole` is no when the last word is partial. -/
  | linkFrameDiscard (t : TimeTag) (words : List Word) (whole : Bool)
  /-- ALL_STOP_SEND_END (R164): ALL STOP has gone out on both lanes. -/
  | allStopSendEnd (t : TimeTag)
  /-- EXCHANGE_SEND_END (R113): the check word of the exchange's frame has been sent. -/
  | exchangeSendEnd (t : TimeTag)
  /-- STATUS_REPORT (R5). -/
  | statusReport (t : TimeTag) (reply : Reply)
  /-- POWER_REPORT (R74). -/
  | powerReport (t : TimeTag) (reply : Reply)
  /-- HAZARD_REPORT (R50). -/
  | hazardReport (t : TimeTag) (reply : Reply)
  /-- ORDER_ECHO (R144). -/
  | orderEcho (t : TimeTag) (reply : Reply)
  /-- COMMAND_REPLY (R147). -/
  | commandReply (t : TimeTag) (reply : Reply)
  /-- REPLY_WINDOW_CLOSE (R113). -/
  | replyWindowClose (t : TimeTag)
  /-- RING_FRAME_DISCARD (R113): the raw words between two idles of a lane; `whole` is no when the last word is partial. -/
  | ringFrameDiscard (t : TimeTag) (lane : Lane) (words : List Word) (whole : Bool)
  /-- DESCRIPTOR_GAP_EXPIRY (R130). -/
  | descriptorGapExpiry (t : TimeTag)
  /-- CYCLE_START (R129). -/
  | cycleStart (t : TimeTag)
  /-- STEP_TIMER_EXPIRY (R95). -/
  | stepTimerExpiry (t : TimeTag) (lift : Lift)
  /-- POWER_STALE_EXPIRY (R75). -/
  | powerStaleExpiry (t : TimeTag)
  /-- SILENCE_EXPIRY (R151). -/
  | silenceExpiry (t : TimeTag)
  /-- TRANSMIT_END (R152). -/
  | transmitEnd (t : TimeTag)
  /-- LIFT_CONTROL_INVALID_ACTION (R21): `later` holds the action word, or nothing when the request is too short. -/
  | liftControlInvalidAction (t : TimeTag) (lift : Byte) (later : List Word)
  /-- SWAP_INVALID_SELECTOR (R156). -/
  | swapInvalidSelector (t : TimeTag) (selector : Byte)
deriving DecidableEq, Repr, Inhabited

end Sys2Proof
end

