-- ==== Sys2Proof/Machine/State.lean ====
section
/-! DEFINITION. The state of the LRS-24 as plain data, block by block (section 3 of 00_scope.md), with every power-on
value, and the two stop types of the host's interface. Fields cite the rule that names them. -/

namespace Sys2Proof.Machine

/-! ### Lift Table and Landing Lists (R1, R38) -/

/-- Kind of a lift (R1): shown by READ CONTEXT only. -/
inductive LiftKind
  | vertical | inclined
deriving DecidableEq, Repr, Inhabited

/-- Count sense of the encoder (R1). -/
inductive CountSense
  | upIncreases | downIncreases
deriving DecidableEq, Repr, Inhabited

/-- A Lift Table entry (R1), its fields in the order of R1. -/
structure LiftEntry where
  inService        : Bool
  ringNode         : Nat
  kind             : LiftKind
  shaftTop         : Nat
  encoderScale     : Nat
  countSense       : CountSense
  balanceLoad      : Nat
  gravityThreshold : Nat
  brakeHoldPower   : Nat
  assistPower      : Nat
  rescueSpeed      : Nat
  doorCycleCost    : Nat
  kindBonus        : Nat
  gravityStart     : Nat
  assistedStart    : Nat
  abortStart       : Nat
  maxAttempts      : Nat
deriving DecidableEq, Repr, Inhabited

/-- The defaults of R1. -/
def LiftEntry.powerOn : LiftEntry :=
  { inService := false, ringNode := 0, kind := .vertical, shaftTop := 100, encoderScale := 1000,
    countSense := .upIncreases, balanceLoad := 0, gravityThreshold := 50, brakeHoldPower := 0, assistPower := 0,
    rescueSpeed := 100, doorCycleCost := 0, kindBonus := 0, gravityStart := 0, assistedStart := 0, abortStart := 0,
    maxAttempts := 1 }

/-- The car door that opens onto a landing (R38). -/
inductive DoorSide
  | front | rear | both
deriving DecidableEq, Repr, Inhabited

/-- One landing of a Landing List (R38). -/
structure Landing where
  height : Nat
  zone   : Nat
  side   : DoorSide
deriving DecidableEq, Repr, Inhabited

/-! ### Reports and verdicts (R26, R28, R31) -/

/-- Motion of the car (R26). -/
inductive Motion
  | stopped | movingUp | movingDown | levelling
deriving DecidableEq, Repr, Inhabited

/-- Doors of the car (R26). -/
inductive Doors
  | closed | moving | opened | jammed
deriving DecidableEq, Repr, Inhabited

/-- Rescue acknowledgement of the controller (R26, R122). -/
inductive Ack
  | none | armed | creeping | holdExpired
deriving DecidableEq, Repr, Inhabited

/-- The decoded fields of a STATUS REPORT that the report copy filter compares: all but the encoder count (R26, R153). -/
structure ReportFields where
  fault       : Nat
  motion      : Motion
  doors       : Doors
  mainsLost   : Bool
  chainOpen   : Bool
  ack         : Ack
  brakeSet    : Bool
  marker      : Option Nat
  load        : Option Nat
deriving DecidableEq, Repr, Inhabited

/-- A decoded STATUS REPORT (R26). `marker` none and `load` not measured are `none`. -/
structure Report extends ReportFields where
  encoder : Nat
deriving DecidableEq, Repr, Inhabited

/-- Class of a fault code, and of a verdict (R28, R32). -/
inductive FaultClass
  | ignore | stall | stallNoAuto
deriving DecidableEq, Repr, Inhabited

/-- An entry of the Fault Class Table (R28). -/
structure FaultEntry where
  cls       : FaultClass
  immediate : Bool
deriving DecidableEq, Repr, Inhabited

/-- The verdict drawn from a report (R31, R32). -/
structure Verdict where
  trapping  : Bool
  cls       : FaultClass
  immediate : Bool
deriving DecidableEq, Repr, Inhabited

/-- The last report of a lift (R4). -/
structure LastReport where
  report  : Report
  arrival : TimeTag
  verdict : Verdict
deriving DecidableEq, Repr, Inhabited

/-! ### Position, plan, queue data, rescue record (R41, R57, R14, R92) -/

/-- The position record (R41). -/
structure Position where
  position     : Nat
  anchorHeight : Nat
  offset       : Int
  lastCount    : Option Nat
  anchored     : Bool
  doubt        : Bool
deriving DecidableEq, Repr, Inhabited

/-- The position record at power-on, at RESTART and at entry into service (R41). -/
def Position.powerOn : Position :=
  { position := 0, anchorHeight := 0, offset := 0, lastCount := none, anchored := false, doubt := true }

/-- Mode of a plan (R57). -/
inductive Mode
  | gravity | assisted | marker
deriving DecidableEq, Repr, Inhabited

/-- Direction of a creep (R57). -/
inductive Direction
  | up | down
deriving DecidableEq, Repr, Inhabited

/-- Infeasibility reason of a plan (R57, R69). -/
inductive Infeasibility
  | noUsableLanding | positionDoubt | costOverRange
deriving DecidableEq, Repr, Inhabited

/-- A plan (R57). -/
structure Plan where
  mode       : Mode
  direction  : Direction
  target     : Option Nat
  distance   : Nat
  travelTime : Nat
  creepCost  : Nat
  doorCost   : Nat
  totalCost  : Nat
  merit      : Nat
  feasible   : Bool
  reason     : Option Infeasibility
deriving DecidableEq, Repr, Inhabited

/-- Queue data of a QUEUED lift (R4, R78). -/
structure QueueData where
  entryTime : TimeTag
  bypass    : Nat
deriving DecidableEq, Repr, Inhabited

/-- A running step timer: the time tag it was loaded at and the ds loaded (R92, R95). -/
structure StepTimer where
  loadedAt : TimeTag
  ds       : Nat
deriving DecidableEq, Repr, Inhabited

/-- The working values only a CREEP step holds (R92). -/
structure CreepWork where
  reload         : Nat
  startPosition  : Nat
  orderedLanding : Nat
  markerSeen     : Option Nat
  accepted       : Bool
  abortDeferred  : Bool
deriving DecidableEq, Repr, Inhabited

/-- The working values of the running step (R92). -/
structure Working where
  repeats : Nat
  timer   : Option StepTimer
  creep   : Option CreepWork
deriving DecidableEq, Repr, Inhabited

/-- Working values removed (R94). -/
def Working.empty : Working := { repeats := 0, timer := none, creep := none }

/-- The two recipe banks (R89). -/
inductive RecipeBankId
  | bank0 | bank1
deriving DecidableEq, Repr, Inhabited

/-- The rescue record of a RESCUING lift (R14, R92). -/
structure RescueRecord where
  bank             : RecipeBankId
  step             : Nat
  budget           : Nat
  stack            : List Nat
  creepReservation : Nat
  doorReservation  : Nat
  creepReleased    : Bool
  abortPending     : Bool
  attempt          : Nat
  originalDistance : Nat
  working          : Working
deriving DecidableEq, Repr, Inhabited

/-! ### Lift contexts (R4, R6) -/

/-- The nine rescue states (R6). -/
inductive RescueState
  | excluded | normal | suspect | stalled | queued | rescuing | released | manual | offline
deriving DecidableEq, Repr, Inhabited

/-- Manual reasons (R4). -/
inductive ManualReason
  | noAutoFault | noUsableLanding | positionDoubt | costOverRange | stepFailed | stepLimit | attemptsExhausted
  | lostContact | operator | aborted
deriving DecidableEq, Repr, Inhabited

/-- One lift context: its Lift Table entry (R1), its Landing List (R38) and its runtime fields (R4), in R4's order. -/
structure LiftContext where
  entry          : LiftEntry
  landings       : List Landing
  state          : RescueState
  beforeOffline  : Option RescueState
  hold           : Bool
  lastReport     : Option LastReport
  suspectCount   : Nat
  offMarkerSince : Option TimeTag
  stallSince     : Option TimeTag
  trappedMinutes : Nat
  attempt        : Nat
  unanswered     : Nat
  pos            : Position
  occupancy      : Option Nat
  plan           : Option Plan
  queueData      : Option QueueData
  rescue         : Option RescueRecord
  manualReason   : Option ManualReason
deriving DecidableEq, Repr, Inhabited

/-- The runtime fields at their power-on values (R4, R7), with the configuration and rescue state given. -/
def LiftContext.fresh (e : LiftEntry) (ls : List Landing) (st : RescueState) : LiftContext :=
  { entry := e, landings := ls, state := st, beforeOffline := none, hold := false, lastReport := none,
    suspectCount := 0, offMarkerSince := none, stallSince := none, trappedMinutes := 0, attempt := 1, unanswered := 0,
    pos := Position.powerOn, occupancy := none, plan := none, queueData := none, rescue := none, manualReason := none }

/-! ### Reservoir view (R73) -/

/-- State of the power unit (R73). -/
inductive PowerState
  | charging | ready | discharging | fault
deriving DecidableEq, Repr, Inhabited

/-- The reservoir view (R73). -/
structure ReservoirView where
  level      : Nat
  feedCount  : Nat
  state      : PowerState
  reportTime : Option TimeTag
  stale      : Bool
deriving DecidableEq, Repr, Inhabited

/-- The view after either reset (R73). -/
def ReservoirView.powerOn : ReservoirView :=
  { level := 0, feedCount := 1, state := .fault, reportTime := none, stale := true }

/-! ### Recipe Table (R89) -/

/-- Conditions of a WAIT step (R89, R96). -/
inductive WaitCondition
  | stopped | mainsLost | armed | doorsOpen | carClear | brakeSet
deriving DecidableEq, Repr, Inhabited

/-- Order kinds an ORDER step may name (R89). -/
inductive StepOrder
  | isolateMains | armRescue | stopAndHold | openDoors | announce | disarm
deriving DecidableEq, Repr, Inhabited

/-- Outcomes of an END step (R89). -/
inductive EndOutcome
  | released | retry | manual
deriving DecidableEq, Repr, Inhabited

/-- Kind of a step with its parameter (R89). -/
inductive StepAction
  | wait (condition : WaitCondition)
  | order (kind : StepOrder) (message : Nat)
  | creep
  | pause
  | call (target : Nat)
  | ret
  | finish (outcome : EndOutcome)
deriving DecidableEq, Repr, Inhabited

/-- A step record (R89). -/
structure StepRecord where
  action    : StepAction
  count     : Nat
  timeout   : Nat
  chainDone : Nat
  chainFail : Nat
  notify    : Bool
deriving DecidableEq, Repr, Inhabited

/-- The defaults of R89. -/
def StepRecord.powerOn : StepRecord :=
  { action := .finish .manual, count := 0, timeout := 0, chainDone := 0, chainFail := 0, notify := false }

/-- The Recipe Table (R89): two banks of 96 records and the active bank. -/
structure RecipeTable where
  bank0  : Vector StepRecord 96
  bank1  : Vector StepRecord 96
  active : RecipeBankId
deriving DecidableEq, Repr

/-! ### Ring Interface (R113, R115) -/

/-- Status of a lane (R115). -/
inductive LaneStatus
  | good | degraded
deriving DecidableEq, Repr, Inhabited

/-- Probe phase of a lane (R116). -/
inductive ProbePhase
  | idle | due
deriving DecidableEq, Repr, Inhabited

/-- A lane record (R115). -/
structure LaneRecord where
  status    : LaneStatus
  missCount : Nat
  probe     : ProbePhase
deriving DecidableEq, Repr, Inhabited

/-- A lane record after either reset (R115). -/
def LaneRecord.powerOn : LaneRecord := { status := .good, missCount := 0, probe := .idle }

/-- Kinds of reply an exchange can expect (R114). -/
inductive ReplyKind
  | status | power | hazard | echo | command
deriving DecidableEq, Repr, Inhabited

/-- The exchange in flight (R113): the lane it is made on, the node its frame was sent to, the reply kind expected, the
words sent (check word included), and from the send end on the send end and the reply window as it then stood. -/
structure Exchange where
  lane    : Lane
  dest    : Nat
  expects : ReplyKind
  sent    : List Word
  waiting : Option (TimeTag × Nat)
deriving DecidableEq, Repr, Inhabited

/-! ### Scan Engine (R125, R126) -/

/-- Kinds of scan descriptor (R125). -/
inductive DescriptorKind
  | pause | pollLift | pollPower | pollHazard | orderSlot
deriving DecidableEq, Repr, Inhabited

/-- The lane a descriptor names (R125). -/
inductive LaneChoice
  | a | b | alternate
deriving DecidableEq, Repr, Inhabited

/-- A care mask, as a set of the report conditions of R27 (R125). -/
structure CareMask where
  faultPresent : Bool
  mainsLost    : Bool
  doorsJammed  : Bool
  safetyOpen   : Bool
deriving DecidableEq, Repr, Inhabited

/-- A scan descriptor (R125). -/
structure Descriptor where
  kind   : DescriptorKind
  lift   : Nat
  lane   : LaneChoice
  retry  : Nat
  switch : Bool
  care   : CareMask
  gap    : Nat
deriving DecidableEq, Repr, Inhabited

/-- The defaults of R125. -/
def Descriptor.powerOn : Descriptor :=
  { kind := .pause, lift := 0, lane := .a, retry := 0, switch := false,
    care := { faultPresent := false, mainsLost := false, doorsJammed := false, safetyOpen := false }, gap := 0 }

/-- A scan bank (R126). -/
structure ScanBank where
  places : Vector Descriptor 64
  length : Nat
deriving DecidableEq, Repr

/-- A scan bank at power-on (R126). -/
def ScanBank.powerOn : ScanBank := { places := Vector.replicate 64 Descriptor.powerOn, length := 0 }

/-- The two scan banks (R126). -/
inductive ScanBankId
  | a | b
deriving DecidableEq, Repr, Inhabited

/-- A first reply that waits for its confirmation (R132): the payload as sent, its source, its arrival and its decoding. -/
structure FirstReply where
  source  : Nat
  payload : List Word
  arrival : TimeTag
  report  : Report
deriving DecidableEq, Repr, Inhabited

/-- What the exchange of the current descriptor is for: a try of a poll (the lane it asked for and the tries left after
it, R131), a confirmation poll (R132), a poll whose lift has left service since it was taken, which hands on nothing
further (R131, R137, log 41), an order of a lift's slot with the tag sent, or a remote command (R134). -/
inductive Job
  | poll (desc : Descriptor) (asked : Lane) (triesLeft : Nat)
  | confirm (desc : Descriptor) (first : FirstReply)
  | abandoned
  | order (lift : Lift) (tag : BitVec 4)
  | command (node : BitVec 6)
deriving DecidableEq, Repr, Inhabited

/-- Where the Scan Engine stands: taking no descriptor; a descriptor's exchange in flight; a descriptor's work ended and
its gap running (R130); waiting for the next cycle start (R135). `start` is the descriptor start, `gap` its gap in ms. -/
inductive ScanPhase
  | stopped
  | working (start : TimeTag) (gap : Nat) (job : Job)
  | gapWait (start : TimeTag) (gap : Nat)
  | cycleWait
deriving DecidableEq, Repr, Inhabited

/-- The Scan Engine (R126), with the phase its rules imply. -/
structure ScanEngine where
  bankA        : ScanBank
  bankB        : ScanBank
  active       : ScanBankId
  swapPending  : Bool
  cycleCounter : BitVec 16
  startTime    : Option TimeTag
  current      : Option Nat
  creepSeen    : Bool
  running      : Bool
  phase        : ScanPhase
deriving DecidableEq, Repr

/-- The Scan Engine at power-on (R126). -/
def ScanEngine.powerOn : ScanEngine :=
  { bankA := ScanBank.powerOn, bankB := ScanBank.powerOn, active := .a, swapPending := false, cycleCounter := 0,
    startTime := none, current := none, creepSeen := false, running := false, phase := .stopped }

/-! ### Order Dispatcher (R138, R141, R142, R146) -/

/-- An order with its parameters (R138). -/
inductive OrderKind
  | isolateMains
  | armRescue
  | creep (direction : Direction) (speed : Nat) (landing : Nat) (holdTime : Nat)
  | stopAndHold
  | openDoors (landing : Nat) (side : DoorSide)
  | announce (message : Nat)
  | disarm
deriving DecidableEq, Repr, Inhabited

/-- The poster of an order: an entry of the lift's execution, or the part (R138). -/
inductive Poster
  | entry (n : Nat)
  | part
deriving DecidableEq, Repr, Inhabited

/-- An order held in a slot (R138). `tag` is present exactly when the order has been sent; the class follows from the kind. -/
structure Order where
  kind   : OrderKind
  poster : Poster
  sends  : Nat
  tag    : Option (BitVec 4)
deriving DecidableEq, Repr, Inhabited

/-- A remote command of the pass-through queue (R146). -/
structure RemoteCommand where
  dest    : BitVec 6
  payload : List Word
deriving DecidableEq, Repr, Inhabited

/-- The Order Dispatcher: order table, tag counters, round-robin pointers, pass-through queue. A pointer at lift number n
is held as index n - 1. -/
structure OrderDispatcher where
  slots       : Vector (Option Order) 24
  tagCounters : Vector (BitVec 4) 24
  stopPointer : Lift
  ordPointer  : Lift
  passQueue   : List RemoteCommand
deriving DecidableEq, Repr

/-- The dispatcher after either reset (R138, R141, R142, R146). -/
def OrderDispatcher.powerOn : OrderDispatcher :=
  { slots := Vector.replicate 24 none, tagCounters := Vector.replicate 24 0, stopPointer := 0, ordPointer := 0,
    passQueue := [] }

/-! ### Station Link Port (R151 to R154) -/

/-- A frame: its header fields and payload (R111). The payload length is the length of the payload. -/
structure Frame where
  kind    : BitVec 4
  dest    : BitVec 6
  source  : BitVec 6
  tag     : BitVec 4
  payload : List Word
deriving DecidableEq, Repr, Inhabited

/-- An entry of the notice pending list (R154): 0 for the station or a lift number 1..24, and the reason set as the
notice codes it (R111). -/
structure NoticeEntry where
  number  : Nat
  reasons : Word
deriving DecidableEq, Repr, Inhabited

/-- The Station Link Port. `transmitting` holds the words of the upward frame being sent. -/
structure LinkPort where
  lastArrival  : TimeTag
  isolated     : Bool
  transmitting : Option (List Word)
  mgmtReplies  : List Frame
  cmdReplies   : List Frame
  notices      : List NoticeEntry
  copies       : List Frame
  lastCopy     : Vector (Option ReportFields) 24
deriving DecidableEq, Repr

/-- The Station Link Port at power-on (R151, R152, R153). The manual gives the transmitter no power-on value; the model takes
it as free, so a reset drops the frame being sent (log 39). -/
def LinkPort.powerOn : LinkPort :=
  { lastArrival := 0, isolated := false, transmitting := none, mgmtReplies := [], cmdReplies := [], notices := [],
    copies := [], lastCopy := Vector.replicate 24 none }

/-! ### Management Agent (R158, R161, R164) -/

/-- A held prefix (R158). -/
structure Prefix where
  table : Table
  index : Byte
  words : List Word
deriving DecidableEq, Repr, Inhabited

/-- The station parameters, in the order of their numbers 0..18 (R161). -/
structure Params where
  confirmCount     : Nat
  offlineLimit     : Nat
  offMarkerDwell   : Nat
  massPerPerson    : Nat
  unknownOccupancy : Nat
  occupancyWeight  : Nat
  timeWeight       : Nat
  hazardBonus      : Nat
  reserveFloor     : Nat
  concurrencyLimit : Nat
  bypassGuard      : Nat
  powerStaleTime   : Nat
  replyWindow      : Nat
  minCyclePeriod   : Nat
  creepHoldTime    : Nat
  linkSilenceTime  : Nat
  maxCounts        : Nat
  powerNode        : Nat
  hazardNode       : Nat
deriving DecidableEq, Repr, Inhabited

/-- The defaults of R161. -/
def Params.powerOn : Params :=
  { confirmCount := 3, offlineLimit := 4, offMarkerDwell := 60, massPerPerson := 75, unknownOccupancy := 2,
    occupancyWeight := 40, timeWeight := 20, hazardBonus := 100, reserveFloor := 500, concurrencyLimit := 2,
    bypassGuard := 3, powerStaleTime := 10, replyWindow := 4, minCyclePeriod := 200, creepHoldTime := 20,
    linkSilenceTime := 15, maxCounts := 4000, powerNode := 62, hazardNode := 61 }

/-- Progress of the RESTART sequence (R164): not running; waiting for the exchange in flight (step 1); ALL STOP being sent
(step 2). Steps 3 and 4 are taken at the send end of ALL STOP. -/
inductive RestartPhase
  | idle | quieting | allStop
deriving DecidableEq, Repr, Inhabited

/-! ### The whole part -/

/-- The state of the LRS-24. `admissionDue` and `freeIndex` are the model's own (logs 11 and 12); `pending` is the queue
of commands that wait, first in, first out. `allStop` holds the ALL STOP frames being sent, each with its lane and its
words, in the order they go out (R120, R164); outside step 2 of the RESTART sequence it is empty. -/
structure State where
  time         : TimeTag
  laneA        : LaneRecord
  laneB        : LaneRecord
  exchange     : Option Exchange
  allStop      : List (Lane × List Word)
  scan         : ScanEngine
  faultTable   : Vector FaultEntry 64
  lifts        : Vector LiftContext 24
  hazard       : BitVec 32
  reservoir    : ReservoirView
  outstanding  : Nat
  queue        : List Lift
  recipes      : RecipeTable
  orders       : OrderDispatcher
  link         : LinkPort
  prefixHeld   : Option Prefix
  params       : Params
  restart      : RestartPhase
  admissionDue : Bool
  freeIndex    : Nat
  pending      : List Instr
deriving DecidableEq, Repr

/-- Why the block stops with a fault. The manual names no event that stops the part: every command leaves it running, so
no constructor exists, and no command of the model answers a fault. -/
inductive Fault
deriving DecidableEq, Repr

/-- Why the block has no meaning for a command. -/
inductive Refusal
  /-- Raised by `exec` alone, for a command that has no meaning yet. Safe: nothing can be proved of a run past it. -/
  | notModelled (mnemonic : String)
deriving DecidableEq, Repr

/-- The part right after power-on reset: every field at the value its rule gives. -/
def State.reset : State :=
  { time := 0
    laneA := LaneRecord.powerOn
    laneB := LaneRecord.powerOn
    exchange := none
    allStop := []
    scan := ScanEngine.powerOn
    faultTable := Vector.replicate 64 { cls := .ignore, immediate := false }
    lifts := Vector.replicate 24 (LiftContext.fresh LiftEntry.powerOn [] .excluded)
    hazard := 0
    reservoir := ReservoirView.powerOn
    outstanding := 0
    queue := []
    recipes := { bank0 := Vector.replicate 96 StepRecord.powerOn, bank1 := Vector.replicate 96 StepRecord.powerOn,
                 active := .bank0 }
    orders := OrderDispatcher.powerOn
    link := LinkPort.powerOn
    prefixHeld := none
    params := Params.powerOn
    restart := .idle
    admissionDue := false
    freeIndex := 0
    pending := [] }

end Sys2Proof.Machine
end

