-- ==== Sys2Proof/Machine/Operands.lean ====
section
/-! DEFINITION. Bit fields of frame words, the codes of every enumerated field, and the decoding of report payloads:
R26 for STATUS REPORT, R74 for POWER REPORT, R50 for HAZARD REPORT, with the layouts of R111 and R159. -/

namespace Sys2Proof.Machine

/-- The `len` bits of a word from bit `lo` upward, as a number. -/
def field (w : Word) (lo len : Nat) : Nat := w.toNat / 2 ^ lo % 2 ^ len

/-- A number as a word, its low 16 bits. -/
def wordOf (n : Nat) : Word := BitVec.ofNat 16 n

/-- Word `i` of a payload. -/
def wordAt (ws : List Word) (i : Nat) : Word := ws.getD i 0

/-- One bit as a number. -/
def bit (b : Bool) : Nat := if b then 1 else 0

/-- A time tag as two words, high word first (R163). -/
def tagWords (t : TimeTag) : List Word := [wordOf (t.toNat / 65536), wordOf t.toNat]

/-! ### Codes of the STATUS REPORT (R111) -/

def Motion.ofCode : Nat → Motion
  | 0 => .stopped | 1 => .movingUp | 2 => .movingDown | _ => .levelling

def Motion.code : Motion → Nat
  | .stopped => 0 | .movingUp => 1 | .movingDown => 2 | .levelling => 3

def Doors.ofCode : Nat → Doors
  | 0 => .closed | 1 => .moving | 2 => .opened | _ => .jammed

def Doors.code : Doors → Nat
  | .closed => 0 | .moving => 1 | .opened => 2 | .jammed => 3

def Ack.ofCode : Nat → Ack
  | 0 => .none | 1 => .armed | 2 => .creeping | _ => .holdExpired

def Ack.code : Ack → Nat
  | .none => 0 | .armed => 1 | .creeping => 2 | .holdExpired => 3

/-- A marker word decoded against a landing count (R26): 15 and any value from the landing count upward are none. -/
def decodeMarker (landingCount raw : Nat) : Option Nat :=
  if raw = 15 ∨ landingCount ≤ raw then none else some raw

/-- A load word decoded (R26): FFFFh is not measured, anything above 2500 kg is 2500 kg. -/
def decodeLoad (raw : Nat) : Option Nat :=
  if raw = 65535 then none else some (min raw 2500)

/-- A STATUS REPORT payload decoded against the lift's landing count (R26). -/
def decodeReport (landingCount : Nat) (p : List Word) : Report :=
  { fault := field (wordAt p 0) 10 6
    motion := Motion.ofCode (field (wordAt p 0) 8 2)
    doors := Doors.ofCode (field (wordAt p 0) 6 2)
    mainsLost := field (wordAt p 0) 5 1 == 1
    chainOpen := field (wordAt p 0) 4 1 == 1
    ack := Ack.ofCode (field (wordAt p 0) 2 2)
    brakeSet := field (wordAt p 0) 1 1 == 0
    marker := decodeMarker landingCount (field (wordAt p 2) 0 4)
    load := decodeLoad (wordAt p 3).toNat
    encoder := (wordAt p 1).toNat }

/-- The four payload words of a report as decoded (R163, part 1). -/
def encodeReport (r : Report) : List Word :=
  [ wordOf (r.fault * 1024 + r.motion.code * 256 + r.doors.code * 64 + bit r.mainsLost * 32 + bit r.chainOpen * 16
      + r.ack.code * 4 + bit (!r.brakeSet) * 2),
    wordOf r.encoder, wordOf (r.marker.getD 15), wordOf (r.load.getD 65535) ]

/-! ### POWER REPORT and HAZARD REPORT (R74, R50) -/

/-- The feed count as taken (R74): 0 is taken as 1, above 4 as 4. -/
def decodeFeed (raw : Nat) : Nat := if raw = 0 then 1 else min raw 4

/-- The state as taken (R74): a value that names none of the four states is FAULT. -/
def PowerState.ofCode : Nat → PowerState
  | 0 => .charging | 1 => .ready | 2 => .discharging | _ => .fault

/-- The zone flags of a HAZARD REPORT, bit n for zone n, with zone 0 always usable (R50). -/
def decodeZones (p : List Word) : BitVec 32 :=
  (wordAt p 1 ++ wordAt p 0 : BitVec 32) &&& 0xFFFFFFFE#32

/-! ### Codes of the RESCUE NOTICE and of READ CONTEXT (R111, R163) -/

def RescueState.code : RescueState → Nat
  | .excluded => 0 | .normal => 1 | .suspect => 2 | .stalled => 3 | .queued => 4 | .rescuing => 5 | .released => 6
  | .manual => 7 | .offline => 8

def ManualReason.code : ManualReason → Nat
  | .noAutoFault => 1 | .noUsableLanding => 2 | .positionDoubt => 3 | .costOverRange => 4 | .stepFailed => 5
  | .stepLimit => 6 | .attemptsExhausted => 7 | .lostContact => 8 | .operator => 9 | .aborted => 10

def Infeasibility.code : Infeasibility → Nat
  | .noUsableLanding => 2 | .positionDoubt => 3 | .costOverRange => 4

/-- The manual reason that an infeasibility reason becomes (R11). -/
def Infeasibility.manualReason : Infeasibility → ManualReason
  | .noUsableLanding => .noUsableLanding | .positionDoubt => .positionDoubt | .costOverRange => .costOverRange

def FaultClass.code : FaultClass → Nat
  | .ignore => 0 | .stall => 1 | .stallNoAuto => 2

def FaultClass.ofCode : Nat → Option FaultClass
  | 0 => some .ignore | 1 => some .stall | 2 => some .stallNoAuto | _ => none

def Mode.code : Mode → Nat
  | .gravity => 0 | .assisted => 1 | .marker => 2

def Direction.code : Direction → Nat
  | .up => 0 | .down => 1

def LiftKind.code : LiftKind → Nat
  | .vertical => 0 | .inclined => 1

def LiftKind.ofCode : Nat → Option LiftKind
  | 0 => some .vertical | 1 => some .inclined | _ => none

def CountSense.code : CountSense → Nat
  | .upIncreases => 0 | .downIncreases => 1

def CountSense.ofCode : Nat → Option CountSense
  | 0 => some .upIncreases | 1 => some .downIncreases | _ => none

/-- A yes/no field: 0 no, 1 yes, anything else names no member (R159). -/
def yesNo : Nat → Option Bool
  | 0 => some false | 1 => some true | _ => none

def DoorSide.code : DoorSide → Nat
  | .front => 1 | .rear => 2 | .both => 3

def DoorSide.ofCode : Nat → Option DoorSide
  | 1 => some .front | 2 => some .rear | 3 => some .both | _ => none

def RecipeBankId.code : RecipeBankId → Nat
  | .bank0 => 0 | .bank1 => 1

def RecipeBankId.other : RecipeBankId → RecipeBankId
  | .bank0 => .bank1 | .bank1 => .bank0

def ScanBankId.other : ScanBankId → ScanBankId
  | .a => .b | .b => .a

/-- An occupancy as a word field: 63 for UNKNOWN (R111). -/
def occupancyCode (o : Option Nat) : Nat := o.getD 63

/-! ### Codes of scan descriptors and step records (R159) -/

def DescriptorKind.code : DescriptorKind → Nat
  | .pause => 0 | .pollLift => 1 | .pollPower => 2 | .pollHazard => 3 | .orderSlot => 4

def DescriptorKind.ofCode : Nat → Option DescriptorKind
  | 0 => some .pause | 1 => some .pollLift | 2 => some .pollPower | 3 => some .pollHazard | 4 => some .orderSlot
  | _ => none

def LaneChoice.code : LaneChoice → Nat
  | .a => 0 | .b => 1 | .alternate => 2

def LaneChoice.ofCode : Nat → Option LaneChoice
  | 0 => some .a | 1 => some .b | 2 => some .alternate | _ => none

def CareMask.code (c : CareMask) : Nat :=
  bit c.faultPresent + bit c.mainsLost * 2 + bit c.doorsJammed * 4 + bit c.safetyOpen * 8

def CareMask.ofWord (w : Word) : CareMask :=
  { faultPresent := field w 0 1 == 1, mainsLost := field w 1 1 == 1, doorsJammed := field w 2 1 == 1,
    safetyOpen := field w 3 1 == 1 }

def WaitCondition.code : WaitCondition → Nat
  | .stopped => 0 | .mainsLost => 1 | .armed => 2 | .doorsOpen => 3 | .carClear => 4 | .brakeSet => 5

def WaitCondition.ofCode : Nat → Option WaitCondition
  | 0 => some .stopped | 1 => some .mainsLost | 2 => some .armed | 3 => some .doorsOpen | 4 => some .carClear
  | 5 => some .brakeSet | _ => none

/-- Order kinds as the RESCUE ORDER codes them (R111). -/
def StepOrder.code : StepOrder → Nat
  | .isolateMains => 0 | .armRescue => 1 | .stopAndHold => 3 | .openDoors => 4 | .announce => 5 | .disarm => 6

/-- The order kinds an ORDER step may name; CREEP, code 2, is not one of them (R90). -/
def StepOrder.ofCode : Nat → Option StepOrder
  | 0 => some .isolateMains | 1 => some .armRescue | 3 => some .stopAndHold | 4 => some .openDoors
  | 5 => some .announce | 6 => some .disarm | _ => none

def EndOutcome.code : EndOutcome → Nat
  | .released => 0 | .retry => 1 | .manual => 2

def EndOutcome.ofCode : Nat → Option EndOutcome
  | 0 => some .released | 1 => some .retry | 2 => some .manual | _ => none

/-- The order kind of an order as the RESCUE ORDER codes it (R111). -/
def OrderKind.code : OrderKind → Nat
  | .isolateMains => 0 | .armRescue => 1 | .creep .. => 2 | .stopAndHold => 3 | .openDoors .. => 4 | .announce _ => 5
  | .disarm => 6

/-- Class STOP: STOP AND HOLD and DISARM; every other order is ordinary (R138). -/
def OrderKind.isStop : OrderKind → Bool
  | .stopAndHold => true | .disarm => true | _ => false

/-- The code of a table in a request kind (R156). -/
def Table.code : Table → Nat
  | .lift => 0 | .landings => 1 | .faultClass => 2 | .scan => 3 | .recipe => 4 | .parameters => 5

def Table.ofCode : Nat → Option Table
  | 0 => some .lift | 1 => some .landings | 2 => some .faultClass | 3 => some .scan | 4 => some .recipe
  | 5 => some .parameters | _ => none

/-- The lift context a lift number names: 1..24 (R2). -/
def liftOfNumber (n : Nat) : Option Lift :=
  if h : 1 ≤ n ∧ n ≤ 24 then some ⟨n - 1, by omega⟩ else none

/-- The lift number of a lift context. -/
def liftNumber (l : Lift) : Nat := l.val + 1

end Sys2Proof.Machine
end

