-- ==== Sys2Proof/Machine/Flags.lean ====
section
/-! DEFINITION. The flags drawn from a report: intervals, report conditions (R27), off-marker-since (R30), the trapping
verdict (R31, R32) and the occupancy (R37). -/

namespace Sys2Proof.Machine

/-- The interval from one time tag to another, modulo 2^32, in ms (R119). -/
def elapsed (now since : TimeTag) : Nat := (now - since).toNat

/-- The Fault Class Table entry of a fault code (R28). -/
def faultEntry (table : Vector FaultEntry 64) (code : Nat) : FaultEntry :=
  table.toList.getD code { cls := .ignore, immediate := false }

/-- Whether a report shows a condition that a care mask names (R27, R132). -/
def careHit (table : Vector FaultEntry 64) (m : CareMask) (r : Report) : Bool :=
  (m.faultPresent && decide ((faultEntry table r.fault).cls ≠ .ignore)) || (m.mainsLost && r.mainsLost)
    || (m.doorsJammed && decide (r.doors = .jammed)) || (m.safetyOpen && r.chainOpen)

/-- Off-marker-since after a report (R30). -/
def offMarkerUpdate (arrival : TimeTag) (old : Option TimeTag) (r : Report) : Option TimeTag :=
  if r.motion = .stopped ∧ r.marker = none then
    match old with
    | none => some arrival
    | some since =>
      if elapsed arrival since > Config.offMarkerBound then some (arrival - BitVec.ofNat 32 Config.offMarkerBound)
      else some since
  else none

/-- Whether the dwell since off-marker-since has reached the off-marker dwell, in s (R31). -/
def dwellReached (arrival : TimeTag) (since : Option TimeTag) (dwell : Nat) : Bool :=
  match since with
  | none => false
  | some t => decide (dwell * 1000 ≤ elapsed arrival t)

/-- The verdict of a report, drawn with the updated off-marker-since (R31, R32). -/
def drawVerdict (e : FaultEntry) (arrival : TimeTag) (since : Option TimeTag) (dwell : Nat) (r : Report) : Verdict :=
  let standing := decide (r.motion = .stopped) && !(decide (r.doors = .opened) && r.marker.isSome)
  if standing && decide (e.cls ≠ .ignore) then { trapping := true, cls := e.cls, immediate := e.immediate }
  else if standing && dwellReached arrival since dwell then { trapping := true, cls := .stall, immediate := false }
  else { trapping := false, cls := e.cls, immediate := false }

/-- The occupancy of a load (R37). -/
def occupancyOf (massPerPerson : Nat) (load : Option Nat) : Option Nat :=
  load.map fun kg => min (kg / massPerPerson) 31

/-- Trapped minutes from stall-since, never below the figure held (R67). -/
def trappedAt (now : TimeTag) (since : Option TimeTag) (held : Nat) : Nat :=
  match since with
  | none => 0
  | some t => max held (min (elapsed now t / 60000) 255)

/-- Whether a satisfying report of a WAIT step (R96). The occupancy is the one derived from the same report. -/
def WaitCondition.holds (c : WaitCondition) (r : Report) (occupancy : Option Nat) : Bool :=
  match c with
  | .stopped => decide (r.motion = .stopped)
  | .mainsLost => r.mainsLost
  | .armed => decide (r.ack = .armed)
  | .doorsOpen => decide (r.doors = .opened)
  | .carClear => decide (occupancy = some 0)
  | .brakeSet => r.brakeSet

end Sys2Proof.Machine
end

