-- ==== Sys2Proof/Machine/Frames.lean ====
section
/-! DEFINITION. Frames: header words and check word (R111, R112), the frames the part sends, and what makes received words
a frame (R111, R149). -/

namespace Sys2Proof.Machine

/-! ### Check word (R111) -/

/-- One bit taken into the check register. -/
def crcBit (r : Word) (b : Bool) : Word :=
  if r.msb ^^ b then (r <<< 1) ^^^ 0x1021#16 else r <<< 1

/-- One word taken into the check register, most significant bit first. -/
def crcWord (r w : Word) : Word := (List.range 16).foldl (fun r i => crcBit r (w.getMsbD i)) r

/-- The check word of a sequence of words. -/
def crc (ws : List Word) : Word := ws.foldl crcWord 0xFFFF#16

/-! ### Frames as words -/

/-- Header word 1: kind, destination, source. -/
def Frame.header1 (f : Frame) : Word := wordOf (f.kind.toNat * 4096 + f.dest.toNat * 64 + f.source.toNat)

/-- Header word 2: payload length and order tag. -/
def Frame.header2 (f : Frame) : Word := wordOf (f.payload.length * 2048 + f.tag.toNat * 128)

/-- The words of a frame before its check word. -/
def Frame.body (f : Frame) : List Word := f.header1 :: f.header2 :: f.payload

/-- The words of a frame as sent. -/
def Frame.words (f : Frame) : List Word := f.body ++ [crc f.body]

/-- The frame that the words between two idles make, when they pass their check, agree with their length and have at most
16 payload words (R111, R149). `whole` is no when the last word is partial. -/
def Frame.ofWords (ws : List Word) (whole : Bool) : Option Frame :=
  match ws with
  | h1 :: h2 :: rest =>
    let len := field h2 11 5
    if whole && rest.length == len + 1 && decide (len ≤ Config.maxPayload)
        && wordAt rest len == crc (h1 :: h2 :: rest.take len) then
      some { kind := BitVec.ofNat 4 (field h1 12 4), dest := BitVec.ofNat 6 (field h1 6 6),
             source := BitVec.ofNat 6 (field h1 0 6), tag := BitVec.ofNat 4 (field h2 7 4), payload := rest.take len }
    else none
  | _ => none

/-! ### Kinds (R111) -/

def kindPoll : BitVec 4 := 1
def kindStatus : BitVec 4 := 2
def kindPower : BitVec 4 := 3
def kindHazard : BitVec 4 := 4
def kindOrder : BitVec 4 := 5
def kindEcho : BitVec 4 := 6
def kindAllStop : BitVec 4 := 7
def kindCommand : BitVec 4 := 8
def kindCommandReply : BitVec 4 := 9
def kindRequest : BitVec 4 := 10
def kindReply : BitVec 4 := 11
def kindNotice : BitVec 4 := 12

/-- The kind code of a reply kind (R114). -/
def ReplyKind.frameKind : ReplyKind → BitVec 4
  | .status => kindStatus | .power => kindPower | .hazard => kindHazard | .echo => kindEcho | .command => kindCommandReply

/-- The reply kind of a kind code, when some exchange can expect it (R114). -/
def ReplyKind.ofFrameKind (k : BitVec 4) : Option ReplyKind :=
  if k = kindStatus then some .status
  else if k = kindPower then some .power
  else if k = kindHazard then some .hazard
  else if k = kindEcho then some .echo
  else if k = kindCommandReply then some .command
  else none

/-- The payload length each reply kind needs (R114). -/
def ReplyKind.lengthNeeded : ReplyKind → Nat
  | .status => 4 | .power => 2 | .hazard => 2 | .echo => 1 | .command => 0

/-! ### Frames the part sends on the ring (R112, R120, R131, R143) -/

/-- A node number as a header field. -/
def node (n : Nat) : BitVec 6 := BitVec.ofNat 6 n

/-- The POLL for a report kind: 1 LIFT, 2 POWER, 3 HAZARD (R111). -/
def pollFrame (dest wanted : Nat) : Frame :=
  { kind := kindPoll, dest := node dest, source := 0, tag := 0, payload := [wordOf wanted] }

/-- The payload of a RESCUE ORDER (R111). -/
def OrderKind.payload (k : OrderKind) : List Word :=
  match k with
  | .creep d speed landing holdTime => [wordOf (2 * 4096 + d.code * 256 + landing), wordOf speed, wordOf holdTime]
  | .openDoors landing side => [wordOf (4 * 4096 + side.code * 16 + landing)]
  | .announce m => [wordOf (5 * 4096 + m)]
  | _ => [wordOf (k.code * 4096)]

/-- The RESCUE ORDER frame of an order (R143). -/
def orderFrame (dest : Nat) (tag : BitVec 4) (k : OrderKind) : Frame :=
  { kind := kindOrder, dest := node dest, source := 0, tag := tag, payload := k.payload }

/-- The REMOTE COMMAND frame the part passes on: rebuilt header, payload as it arrived (R112). -/
def commandFrame (c : RemoteCommand) : Frame :=
  { kind := kindCommand, dest := c.dest, source := 0, tag := 0, payload := c.payload }

/-- ALL STOP (R120). -/
def allStopFrame : Frame := { kind := kindAllStop, dest := 63, source := 0, tag := 0, payload := [] }

/-! ### Frames the part sends up the station link (R148, R149, R156) -/

/-- A MANAGEMENT REPLY: status in bits 15..8 and the request kind code in bits 7..0 of word 0 (R156). -/
def replyFrame (status : Nat) (code : Nat) (ws : List Word) : Frame :=
  { kind := kindReply, dest := 0, source := 0, tag := 0, payload := wordOf (status * 256 + code) :: ws }

/-- A COMMAND REPLY made by the part (R148). -/
def madeReplyFrame (dest : BitVec 6) (status : Nat) : Frame :=
  { kind := kindCommandReply, dest := dest, source := 0, tag := 0, payload := [wordOf status] }

/-- A COMMAND REPLY forwarded from a node (R148, R149). -/
def forwardedReplyFrame (source : BitVec 6) (payload : List Word) : Frame :=
  { kind := kindCommandReply, dest := 0, source := source, tag := 0, payload := payload }

/-- A report copy: the payload as the lift controller sent it (R149, R153). -/
def copyFrame (source : Nat) (payload : List Word) : Frame :=
  { kind := kindStatus, dest := 0, source := node source, tag := 0, payload := payload.take 4 }

/-- A RESCUE NOTICE (R149, R155). -/
def noticeFrame (payload : List Word) : Frame :=
  { kind := kindNotice, dest := 0, source := 0, tag := 0, payload := payload }

end Sys2Proof.Machine
end

