-- ==== Sys2Proof/Machine/Ops.lean ====
section
/-! DEFINITION. The named operations over the state: lift contexts, order slots, notices, the change of a rescue state,
the call of an admission evaluation. -/

namespace Sys2Proof.Machine

/-! ### Lift contexts and order slots -/

/-- The context of a lift. -/
def State.lift (s : State) (l : Lift) : LiftContext := s.lifts.get l

/-- The state with the context of one lift replaced. -/
def State.setLift (s : State) (l : Lift) (c : LiftContext) : State := { s with lifts := s.lifts.set l.val c l.isLt }

/-- The state with the context of one lift changed by a function. -/
def State.modLift (s : State) (l : Lift) (f : LiftContext → LiftContext) : State := s.setLift l (f (s.lift l))

/-- The order slot of a lift (R138). -/
def State.slot (s : State) (l : Lift) : Option Order := s.orders.slots.get l

/-- The state with the order slot of one lift replaced. -/
def State.setSlot (s : State) (l : Lift) (o : Option Order) : State :=
  { s with orders := { s.orders with slots := s.orders.slots.set l.val o l.isLt } }

/-- The tag counter of a lift (R141). -/
def State.tagCounter (s : State) (l : Lift) : BitVec 4 := s.orders.tagCounters.get l

/-- The last-copy record of a lift (R153). -/
def State.lastCopy (s : State) (l : Lift) : Option ReportFields := s.link.lastCopy.get l

/-- The state with the last-copy record of one lift replaced. -/
def State.setLastCopy (s : State) (l : Lift) (r : Option ReportFields) : State :=
  { s with link := { s.link with lastCopy := s.link.lastCopy.set l.val r l.isLt } }

/-- All lift contexts, lift 1 first. -/
def allLifts : List Lift := List.finRange 24

/-- The lane record of a lane (R115). -/
def State.laneRecord (s : State) : Lane → LaneRecord
  | .a => s.laneA
  | .b => s.laneB

/-- The state with one lane record replaced. -/
def State.setLaneRecord (s : State) (l : Lane) (r : LaneRecord) : State :=
  match l with
  | .a => { s with laneA := r }
  | .b => { s with laneB := r }

/-- The other lane. -/
def otherLane : Lane → Lane
  | .a => .b
  | .b => .a

/-- The time base moved to the time tag at which a command is taken (R119, log 1). -/
def State.atTime (s : State) (t : TimeTag) : State := { s with time := t }

/-! ### Notices (R154) -/

/-- Notice reasons of a lift, by their bits (R111). -/
inductive LiftReason
  | state | step | plan | clear
deriving DecidableEq, Repr

def LiftReason.mask : LiftReason → Word
  | .state => 1#16 | .step => 2#16 | .plan => 4#16 | .clear => 8#16

/-- Notice reasons of the station, by their bits (R111). -/
inductive StationReason
  | reservoirLow | powerStale | laneDegraded (l : Lane) | laneRestored (l : Lane) | bankSwapped | restarted | cycleSlow
deriving DecidableEq, Repr

def StationReason.mask : StationReason → Word
  | .reservoirLow => 1#16 | .powerStale => 2#16 | .laneDegraded .a => 4#16 | .laneDegraded .b => 8#16
  | .laneRestored .a => 16#16 | .laneRestored .b => 32#16 | .bankSwapped => 64#16 | .restarted => 128#16
  | .cycleSlow => 256#16

/-- A reason raised for a number: added to its entry, or a new entry at the tail (R154). -/
def raiseIn (number : Nat) (mask : Word) : List NoticeEntry → List NoticeEntry
  | [] => [{ number := number, reasons := mask }]
  | e :: es =>
    if e.number = number then { e with reasons := e.reasons ||| mask } :: es else e :: raiseIn number mask es

/-- The state with a reason raised for a number (R154). -/
def State.raise (s : State) (number : Nat) (mask : Word) : State :=
  { s with link := { s.link with notices := raiseIn number mask s.link.notices } }

/-- The state with a lift reason raised. -/
def State.raiseLift (s : State) (l : Lift) (r : LiftReason) : State := s.raise (liftNumber l) r.mask

/-- The state with a station reason raised. -/
def State.raiseStation (s : State) (r : StationReason) : State := s.raise 0 r.mask

/-! ### Rescue states and admission calls -/

/-- A lift put into a rescue state; every change raises STATE (R6). -/
def State.enter (s : State) (l : Lift) (st : RescueState) : State :=
  if (s.lift l).state = st then s
  else (s.modLift l fun c => { c with state := st }).raiseLift l .state

/-- An admission evaluation called by the event in progress (R80, log 11). -/
def State.callAdmission (s : State) : State := { s with admissionDue := true }

/-! ### Posting orders (R139) -/

/-- An order offered to a lift's slot. Only an ordinary order over a STOP-class one is turned away, and the answer `false`
tells its poster "discarded"; a posted order is stored unsent. An order that another poster's order replaces has a
poster that no longer runs, so its outcome is dropped (R98, log 32). -/
def State.post (s : State) (l : Lift) (k : OrderKind) (poster : Poster) (sends : Nat) : State × Bool :=
  match s.slot l with
  | some o =>
    if o.kind.isStop && !k.isStop then (s, false)
    else (s.setSlot l (some { kind := k, poster := poster, sends := sends, tag := none }), true)
  | none => (s.setSlot l (some { kind := k, poster := poster, sends := sends, tag := none }), true)

/-- The STOP AND HOLD that the part posts by itself (R138): it takes the slot whatever the slot holds. -/
def State.postPartStop (s : State) (l : Lift) : State :=
  s.setSlot l (some { kind := .stopAndHold, poster := .part, sends := Config.partSends, tag := none })

end Sys2Proof.Machine
end

