-- ==== Sys2Proof/Machine/Planner.lean ====
section
/-! DEFINITION. The Rescue Planner: mode, direction and target (R59 to R63), costs (R64 to R66), urgency (R67, R68),
infeasible plans (R69), and a run as it changes the lift context (R56, R70). -/

namespace Sys2Proof.Machine

/-- What a run reads (R58). `openUp` is the free value of log 9. -/
structure PlanInput where
  entry     : LiftEntry
  landings  : List Landing
  zones     : BitVec 32
  position  : Nat
  doubt     : Bool
  load      : Option Nat
  marker    : Option Nat
  merit     : Nat
  openUp    : Bool
deriving DecidableEq, Repr

/-- A landing is usable when its hazard zone is; zone 0 always is (R51). -/
def usable (zones : BitVec 32) (d : Landing) : Bool := d.zone == 0 || !zones.getLsbD d.zone

/-- A landing of a list, named by its index, is usable (R51). -/
def usableAt (zones : BitVec 32) (ls : List Landing) (i : Nat) : Bool :=
  match ls[i]? with
  | some d => usable zones d
  | none => false

/-- A landing with its index. -/
def indexed (ls : List Landing) : List (Nat × Landing) := ls.zipIdx.map fun p => (p.2, p.1)

/-- The imbalance of the car as the mode choice reads it (R59). -/
inductive Imbalance
  | heavy | light | balanced
deriving DecidableEq, Repr

/-- The imbalance of a load; an undefined one is handled as balanced (R59). -/
def imbalance (e : LiftEntry) (load : Option Nat) : Imbalance :=
  match load with
  | none => .balanced
  | some kg =>
    let d : Int := (kg : Int) - e.balanceLoad
    if (e.gravityThreshold : Int) ≤ d then .heavy
    else if d ≤ -(e.gravityThreshold : Int) then .light
    else .balanced

/-- The magnitude of a landing's height less the position. -/
def reach (position : Nat) (d : Landing) : Nat := (d.height - position) + (position - d.height)

/-- The candidate nearest to the position; of two at one distance the one with the lower index, which is the landing
below (R62). -/
def nearest (position : Nat) : List (Nat × Landing) → Option (Nat × Landing)
  | [] => none
  | c :: cs =>
    match nearest position cs with
    | none => some c
    | some b => if reach position b.2 < reach position c.2 then some b else some c

/-- A landing lies strictly beyond the position in a direction (R62). -/
def beyond (dir : Direction) (position : Nat) (d : Landing) : Bool :=
  match dir with
  | .up => decide (position < d.height)
  | .down => decide (d.height < position)

/-- The usable landings strictly beyond the position in a direction. -/
def usableBeyond (zones : BitVec 32) (ls : List Landing) (dir : Direction) (position : Nat) : List (Nat × Landing) :=
  (indexed ls).filter fun c => usable zones c.2 && beyond dir position c.2

/-- The nearest landing strictly beyond the position in a direction, usable or not (R105, R108). -/
def nextLanding (ls : List Landing) (dir : Direction) (position : Nat) : Option Nat :=
  (nearest position ((indexed ls).filter fun c => beyond dir position c.2)).map (·.1)

/-- The shaft span (R38, R60). -/
def shaftSpan (ls : List Landing) : Nat :=
  match ls.head?, ls.getLast? with
  | some lo, some hi => hi.height - lo.height
  | _, _ => 0

/-- A quotient rounded up. -/
def ceilDiv (a b : Nat) : Nat := (a + b - 1) / b

/-- Travel time in ds (R64). -/
def travelTime (distance speed : Nat) : Nat := ceilDiv (distance * 100) speed

/-- A plan infeasible at the choice of target (R69). -/
def noTarget (mode : Mode) (dir : Direction) (merit : Nat) (why : Infeasibility) : Plan :=
  { mode := mode, direction := dir, target := none, distance := 0, travelTime := 0, creepCost := 0, doorCost := 0,
    totalCost := 0, merit := merit, feasible := false, reason := some why }

/-- The costing of a plan (R64, R65, R66) with the test of COST OVER RANGE. -/
def costed (e : LiftEntry) (mode : Mode) (dir : Direction) (target : Option Nat) (distance power merit : Nat) : Plan :=
  let time := travelTime distance e.rescueSpeed
  let creep := ceilDiv (time * power) 1000
  let creep := if 65534 < creep then 65535 else creep
  let total := creep + e.doorCycleCost
  let tooDear := decide (65535 ≤ total)
  { mode := mode, direction := dir, target := target, distance := distance, travelTime := time, creepCost := creep,
    doorCost := e.doorCycleCost, totalCost := if tooDear then 65535 else total, merit := merit, feasible := !tooDear,
    reason := if tooDear then some .costOverRange else none }

/-- The power of a mode with a target (R65). -/
def powerOf (e : LiftEntry) : Mode → Nat
  | .gravity => e.brakeHoldPower
  | _ => e.brakeHoldPower + e.assistPower

/-- The direction of a MARKER plan (R60). -/
def markerDirection (i : PlanInput) : Direction :=
  match imbalance i.entry i.load with
  | .light => if (i.landings.drop 1).any (usable i.zones) then .up else .down
  | _ => .down

/-- MARKER mode (R60). -/
def planMarker (i : PlanInput) : Plan :=
  let assisted := decide (imbalance i.entry i.load = .balanced)
  if !i.landings.any (usable i.zones) then noTarget .marker (markerDirection i) i.merit .positionDoubt
  else if assisted && decide (i.entry.assistPower = 0) then
    noTarget .marker (markerDirection i) i.merit .noUsableLanding
  else
    costed i.entry .marker (markerDirection i) none (shaftSpan i.landings)
      (if assisted then i.entry.brakeHoldPower + i.entry.assistPower else i.entry.brakeHoldPower) i.merit

/-- The gravity fallback (R62): the usable landings not beyond the car in the gravity direction, driven the other way. -/
def planFallback (i : PlanInput) (gravityDir otherDir : Direction) : Plan :=
  let candidates := (indexed i.landings).filter fun c => usable i.zones c.2 && !beyond gravityDir i.position c.2
  match nearest i.position candidates with
  | none => noTarget .assisted otherDir i.merit .noUsableLanding
  | some c =>
    if i.entry.assistPower = 0 then noTarget .assisted otherDir i.merit .noUsableLanding
    else costed i.entry .assisted otherDir (some c.1) (reach i.position c.2) (powerOf i.entry .assisted) i.merit

/-- GRAVITY mode, with its fallback (R62). -/
def planGravity (i : PlanInput) (dir otherDir : Direction) : Plan :=
  match nearest i.position (usableBeyond i.zones i.landings dir i.position) with
  | some c => costed i.entry .gravity dir (some c.1) (reach i.position c.2) (powerOf i.entry .gravity) i.merit
  | none => planFallback i dir otherDir

/-- ASSISTED mode for a balanced or undefined imbalance (R62). With no candidate no direction has been determined: the
plan holds the free value of log 9. -/
def planAssisted (i : PlanInput) : Plan :=
  match nearest i.position ((indexed i.landings).filter fun c => usable i.zones c.2) with
  | none => noTarget .assisted (if i.openUp then .up else .down) i.merit .noUsableLanding
  | some c =>
    let dir := if i.position < c.2.height then Direction.up else Direction.down
    if i.entry.assistPower = 0 then noTarget .assisted dir i.merit .noUsableLanding
    else costed i.entry .assisted dir (some c.1) (reach i.position c.2) (powerOf i.entry .assisted) i.merit

/-- A free run: R60, then R61, then R62. -/
def planFree (i : PlanInput) : Plan :=
  if i.doubt then planMarker i
  else
    match i.marker.filter (usableAt i.zones i.landings) with
    | some m => costed i.entry .gravity .down (some m) 0 (powerOf i.entry .gravity) i.merit
    | none =>
      match imbalance i.entry i.load with
      | .heavy => planGravity i .down .up
      | .light => planGravity i .up .down
      | .balanced => planAssisted i

/-- A directed run in a given mode and direction (R63). -/
def planDirected (i : PlanInput) (mode : Mode) (dir : Direction) : Plan :=
  match nearest i.position (usableBeyond i.zones i.landings dir i.position) with
  | none => noTarget mode dir i.merit .noUsableLanding
  | some c => costed i.entry mode dir (some c.1) (reach i.position c.2) (powerOf i.entry mode) i.merit

/-- The merit of a plan (R68). -/
def meritOf (p : Params) (e : LiftEntry) (zones : BitVec 32) (ls : List Landing) (occupancy : Option Nat)
    (trapped : Nat) : Nat :=
  min 65535
    (occupancy.getD p.unknownOccupancy * p.occupancyWeight + trapped * p.timeWeight
      + (if ls.any (fun d => !usable zones d) then p.hazardBonus else 0) + e.kindBonus)

/-- What a run for a lift reads, with trapped minutes as R67 gives them at `now`. -/
def planInput (s : State) (l : Lift) (now : TimeTag) : PlanInput :=
  let c := s.lift l
  { entry := c.entry, landings := c.landings, zones := s.hazard, position := c.pos.position, doubt := c.pos.doubt,
    load := c.lastReport.bind (·.report.load), marker := c.lastReport.bind (·.report.marker),
    merit := meritOf s.params c.entry s.hazard c.landings c.occupancy (trappedAt now c.stallSince c.trappedMinutes),
    openUp := Config.openDirection s.freeIndex }

/-- Whether replacing a plan raises PLAN (R70). -/
def planNews (old : Option Plan) (new : Plan) : Bool :=
  match old with
  | none => true
  | some p =>
    decide (p.mode ≠ new.mode) || decide (p.direction ≠ new.direction) || decide (p.target ≠ new.target)
      || decide (p.feasible ≠ new.feasible)

/-- A plan written into the lift context by a run: trapped minutes brought up to `now`, the plan replaced, PLAN raised
where R70 asks for it. Each run uses up one free value. -/
def State.writePlan (s : State) (l : Lift) (now : TimeTag) (p : Plan) : State :=
  let c := s.lift l
  let s' := { s.setLift l { c with trappedMinutes := trappedAt now c.stallSince c.trappedMinutes, plan := some p } with
    freeIndex := s.freeIndex + 1 }
  if planNews c.plan p then s'.raiseLift l .plan else s'

/-- A free run for a lift (R56). -/
def State.runPlanner (s : State) (l : Lift) (now : TimeTag) : State := s.writePlan l now (planFree (planInput s l now))

/-- A directed run for a lift (R56, R63). -/
def State.runDirected (s : State) (l : Lift) (now : TimeTag) (mode : Mode) (dir : Direction) : State :=
  s.writePlan l now (planDirected (planInput s l now) mode dir)

end Sys2Proof.Machine
end

