-- ==== Sys2Proof/Machine/Queue.lean ====
section
/-! DEFINITION. The admission queue: its order, insertion, departure and re-sorting (R78, R79). -/

namespace Sys2Proof.Machine

/-- The merit a lift is ranked by: that of its plan (R78). -/
def LiftContext.merit (c : LiftContext) : Nat :=
  match c.plan with
  | some p => p.merit
  | none => 0

/-- The queue entry time a lift is ranked by (R78). -/
def LiftContext.entryTime (c : LiftContext) : TimeTag :=
  match c.queueData with
  | some q => q.entryTime
  | none => 0

/-- Queue entry time a is earlier than b, compared across the wrap (R78). -/
def earlier (a b : TimeTag) : Bool := decide (1 ≤ elapsed b a ∧ elapsed b a ≤ 2147483647)

/-- The order of two entries of the queue: greater merit, then earlier entry, then lower lift number (R78). -/
def goesBefore (s : State) (a b : Lift) : Bool :=
  let ca := s.lift a
  let cb := s.lift b
  if ca.merit ≠ cb.merit then decide (cb.merit < ca.merit)
  else if earlier ca.entryTime cb.entryTime then true
  else if earlier cb.entryTime ca.entryTime then false
  else decide (a < b)

/-- A lift inserted at the place its keys give (R79). -/
def insertByKeys (s : State) (l : Lift) : List Lift → List Lift
  | [] => [l]
  | x :: xs => if goesBefore s l x then l :: x :: xs else x :: insertByKeys s l xs

/-- A lift put at the place its keys give, at its entry into the queue and when its merit changes. No other entry
changes its order relative to the rest (R79). -/
def State.enqueue (s : State) (l : Lift) : State :=
  { s with queue := insertByKeys s l (s.queue.filter (· ≠ l)) }

/-- A lift taken out of the queue with its queue data (R79). -/
def State.dequeue (s : State) (l : Lift) : State :=
  { s.modLift l fun c => { c with queueData := none } with queue := s.queue.filter (· ≠ l) }

/-- A QUEUED lift leaves the queue by a cause other than a grant, which calls an evaluation (R79, R80). Any other lift
is left as it is. -/
def State.leaveQueue (s : State) (l : Lift) : State :=
  if (s.lift l).state = .queued then (s.dequeue l).callAdmission else s

end Sys2Proof.Machine
end

