-- ==== Sys2Proof/Machine/Lifts.lean ====
section
/-! DEFINITION. Rescue states of a lift: entry into NORMAL, MANUAL, QUEUED and RELEASED, the STALLED evaluation, the
replan of a QUEUED lift (R11 to R13, R17, R18), entry into and departure from service (R7, R8). -/

namespace Sys2Proof.Machine

/-- Entry into NORMAL (R12). A QUEUED lift leaves the queue first (R13). -/
def State.enterNormal (s : State) (l : Lift) : State :=
  ((s.leaveQueue l).modLift l fun c =>
      { c with suspectCount := 0, trappedMinutes := 0, attempt := 1, stallSince := none, plan := none, queueData := none,
               manualReason := none, beforeOffline := none }).enter l .normal

/-- Entry into MANUAL with a reason (R18). A QUEUED lift leaves the queue first (R13, R23). -/
def State.enterManual (s : State) (l : Lift) (why : ManualReason) : State :=
  ((s.leaveQueue l).modLift l fun c =>
      { c with manualReason := some why, queueData := none, rescue := none, beforeOffline := none }).enter l .manual

/-- Entry into QUEUED, with the "now" of the run as queue entry time (R11). -/
def State.enterQueued (s : State) (l : Lift) (now : TimeTag) : State :=
  (((s.modLift l fun c => { c with queueData := some { entryTime := now, bypass := 0 } }).enter l .queued).enqueue
    l).callAdmission

/-- The manual reason of a lift's infeasible plan (R11, R13). -/
def LiftContext.planReason (c : LiftContext) : ManualReason :=
  match c.plan.bind (·.reason) with
  | some r => r.manualReason
  | none => .noUsableLanding

/-- Whether the plan of a lift is feasible. -/
def LiftContext.planFeasible (c : LiftContext) : Bool :=
  match c.plan with
  | some p => p.feasible
  | none => false

/-- Step 3 of the STALLED evaluation: the planner runs, and a lift that is not held leaves for QUEUED or MANUAL (R11). -/
def State.planStalled (s : State) (l : Lift) (now : TimeTag) : State :=
  let s := s.runPlanner l now
  if (s.lift l).hold then s
  else if (s.lift l).planFeasible then s.enterQueued l now
  else s.enterManual l (s.lift l).planReason

/-- The STALLED evaluation (R11), with the verdict of the last report. With no last report, which no run reaches, the
planner runs (log 14). -/
def State.evaluateStalled (s : State) (l : Lift) (now : TimeTag) : State :=
  match (s.lift l).lastReport with
  | some r =>
    if !r.verdict.trapping then s.enterNormal l
    else if r.verdict.cls = .stallNoAuto then s.enterManual l .noAutoFault
    else s.planStalled l now
  | none => s.planStalled l now

/-- Entry into STALLED, on which the STALLED evaluation runs (R11). -/
def State.enterStalled (s : State) (l : Lift) (now : TimeTag) : State := (s.enter l .stalled).evaluateStalled l now

/-- The replan of a QUEUED lift (R13): infeasible to MANUAL, else the lift stays, re-sorted when its merit has changed. -/
def State.replanQueued (s : State) (l : Lift) (now : TimeTag) : State :=
  let old := (s.lift l).plan.map (·.merit)
  let s := s.runPlanner l now
  if !(s.lift l).planFeasible then s.enterManual l (s.lift l).planReason
  else if old = (s.lift l).plan.map (·.merit) then s
  else (s.enqueue l).callAdmission

/-- Entry into RELEASED; CLEAR is raised when the car is empty at entry (R17). -/
def State.enterReleased (s : State) (l : Lift) : State :=
  let s := (s.modLift l fun c => { c with rescue := none }).enter l .released
  if (s.lift l).occupancy = some 0 then s.raiseLift l .clear else s

/-- Entry into service (R7); the last-copy record is removed (R153). The entry has been written. -/
def State.enterService (s : State) (l : Lift) : State :=
  ((s.modLift l fun c => LiftContext.fresh c.entry c.landings c.state).enter l .normal).setLastCopy l none

/-- The poll of a lift that leaves service during its tries or its confirmation hands on nothing further, even when the
lift enters service again before the exchange ends (R131, R137, log 41). -/
def ScanPhase.abandon (p : ScanPhase) (l : Lift) : ScanPhase :=
  match p with
  | .working start gap (.poll d asked left) =>
    if d.kind = .pollLift ∧ liftOfNumber d.lift = some l then .working start gap .abandoned
    else .working start gap (.poll d asked left)
  | .working start gap (.confirm d first) =>
    if liftOfNumber d.lift = some l then .working start gap .abandoned else .working start gap (.confirm d first)
  | p => p

/-- The poll of a lift in flight, if there is one, abandoned. -/
def State.abandonPoll (s : State) (l : Lift) : State :=
  { s with scan := { s.scan with phase := s.scan.phase.abandon l } }

/-- Departure from service (R8): every runtime field as R7 gives, the order slot emptied, the last-copy record removed, a
poll of the lift abandoned (R131). -/
def State.leaveService (s : State) (l : Lift) : State :=
  ((((s.modLift l fun c => LiftContext.fresh c.entry c.landings c.state).enter l .excluded).setSlot l
    none).setLastCopy l none).abandonPoll l

end Sys2Proof.Machine
end

