-- ==== Sys2Proof/Machine/Execution.lean ====
section
/-! DEFINITION. The Step Sequencer: entering and ending steps, each kind of step, the CREEP step, ABORT, EXTEND STEP, and
the eight ways an execution ends (R16, R92 to R109). -/

namespace Sys2Proof.Machine

/-- A stored 0 read as 1 (R89). -/
def atLeastOne (n : Nat) : Nat := if n = 0 then 1 else n

/-- A step record of a recipe bank (R89). -/
def State.stepRecord (s : State) (bank : RecipeBankId) (index : Nat) : StepRecord :=
  match bank with
  | .bank0 => s.recipes.bank0.toList.getD index StepRecord.powerOn
  | .bank1 => s.recipes.bank1.toList.getD index StepRecord.powerOn

/-- The record of the step a lift's execution runs, read from the captured bank (R91). -/
def State.runningStep (s : State) (l : Lift) : Option StepRecord :=
  (s.lift l).rescue.map fun r => s.stepRecord r.bank r.step

/-- The rescue record of a lift changed by a function. -/
def State.modRescue (s : State) (l : Lift) (f : RescueRecord → RescueRecord) : State :=
  s.modLift l fun c => { c with rescue := c.rescue.map f }

/-- The CREEP working values of a lift changed by a function. -/
def State.modCreep (s : State) (l : Lift) (f : CreepWork → CreepWork) : State :=
  s.modRescue l fun r => { r with working := { r.working with creep := r.working.creep.map f } }

/-- The running step is a CREEP step. -/
def State.inCreep (s : State) (l : Lift) : Bool :=
  match s.runningStep l with
  | some sr => decide (sr.action = .creep)
  | none => false

/-- The CREEP working values of a lift. -/
def State.creepWork (s : State) (l : Lift) : Option CreepWork := (s.lift l).rescue.bind (·.working.creep)

/-! ### Releases and the end of an execution (R16, R85, R86) -/

/-- The end of the first CREEP step releases the creep reservation and calls an evaluation (R85). The record keeps the
figure of the grant beside the creep-released flag (log 36). -/
def State.releaseCreep (s : State) (l : Lift) : State :=
  match (s.lift l).rescue with
  | some r =>
    if r.creepReleased then s
    else ({ s.modRescue l fun r => { r with creepReleased := true } with
              outstanding := s.outstanding - r.creepReservation }).callAdmission
  | none => s

/-- What an execution still holds of the outstanding reservation (R86). -/
def RescueRecord.held (r : RescueRecord) : Nat :=
  r.doorReservation + if r.creepReleased then 0 else r.creepReservation

/-- Step 1 of every ending: the rescue record is removed, what it holds is released, and an order still pending takes the
part as its poster (R16). -/
def State.dropExecution (s : State) (l : Lift) : State :=
  match (s.lift l).rescue with
  | some r =>
    let s := { s.modLift l fun c => { c with rescue := none } with outstanding := s.outstanding - r.held }
    match s.slot l with
    | some o => s.setSlot l (some { o with poster := .part })
    | none => s
  | none => s

/-- The ways an execution ends (R16). -/
inductive Ending
  | reached (outcome : EndOutcome)
  | stepLimit
  | safety
  | lostContact
deriving DecidableEq, Repr

/-- END RETRY: another attempt through STALLED, or MANUAL when the attempts are used up (R16). -/
def State.endRetry (s : State) (l : Lift) (now : TimeTag) : State :=
  if (s.lift l).attempt < (s.lift l).entry.maxAttempts then
    (s.modLift l fun c => { c with attempt := c.attempt + 1 }).enterStalled l now
  else s.enterManual l .attemptsExhausted

/-- An execution ends: step 1, then the new state, then the call of an evaluation (R16). -/
def State.endExecution (s : State) (l : Lift) (why : Ending) (now : TimeTag) : State :=
  let aborted := match (s.lift l).rescue with
    | some r => r.abortPending
    | none => false
  let s := s.dropExecution l
  let s :=
    match why with
    | .reached outcome =>
      if aborted then s.enterManual l .aborted
      else
        match outcome with
        | .released => s.enterReleased l
        | .retry => s.endRetry l now
        | .manual => s.enterManual l .stepFailed
    | .stepLimit => s.enterManual l .stepLimit
    | .safety => (s.postPartStop l).enterManual l .noAutoFault
    | .lostContact => (s.setSlot l none).enterManual l .lostContact
  s.callAdmission

/-! ### Ending a step (R94) -/

/-- The step's own ordinary order withdrawn from the slot (R94, R140). -/
def State.withdrawOwn (s : State) (l : Lift) : State :=
  match s.slot l, (s.lift l).rescue with
  | some o, some r => if !o.kind.isStop && decide (o.poster = .entry r.budget) then s.setSlot l none else s
  | _, _ => s

/-- Whether a step posts orders: ORDER and CREEP. -/
def StepAction.posts : StepAction → Bool
  | .order .. => true
  | .creep => true
  | _ => false

/-- What is done when a step ends done (`ok`) or in fail, before the next entry (R94). -/
def State.closeStep (s : State) (l : Lift) (sr : StepRecord) (ok : Bool) : State :=
  let s := if sr.action.posts then s.withdrawOwn l else s
  let s := if sr.action = .creep then s.releaseCreep l else s
  let s := if ok && sr.notify then s.raiseLift l .step else s
  s.modRescue l fun r => { r with working := Working.empty }

/-- The end of a step with the step entered next: its chain, or the abort recipe start when an abort was deferred in it
(R94, R108). -/
def State.leaveStep (s : State) (l : Lift) (sr : StepRecord) (ok : Bool) : State × Nat :=
  let deferred := match s.creepWork l with
    | some w => w.abortDeferred
    | none => false
  let s := s.closeStep l sr ok
  if deferred then (s.modRescue l fun r => { r with stack := [] }, (s.lift l).entry.abortStart)
  else (s, if ok then sr.chainDone else sr.chainFail)

/-! ### Entry actions (R97, R100 to R102) -/

/-- The landing an OPEN DOORS step names: the plan's target, or in MARKER mode the landing of the last report's marker
(R97). -/
def LiftContext.doorLanding (c : LiftContext) : Option Nat :=
  match c.plan with
  | none => none
  | some p => if p.mode = .marker then c.lastReport.bind (·.report.marker) else p.target

/-- The order an ORDER step posts, or none when OPEN DOORS finds no landing (R97). A marker that names no landing of a list
shortened since its report arrived finds none (log 37). -/
def LiftContext.stepOrder (c : LiftContext) (k : StepOrder) (message : Nat) : Option OrderKind :=
  match k with
  | .isolateMains => some .isolateMains
  | .armRescue => some .armRescue
  | .stopAndHold => some .stopAndHold
  | .announce => some (.announce message)
  | .disarm => some .disarm
  | .openDoors =>
    c.doorLanding.bind fun i => (c.landings[i]?).map fun d => .openDoors i d.side

/-- The entry that runs (R93): the budget used. -/
def LiftContext.runningEntry (c : LiftContext) : Nat :=
  match c.rescue with
  | some r => r.budget
  | none => 0

/-- An ORDER step entered: its order is posted, or the step ends in fail within its entry (R97). -/
def State.enterOrder (s : State) (l : Lift) (sr : StepRecord) (k : StepOrder) (message : Nat) : State × Option Nat :=
  match (s.lift l).stepOrder k message with
  | none => let e := s.leaveStep l sr false; (e.1, some e.2)
  | some kind =>
    let p := s.post l kind (.entry (s.lift l).runningEntry) (atLeastOne sr.count)
    if p.2 then (p.1, none) else let e := p.1.leaveStep l sr false; (e.1, some e.2)

/-- The landing a CREEP order names for a plan: its target, or in MARKER mode the end landing of its direction (R102). -/
def LiftContext.firstOrdered (c : LiftContext) (p : Plan) : Nat :=
  match p.target with
  | some t => t
  | none =>
    match p.direction with
    | .up => c.landings.length - 1
    | .down => 0

/-- The CREEP order of the running step for an ordered landing (R102, R103). -/
def State.creepOrder (s : State) (l : Lift) (dir : Direction) (landing : Nat) : OrderKind :=
  .creep dir (s.lift l).entry.rescueSpeed landing s.params.creepHoldTime

/-- What a CREEP entry decides on its new plan (R102). -/
inductive CreepStart
  | fail | done | go (dir : Direction) (landing : Nat)
deriving DecidableEq, Repr

/-- The tests of a CREEP entry, in the order of R102, on the context after the free run. -/
def LiftContext.creepStart (c : LiftContext) (oldDirection : Option Direction) : CreepStart :=
  match c.plan, c.rescue with
  | some p, some r =>
    if !p.feasible then .fail
    else if p.distance = 0 then .done
    else if oldDirection ≠ some p.direction then .fail
    else if r.originalDistance < p.distance then .fail
    else .go p.direction (c.firstOrdered p)
  | _, _ => .fail

/-- A CREEP step entered (R102). Creep seen becomes yes while the Scan Engine runs (R129). -/
def State.enterCreep (s : State) (l : Lift) (sr : StepRecord) (now : TimeTag) : State × Option Nat :=
  let oldDirection := (s.lift l).plan.map (·.direction)
  let s := { s with scan := { s.scan with creepSeen := s.scan.creepSeen || s.scan.running } }
  let s := s.runPlanner l now
  match (s.lift l).creepStart oldDirection with
  | .fail => let e := s.leaveStep l sr false; (e.1, some e.2)
  | .done => let e := s.leaveStep l sr true; (e.1, some e.2)
  | .go dir landing =>
    let p := s.post l (s.creepOrder l dir landing) (.entry (s.lift l).runningEntry) (atLeastOne sr.count)
    if p.2 then
      let w : CreepWork :=
        { reload := atLeastOne sr.timeout, startPosition := (s.lift l).pos.position, orderedLanding := landing,
          markerSeen := (s.lift l).lastReport.bind (·.report.marker), accepted := false, abortDeferred := false }
      (p.1.modRescue l fun r => { r with working := { r.working with creep := some w } },
        none)
    else let e := p.1.leaveStep l sr false; (e.1, some e.2)

/-- A CALL step entered (R100). -/
def State.enterCall (s : State) (l : Lift) (sr : StepRecord) (r : RescueRecord) (target : Nat) : State × Option Nat :=
  if r.stack.length < Config.stackDepth then
    ((s.modRescue l fun r => { r with stack := sr.chainDone :: r.stack }).closeStep l sr true, some target)
  else (s.closeStep l sr false, some sr.chainFail)

/-- A RETURN step entered (R100). The index last pushed is the head of the stack. -/
def State.enterReturn (s : State) (l : Lift) (sr : StepRecord) (r : RescueRecord) : State × Option Nat :=
  match r.stack with
  | i :: _ => ((s.modRescue l fun r => { r with stack := r.stack.tail }).closeStep l sr true, some i)
  | [] => (s.closeStep l sr false, some sr.chainFail)

/-- The working values a step starts with (R93). -/
def Working.entered (sr : StepRecord) (now : TimeTag) : Working :=
  let timed := match sr.action with
    | .call _ => false
    | .ret => false
    | .finish _ => false
    | _ => true
  { repeats := 0, timer := if timed then some { loadedAt := now, ds := atLeastOne sr.timeout } else none, creep := none }

/-- One entry (R93): the budget, the working values, the entry action. It answers the step to enter next when the step
completes within its entry. -/
def State.enterOnce (s : State) (l : Lift) (index : Nat) (now : TimeTag) : State × Option Nat :=
  match (s.lift l).rescue with
  | none => (s, none)
  | some r =>
    if Config.stepBudget ≤ r.budget then (s.endExecution l .stepLimit now, none)
    else
      let sr := s.stepRecord r.bank index
      let r' := { r with budget := r.budget + 1, step := index, working := Working.entered sr now }
      let s := s.modRescue l fun _ => r'
      match sr.action with
      | .wait _ => (s, none)
      | .pause => (s, none)
      | .order k m => s.enterOrder l sr k m
      | .creep => s.enterCreep l sr now
      | .call target => s.enterCall l sr r' target
      | .ret => s.enterReturn l sr r'
      | .finish outcome => (s.endExecution l (.reached outcome) now, none)

/-- Entries one after the other while each step completes within its entry (R93). The first argument bounds them. -/
def State.runEntries : Nat → State → Lift → Nat → TimeTag → State
  | 0, s, _, _, _ => s
  | n + 1, s, l, index, now =>
    match s.enterOnce l index now with
    | (s', none) => s'
    | (s', some next) => State.runEntries n s' l next now

/-- A step entered, and all that completes within the same event. No execution makes more than 32 entries and a 33rd
that ends it (R93), so the bound is never reached (log 25). -/
def State.startStep (s : State) (l : Lift) (index : Nat) (now : TimeTag) : State :=
  State.runEntries (Config.stepBudget + 1) s l index now

/-- The running step ends done or in fail, and the next step is entered (R94). -/
def State.endStep (s : State) (l : Lift) (ok : Bool) (now : TimeTag) : State :=
  match s.runningStep l with
  | some sr => let e := s.leaveStep l sr ok; e.1.startStep l e.2 now
  | none => s

/-! ### The running CREEP step (R103 to R105) -/

/-- The direction of the running creep: that of the plan, which a directed run keeps (R63, R103). -/
def LiftContext.creepDirection (c : LiftContext) : Direction :=
  match c.plan with
  | some p => p.direction
  | none => .down

/-- A renewal of the CREEP order (R103). Met by a pending STOP-class order it is discarded, and the step ends in fail. -/
def State.renewCreep (s : State) (l : Lift) (now : TimeTag) : State :=
  match s.runningStep l, s.creepWork l with
  | some sr, some w =>
    let p := s.post l (s.creepOrder l (s.lift l).creepDirection w.orderedLanding) (.entry (s.lift l).runningEntry)
      (atLeastOne sr.count)
    if p.2 then p.1 else p.1.endStep l false now
  | _, _ => s

/-- The ordered landing changed and a renewal posted at once (R104, R105, R108). -/
def State.orderLanding (s : State) (l : Lift) (landing : Nat) (now : TimeTag) : State :=
  (s.modCreep l fun w => { w with orderedLanding := landing }).renewCreep l now

/-- What a report decides for a running CREEP step: tests 1 to 3 of R104, `none` when the step runs on. A stop at an ordered
landing that is the plan's target ends it done, even where R105 has ordered a target beyond the original plan distance
(log 44). -/
def creepVerdict (zones : BitVec 32) (c : LiftContext) (w : CreepWork) (r : Report) : Option Bool :=
  let p := c.plan
  let inMarker := match p with
    | some p => decide (p.mode = .marker)
    | none => false
  let target := p.bind (·.target)
  let arrival : Option Bool :=
    match r.motion, r.marker with
    | .stopped, some m =>
      if m = w.orderedLanding then
        some (w.abortDeferred || (if inMarker then usableAt zones c.landings m else decide (target = some m)))
      else if inMarker && usableAt zones c.landings m then some true
      else none
    | _, _ => none
  match arrival with
  | some ok => some ok
  | none =>
    if w.accepted && decide (r.ack = .holdExpired) then some false
    else
      let back := match c.creepDirection with
        | .up => w.startPosition - c.pos.position
        | .down => c.pos.position - w.startPosition
      if Config.reverseLimit ≤ back then some false else none

/-- A report taken by the running CREEP step (R104). `now` is the report's arrival. -/
def State.creepReport (s : State) (l : Lift) (r : Report) (now : TimeTag) : State :=
  match s.creepWork l with
  | none => s
  | some w =>
    match creepVerdict s.hazard (s.lift l) w r with
    | some ok => s.endStep l ok now
    | none =>
      let progress := r.marker.isSome && decide (r.marker ≠ w.markerSeen)
      let s := s.modRescue l fun rr =>
        { rr with working := { rr.working with
            timer := if progress then some { loadedAt := now, ds := w.reload } else rr.working.timer
            creep := some { w with markerSeen := r.marker } } }
      let inMarker := match (s.lift l).plan with
        | some p => decide (p.mode = .marker)
        | none => false
      match r.marker with
      | some m =>
        if inMarker && !w.abortDeferred && usableAt s.hazard (s.lift l).landings m && decide (r.motion ≠ .stopped) then
          s.orderLanding l m now
        else s
      | none => s

/-- A report handed to the running step (R15): WAIT counts it, CREEP examines it, no other step acts on it (R96, R97,
R99). -/
def State.stepReport (s : State) (l : Lift) (r : Report) (now : TimeTag) : State :=
  match s.runningStep l with
  | none => s
  | some sr =>
    match sr.action with
    | .wait condition =>
      let repeats := match (s.lift l).rescue with
        | some rr => if condition.holds r (s.lift l).occupancy then rr.working.repeats + 1 else 0
        | none => 0
      let s := s.modRescue l fun rr => { rr with working := { rr.working with repeats := repeats } }
      if atLeastOne sr.count ≤ repeats then s.endStep l true now else s
    | .creep => s.creepReport l r now
    | _ => s

/-- The hazard replan of a RESCUING lift (R54, R105). A target found beyond the original plan distance can itself be the
nearest landing ahead, and is then ordered as such (log 44). -/
def State.replanRescuing (s : State) (l : Lift) (now : TimeTag) : State :=
  match s.creepWork l, (s.lift l).plan, (s.lift l).rescue with
  | some w, some p, some rr =>
    let targetUsable := match p.target with
      | some t => usableAt s.hazard (s.lift l).landings t
      | none => false
    if w.abortDeferred || decide (p.mode = .marker) || targetUsable then s
    else
      let s := s.runDirected l now p.mode p.direction
      let within := match (s.lift l).plan with
        | some q => if q.distance ≤ rr.originalDistance then q.target else none
        | none => none
      match within with
      | some t => s.orderLanding l t now
      | none =>
        match nextLanding (s.lift l).landings p.direction (s.lift l).pos.position with
        | some i => s.orderLanding l i now
        | none => s.endStep l false now
  | _, _, _ => s

/-! ### Order outcomes, timers, ABORT and EXTEND STEP (R95, R98, R106 to R108) -/

/-- An order outcome delivered to the step that posted it, or dropped (R98). -/
def State.deliver (s : State) (l : Lift) (poster : Poster) (accepted : Bool) (now : TimeTag) : State :=
  match s.runningStep l with
  | none => s
  | some sr =>
    if poster = .entry (s.lift l).runningEntry then
      match sr.action with
      | .order .. => s.endStep l accepted now
      | .creep => if accepted then s.modCreep l fun w => { w with accepted := true } else s.endStep l false now
      | _ => s
    else s

/-- The running step timer of a lift (R92). -/
def State.stepTimer (s : State) (l : Lift) : Option StepTimer := (s.lift l).rescue.bind (·.working.timer)

/-- The loaded time has passed (R95). -/
def StepTimer.expired (t : StepTimer) (now : TimeTag) : Bool := decide (t.ds * 100 ≤ elapsed now t.loadedAt)

/-- The step timer expiry (R95): done for a PAUSE, fail for any other step. -/
def State.expireStep (s : State) (l : Lift) (now : TimeTag) : State :=
  match s.stepTimer l, s.runningStep l with
  | some t, some sr => if t.expired now then s.endStep l (decide (sr.action = .pause)) now else s
  | _, _ => s

/-- An ABORT taken at once (R107). -/
def State.abortNow (s : State) (l : Lift) (now : TimeTag) : State :=
  let s := s.modRescue l fun r => { r with abortPending := true }
  let s := if s.inCreep l then s.releaseCreep l else s
  let s := (s.postPartStop l).modRescue l fun r => { r with stack := [], working := Working.empty }
  s.startStep l (s.lift l).entry.abortStart now

/-- The last report shows a moving car. -/
def LiftContext.moving (c : LiftContext) : Bool :=
  match c.lastReport with
  | some r => decide (r.report.motion ≠ .stopped)
  | none => false

/-- An accepted ABORT (R107, R108): nothing when one is pending, deferred in a moving CREEP with a landing ahead, taken at
once otherwise. -/
def State.abortExecution (s : State) (l : Lift) (now : TimeTag) : State :=
  match (s.lift l).rescue with
  | none => s
  | some r =>
    if r.abortPending then s
    else if s.inCreep l && (s.lift l).moving then
      match nextLanding (s.lift l).landings (s.lift l).creepDirection (s.lift l).pos.position with
      | some i =>
        let s := s.modRescue l fun r => { r with abortPending := true }
        (s.modCreep l fun w => { w with abortDeferred := true }).orderLanding l i now
      | none => s.abortNow l now
    else s.abortNow l now

end Sys2Proof.Machine
end

