-- ==== Sys2Proof/Machine/Admission.lean ====
section
/-! DEFINITION. The Admission Arbiter: gate, walk, grant, evaluation (R77, R80 to R84), the POWER REPORT (R74, R76), the
power stale expiry (R75). -/

namespace Sys2Proof.Machine

/-- The headroom (R77), a signed figure. -/
def State.headroom (s : State) : Int := (s.reservoir.level : Int) - s.params.reserveFloor - s.outstanding

/-- The number of lifts in RESCUING: the contexts that hold a rescue record (R81). -/
def State.rescuingCount (s : State) : Nat := (allLifts.filter fun l => (s.lift l).rescue.isSome).length

/-- The gate of an admission walk (R81). -/
def State.gateOpen (s : State) : Bool :=
  !s.reservoir.stale && decide (s.reservoir.state ≠ .fault)
    && decide (s.rescuingCount < min s.params.concurrencyLimit s.reservoir.feedCount) && !s.queue.isEmpty

/-- The total cost the fit test weighs (R82). -/
def LiftContext.totalCost (c : LiftContext) : Nat :=
  match c.plan with
  | some p => p.totalCost
  | none => 0

/-- The bypass count of a queued lift (R78). -/
def LiftContext.bypass (c : LiftContext) : Nat :=
  match c.queueData with
  | some q => q.bypass
  | none => 0

/-- The fit test (R82): never with a negative headroom. -/
def State.fits (s : State) (l : Lift) : Bool := decide (0 ≤ s.headroom ∧ ((s.lift l).totalCost : Int) ≤ s.headroom)

/-- One admission walk along the queue (R82): the lift granted with the entries passed over, or none. -/
def State.walk (s : State) : List Lift → List Lift → Option (Lift × List Lift)
  | [], _ => none
  | l :: ls, passed =>
    if s.fits l then some (l, passed)
    else if s.params.bypassGuard ≤ (s.lift l).bypass then none
    else s.walk ls (passed ++ [l])

/-- The bypass count of a lift raised by 1, saturating at 15 (R82). -/
def State.raiseBypass (s : State) (l : Lift) : State :=
  s.modLift l fun c => { c with queueData := c.queueData.map fun q => { q with bypass := min 15 (q.bypass + 1) } }

/-- The start step of a plan (R14, R84). -/
def LiftContext.startIndex (c : LiftContext) : Nat :=
  match c.plan with
  | some p => if p.mode = .gravity then c.entry.gravityStart else c.entry.assistedStart
  | none => c.entry.assistedStart

/-- The rescue record a grant creates (R14). -/
def LiftContext.newRescue (c : LiftContext) (bank : RecipeBankId) : RescueRecord :=
  { bank := bank, step := c.startIndex, budget := 0, stack := [],
    creepReservation := (c.plan.map (·.creepCost)).getD 0, doorReservation := (c.plan.map (·.doorCost)).getD 0,
    creepReleased := false, abortPending := false, attempt := c.attempt,
    originalDistance := (c.plan.map (·.distance)).getD 0, working := Working.empty }

/-- Steps 1 to 3 of a grant: the queue and the bypass counts, the outstanding reservation, the lift context (R84). -/
def State.beginRescue (s : State) (l : Lift) (passed : List Lift) : State :=
  let s := passed.foldl State.raiseBypass (s.dequeue l)
  let r := (s.lift l).newRescue s.recipes.active
  ({ s.modLift l fun c => { c with rescue := some r } with
      outstanding := s.outstanding + (r.creepReservation + r.doorReservation) }).enter l .rescuing

/-- A grant (R84): steps 1 to 3, then the execution starts. -/
def State.grant (s : State) (l : Lift) (passed : List Lift) (now : TimeTag) : State :=
  (s.beginRescue l passed).startStep l (s.lift l).startIndex now

/-- Walks repeated under the gate while each makes a grant (R80, R83). The first argument bounds them. -/
def State.walks : Nat → State → TimeTag → State
  | 0, s, _ => s
  | n + 1, s, now =>
    if s.gateOpen then
      match s.walk s.queue [] with
      | some (l, passed) => State.walks n (s.grant l passed now) now
      | none => s
    else s

/-- A bound on the grants of one evaluation: a lift can be granted again only through END RETRY, which uses up an attempt
(R16, R83, log 25). -/
def State.walkBound (s : State) : Nat :=
  (allLifts.map fun l => (s.lift l).entry.maxAttempts + 1 - (s.lift l).attempt + 1).sum + 1

/-- One admission evaluation, taken whole (R80). What its grants bring about is taken into it (R83), so no further
evaluation is owed after it. -/
def State.evaluateAdmission (s : State) (now : TimeTag) : State :=
  { State.walks s.walkBound s now with admissionDue := false }

/-- The evaluation an event has called, if it has called one (R80). -/
def State.settle (s : State) (now : TimeTag) : State := if s.admissionDue then s.evaluateAdmission now else s

/-! ### Reservoir view -/

/-- Whether a POWER REPORT raises RESERVOIR LOW, against the view before it (R76). -/
def State.reportsLow (s : State) (level : Nat) : Bool :=
  decide (level < s.params.reserveFloor) && (decide (s.params.reserveFloor ≤ s.reservoir.level) || s.reservoir.stale)

/-- A POWER REPORT taken (R74), with its arrival time tag. -/
def State.takePower (s : State) (p : List Word) (now : TimeTag) : State :=
  let level := (wordAt p 0).toNat
  let s := if s.reportsLow level then s.raiseStation .reservoirLow else s
  ({ s with reservoir :=
      { level := level, feedCount := decodeFeed (field (wordAt p 1) 0 3),
        state := PowerState.ofCode (field (wordAt p 1) 8 3), reportTime := some now, stale := false } }).callAdmission

/-- The power stale time has been reached with the flag clear (R75). -/
def State.powerStaleDue (s : State) (now : TimeTag) : Bool :=
  match s.reservoir.reportTime with
  | some t => !s.reservoir.stale && decide (s.params.powerStaleTime * 1000 ≤ elapsed now t)
  | none => false

/-- The power stale expiry, when it is due (R75). -/
def State.expirePower (s : State) (now : TimeTag) : State :=
  if s.powerStaleDue now then ({ s with reservoir := { s.reservoir with stale := true } }).raiseStation .powerStale else s

end Sys2Proof.Machine
end

