-- ==== Sys2Proof/Machine/Link.lean ====
section
/-! DEFINITION. The Station Link Port: arrivals and silence (R149 to R151), the reply FIFOs and the arbitration (R152),
report copies (R153), the building of notices (R154, R155). -/

namespace Sys2Proof.Machine

/-! ### Feeding the transmit side -/

/-- A management reply joins its FIFO (R150, R156). -/
def State.reply (s : State) (status code : Nat) (ws : List Word) : State :=
  { s with link := { s.link with mgmtReplies := s.link.mgmtReplies ++ [replyFrame status code ws] } }

/-- A command reply joins its FIFO, or is dropped when the FIFO is full (R152). All replies of one event meet the FIFO before
a free transmitter takes the first, so a fifth is dropped (log 43). -/
def State.commandReply (s : State) (f : Frame) : State :=
  if s.link.cmdReplies.length < Config.replyFifoSize then
    { s with link := { s.link with cmdReplies := s.link.cmdReplies ++ [f] } }
  else s

/-- The report copy filter (R153). -/
def State.offerCopy (s : State) (l : Lift) (payload : List Word) (r : Report) : State :=
  if s.link.isolated then s
  else if s.lastCopy l = some r.toReportFields then s
  else if s.link.copies.length < Config.copyFifoSize then
    { s with link := { s.link with copies := s.link.copies ++ [copyFrame (s.lift l).entry.ringNode payload] } }.setLastCopy
      l (some r.toReportFields)
  else s

/-! ### Notices -/

/-- The payload of a lift notice, from the context as it stands (R155). -/
def liftNotice (number : Nat) (c : LiftContext) (reasons : Word) (now : TimeTag) : List Word :=
  [ wordOf (number * 256 + c.state.code), reasons,
    wordOf ((c.manualReason.map (·.code)).getD 0 * 256 + occupancyCode c.occupancy),
    wordOf ((c.plan.bind (·.target)).getD 15 * 256 + c.trappedMinutes),
    wordOf c.pos.position, wordOf ((c.plan.map (·.merit)).getD 0) ] ++ tagWords now

/-- The payload of a station notice (R155). -/
def stationNotice (reasons : Word) (now : TimeTag) : List Word := [15#16, reasons, 0, 0, 0, 0] ++ tagWords now

/-- The RESCUE NOTICE of an entry, built as its transmission begins (R155). -/
def State.buildNotice (s : State) (e : NoticeEntry) : Frame :=
  noticeFrame <|
    match liftOfNumber e.number with
    | some l => liftNotice e.number (s.lift l) e.reasons s.time
    | none => stationNotice e.reasons s.time

/-! ### Arbitration (R152) -/

/-- The next upward frame and the port without it: management replies, command replies, notices unless ISOLATED, report
copies (R152). -/
def State.nextUpward (s : State) : Option (Frame × LinkPort) :=
  match s.link.mgmtReplies with
  | f :: fs => some (f, { s.link with mgmtReplies := fs })
  | [] =>
    match s.link.cmdReplies with
    | f :: fs => some (f, { s.link with cmdReplies := fs })
    | [] =>
      match (if s.link.isolated then [] else s.link.notices) with
      | e :: es => some (s.buildNotice e, { s.link with notices := es })
      | [] =>
        match s.link.copies with
        | f :: fs => some (f, { s.link with copies := fs })
        | [] => none

/-- A free transmitter takes the next upward frame; the frame leaves its source as its transmission begins (R152). -/
def State.transmit (s : State) : State :=
  match s.link.transmitting with
  | some _ => s
  | none =>
    match s.nextUpward with
    | some (f, port) => { s with link := { port with transmitting := some f.words } }
    | none => s

/-- The end of an upward frame's transmission (R152). -/
def State.endTransmission (s : State) : State := { s with link := { s.link with transmitting := none } }

/-- The end of every command: the admission evaluation still owed is made (R80), then a free transmitter takes its next
frame (R152, log 5), after all COMMAND REPLYs of the event have met their FIFO (log 43). -/
def State.finish (s : State) (now : TimeTag) : State := (s.settle now).transmit

/-! ### Arrivals and silence (R149 to R151) -/

/-- A valid arrival restarts the link silence timer and clears ISOLATED (R150, R151). -/
def State.arrive (s : State) (now : TimeTag) : State :=
  { s with link := { s.link with lastArrival := now, isolated := false } }

/-- The link silence time has been reached with ISOLATED clear (R151). -/
def State.silenceDue (s : State) (now : TimeTag) : Bool :=
  !s.link.isolated && decide (s.params.linkSilenceTime * 1000 ≤ elapsed now s.link.lastArrival)

/-- The silence expiry, when it is due (R151). -/
def State.expireSilence (s : State) (now : TimeTag) : State :=
  if s.silenceDue now then
    { s with link := { s.link with isolated := true, copies := [], lastCopy := Vector.replicate 24 none } }
  else s

end Sys2Proof.Machine
end

