-- ==== Sys2Proof/Machine/Tracker.lean ====
section
/-! DEFINITION. The Position Tracker: the encoder delta, its application, re-anchoring, clamping and the unanchored check
(R42 to R47), and the unanchoring events (R3, R41, R46). -/

namespace Sys2Proof.Machine

/-- The raw difference of two 16-bit counts, read as a signed number in -32768..32767 (R42). -/
def rawDifference (new last : Nat) : Int :=
  let d := (new + 65536 - last) % 65536
  if 32768 ≤ d then (d : Int) - 65536 else d

/-- The encoder delta, upward positive (R42). -/
def encoderDelta (sense : CountSense) (new last : Nat) : Int :=
  match sense with
  | .upIncreases => rawDifference new last
  | .downIncreases => -rawDifference new last

/-- A position outside 0..shaft top clamped to the nearer bound, the offset set to match, doubt set (R46). -/
def clampPosition (p : Position) (bound : Nat) : Position :=
  { p with position := bound, offset := ((bound : Int) - p.anchorHeight) * 10000, doubt := true }

/-- A plausible delta applied to the offset, and the position derived from it (R44), clamped where it leaves the shaft
(R46). -/
def applyDelta (e : LiftEntry) (p : Position) (delta : Int) : Position :=
  let offset := p.offset + delta * e.encoderScale
  let raw := (p.anchorHeight : Int) + Int.tdiv offset 10000
  let p := { p with offset := offset }
  if raw < 0 then clampPosition p 0
  else if (e.shaftTop : Int) < raw then clampPosition p e.shaftTop
  else { p with position := raw.toNat }

/-- The encoder part of a report: R42, then R43, or R44 with R46. -/
def applyEncoder (maxCounts : Nat) (e : LiftEntry) (p : Position) (count : Nat) : Position :=
  match p.lastCount with
  | none => { p with lastCount := some count }
  | some last =>
    let delta := encoderDelta e.countSense count last
    let p := { p with lastCount := some count }
    if maxCounts < delta.natAbs then { p with doubt := true } else applyDelta e p delta

/-- A re-anchoring at a landing's height (R45). -/
def reAnchor (p : Position) (height : Nat) : Position :=
  { p with position := height, anchorHeight := height, offset := 0, anchored := true, doubt := false }

/-- A report applied to the position record (R42 to R47). A present marker re-anchors whatever the encoder part has done,
so the clamp of that part does not survive it. A marker decoded against a longer list names a landing of the list as it
stands, or re-anchors nothing (log 37). -/
def track (maxCounts : Nat) (e : LiftEntry) (landings : List Landing) (p : Position) (r : Report) : Position :=
  let p := applyEncoder maxCounts e p r.encoder
  let p :=
    match r.marker with
    | none => p
    | some m =>
      match landings[m]? with
      | some d => reAnchor p d.height
      | none => p
  if p.anchored then p else { p with doubt := true }

/-- The record unanchored (R41). -/
def unanchor (p : Position) : Position := { p with anchored := false, doubt := true }

/-- The record unanchored and its last encoder count removed (R3, R41). -/
def unanchorCount (p : Position) : Position := { unanchor p with lastCount := none }

/-- A LIFT write that lowers the shaft top below the position clamps it at once (R46). -/
def clampToTop (top : Nat) (p : Position) : Position := if top < p.position then clampPosition p top else p

end Sys2Proof.Machine
end

