-- ==== Sys2Proof/Machine/Intake.lean ====
section
/-! DEFINITION. The Report Intake: a STATUS REPORT as it is taken (R5) and acted on in each rescue state (R9 to R20), an
unanswered poll (R19), a HAZARD REPORT with its replans (R50 to R54). -/

namespace Sys2Proof.Machine

/-! ### Reports by rescue state (R9 to R20) -/

/-- A confirmed stall: stall-since is the report's arrival, trapped minutes 0, and STALLED is entered (R9, R10). -/
def State.confirmStall (s : State) (l : Lift) (now : TimeTag) : State :=
  (s.modLift l fun c => { c with stallSince := some now, trappedMinutes := 0 }).enterStalled l now

/-- The debounce of a trapping report: the suspect count set, then STALLED or SUSPECT (R9, R10). -/
def State.debounce (s : State) (l : Lift) (count : Nat) (now : TimeTag) : State :=
  let s := s.modLift l fun c => { c with suspectCount := count }
  if s.params.confirmCount ≤ count then s.confirmStall l now else s.enter l .suspect

/-- A report in NORMAL (R9). -/
def State.reportNormal (s : State) (l : Lift) (v : Verdict) (now : TimeTag) : State :=
  if v.trapping then s.debounce l (if v.immediate then s.params.confirmCount else 1) now else s

/-- A report in SUSPECT (R10). -/
def State.reportSuspect (s : State) (l : Lift) (v : Verdict) (now : TimeTag) : State :=
  if v.trapping then
    s.debounce l (if v.immediate then s.params.confirmCount else min 15 ((s.lift l).suspectCount + 1)) now
  else s.enterNormal l

/-- A report in QUEUED (R13). -/
def State.reportQueued (s : State) (l : Lift) (v : Verdict) (now : TimeTag) : State :=
  if !v.trapping then s.enterNormal l
  else if v.cls = .stallNoAuto then s.enterManual l .noAutoFault
  else s.replanQueued l now

/-- A report in RESCUING: the safety end, or the running step (R15). -/
def State.reportRescuing (s : State) (l : Lift) (v : Verdict) (r : Report) (now : TimeTag) : State :=
  if (v.trapping && decide (v.cls = .stallNoAuto)) || r.chainOpen then s.endExecution l .safety now
  else s.stepReport l r now

/-- A report in RELEASED: car cleared, then mains back (R17). `before` is the occupancy before this report. -/
def State.reportReleased (s : State) (l : Lift) (v : Verdict) (r : Report) (before : Option Nat) : State :=
  let s := if (s.lift l).occupancy = some 0 ∧ before ≠ some 0 then s.raiseLift l .clear else s
  if !r.mainsLost && decide (v.cls = .ignore) then s.enterNormal l else s

/-- A report in MANUAL (R18). -/
def State.reportManual (s : State) (l : Lift) (v : Verdict) (r : Report) : State :=
  if !r.mainsLost && decide (v.cls = .ignore) && (decide (r.motion ≠ .stopped) || r.marker.isSome) then s.enterNormal l
  else s

/-- The first valid report of an OFFLINE lift (R20). -/
def State.reportOffline (s : State) (l : Lift) (v : Verdict) (r : Report) (before : Option Nat) (now : TimeTag) : State :=
  let was := (s.lift l).beforeOffline
  let s := s.modLift l fun c => { c with beforeOffline := none }
  match was with
  | some .manual => (s.enter l .manual).reportManual l v r
  | some .released => (s.enter l .released).reportReleased l v r before
  | some .stalled => if v.trapping then s.enterStalled l now else (s.enterNormal l).reportNormal l v now
  | some .queued => if v.trapping then s.enterStalled l now else (s.enterNormal l).reportNormal l v now
  | _ => (s.enterNormal l).reportNormal l v now

/-- A report handed to the rule of the lift's present rescue state: step 7 of R5. -/
def State.reportByState (s : State) (l : Lift) (v : Verdict) (r : Report) (before : Option Nat) (now : TimeTag) : State :=
  match (s.lift l).state with
  | .excluded => s
  | .normal => s.reportNormal l v now
  | .suspect => s.reportSuspect l v now
  | .stalled => s.evaluateStalled l now
  | .queued => s.reportQueued l v now
  | .rescuing => s.reportRescuing l v r now
  | .released => s.reportReleased l v r before
  | .manual => s.reportManual l v r
  | .offline => s.reportOffline l v r before now

/-- The verdict of a report for a lift, with the off-marker-since it is drawn with (R30 to R32). -/
def State.verdictFor (s : State) (l : Lift) (r : Report) (now : TimeTag) : Verdict × Option TimeTag :=
  let since := offMarkerUpdate now (s.lift l).offMarkerSince r
  (drawVerdict (faultEntry s.faultTable r.fault) now since s.params.offMarkerDwell r, since)

/-- Steps 1 to 6 of R5: verdict, last report, unanswered count, position, occupancy, trapped minutes. -/
def State.storeReport (s : State) (l : Lift) (r : Report) (now : TimeTag) : State :=
  let v := s.verdictFor l r now
  s.modLift l fun c =>
    { c with
      offMarkerSince := v.2
      lastReport := some { report := r, arrival := now, verdict := v.1 }
      unanswered := 0
      pos := track s.params.maxCounts c.entry c.landings c.pos r
      occupancy := occupancyOf s.params.massPerPerson r.load
      trappedMinutes := trappedAt now c.stallSince c.trappedMinutes }

/-- The discard checks of R5. -/
def State.discardsReport (s : State) (l : Lift) (source : Nat) : Bool :=
  decide ((s.lift l).state = .excluded) || decide ((s.lift l).entry.ringNode ≠ source)

/-- A report handed on for a lift (R5, R133): discarded, or copied and taken, with the evaluation it calls. The copy is
queued before the lift's state rule, and a free transmitter takes it then, ahead of what that rule raises (R153). `now`
is its arrival time tag. -/
def State.takeReport (s : State) (l : Lift) (source : Nat) (payload : List Word) (r : Report) (now : TimeTag) : State :=
  if s.discardsReport l source then s
  else
    let before := (s.lift l).occupancy
    let v := (s.verdictFor l r now).1
    ((((s.offerCopy l payload r).transmit).storeReport l r now).reportByState l v r before now).settle now

/-! ### Unanswered polls (R19) -/

/-- One unanswered poll of a lift (R19, R131). -/
def State.unansweredPoll (s : State) (l : Lift) (now : TimeTag) : State :=
  if (s.lift l).state = .excluded then s
  else
    let s := s.modLift l fun c => { c with unanswered := min 15 (c.unanswered + 1) }
    if (s.lift l).unanswered < s.params.offlineLimit then s
    else
      match (s.lift l).state with
      | .rescuing => s.endExecution l .lostContact now
      | .offline => s
      | .excluded => s
      | was => ((s.leaveQueue l).modLift l fun c => { c with beforeOffline := some was }).enter l .offline

/-! ### Hazard reports (R50 to R54) -/

/-- A landing of the lift lies in a zone of a set (R52). -/
def LiftContext.touches (c : LiftContext) (zones : BitVec 32) : Bool := c.landings.any fun d => zones.getLsbD d.zone

/-- The replan of one lift, when the changed set touches it (R52 to R54). -/
def State.hazardReplan (s : State) (changed : BitVec 32) (now : TimeTag) (l : Lift) : State :=
  if (s.lift l).touches changed then
    match (s.lift l).state with
    | .stalled => s.evaluateStalled l now
    | .queued => s.replanQueued l now
    | .rescuing => s.replanRescuing l now
    | _ => s
  else s

/-- A replan of the lift is raised by a changed set (R52). -/
def State.replanRaised (s : State) (changed : BitVec 32) (l : Lift) : Bool :=
  (s.lift l).touches changed
    && (decide ((s.lift l).state = .stalled) || decide ((s.lift l).state = .queued)
        || decide ((s.lift l).state = .rescuing))

/-- A HAZARD REPORT taken (R50): the map replaced, the replans of the changed set made together, lift 1 first (log 38), and
one evaluation called when any was raised (R53, log 19). -/
def State.takeHazard (s : State) (p : List Word) (now : TimeTag) : State :=
  let zones := decodeZones p
  let changed := (zones ^^^ s.hazard) &&& 0xFFFFFFFE#32
  let s := { s with hazard := zones }
  let s' := allLifts.foldl (fun s l => s.hazardReplan changed now l) s
  if allLifts.any (s.replanRaised changed) then s'.callAdmission else s'

end Sys2Proof.Machine
end

