-- ==== Sys2Proof/Machine/Dispatcher.lean ====
section
/-! DEFINITION. The Order Dispatcher: the choice for an order slot (R142), tags (R141), order outcomes (R144, R145), and
remote commands (R146 to R148). -/

namespace Sys2Proof.Machine

/-! ### Remote commands (R146 to R148) -/

/-- Statuses of a COMMAND REPLY made by the part (R111, R148). -/
inductive CommandStatus
  | underRescue | busy | noAnswer
deriving DecidableEq, Repr

def CommandStatus.code : CommandStatus → Nat
  | .underRescue => 1 | .busy => 2 | .noAnswer => 3

/-- The part makes a COMMAND REPLY for a node (R148). -/
def State.makeReply (s : State) (dest : BitVec 6) (st : CommandStatus) : State :=
  s.commandReply (madeReplyFrame dest st.code)

/-- The node is that of a lift in QUEUED or RESCUING: step 2 of R146. -/
def State.underRescue (s : State) (dest : BitVec 6) : Bool :=
  allLifts.any fun l =>
    (decide ((s.lift l).state = .queued) || decide ((s.lift l).state = .rescuing))
      && decide ((s.lift l).entry.ringNode = dest.toNat)

/-- A REMOTE COMMAND taken on its arrival (R146). -/
def State.takeRemote (s : State) (c : RemoteCommand) : State :=
  if c.dest = 0 ∨ c.dest = 63 then s.makeReply c.dest .noAnswer
  else if s.underRescue c.dest then s.makeReply c.dest .underRescue
  else if Config.passQueueSize ≤ s.orders.passQueue.length then s.makeReply c.dest .busy
  else { s with orders := { s.orders with passQueue := s.orders.passQueue ++ [c] } }

/-- The pass-through queue replaced. -/
def State.setPassQueue (s : State) (q : List RemoteCommand) : State :=
  { s with orders := { s.orders with passQueue := q } }

/-- Heads of the pass-through queue judged again until one may be sent (R147). -/
def State.rejudge (s : State) : List RemoteCommand → State × Option RemoteCommand
  | [] => (s.setPassQueue [], none)
  | c :: cs =>
    if s.underRescue c.dest then (s.makeReply c.dest .underRescue).rejudge cs else (s.setPassQueue cs, some c)

/-! ### Choosing and sending an order (R141 to R143) -/

/-- Lifts from a pointer upward, passing from 24 to 1 (R142). -/
def fromPointer (p : Lift) : List Lift := allLifts.map fun k => p + k

/-- The slot of a lift holds an order of the given class. -/
def State.holdsClass (s : State) (stop : Bool) (l : Lift) : Bool :=
  match s.slot l with
  | some o => o.kind.isStop == stop
  | none => false

/-- Steps 1 and 2 of the choice: the first STOP-class order from the STOP pointer, else the first ordinary order from the
ordinary pointer (R142). -/
def State.chooseOrder (s : State) : Option Lift :=
  match (fromPointer s.orders.stopPointer).find? (s.holdsClass true) with
  | some l => some l
  | none => (fromPointer s.orders.ordPointer).find? (s.holdsClass false)

/-- The tag an order is sent with: its own, or the lift's next (R141). -/
def State.sendTag (s : State) (l : Lift) (o : Order) : BitVec 4 :=
  match o.tag with
  | some t => t
  | none => s.tagCounter l + 1

/-- The chosen order marked sent, the tag counter moved for a new order, and the pointer of its class moved (R141, R142). -/
def State.markSent (s : State) (l : Lift) (o : Order) : State :=
  let t := s.sendTag l o
  let s := s.setSlot l (some { o with tag := some t })
  let s :=
    if o.tag.isSome then s
    else { s with orders := { s.orders with tagCounters := s.orders.tagCounters.set l.val t l.isLt } }
  if o.kind.isStop then { s with orders := { s.orders with stopPointer := l + 1 } }
  else { s with orders := { s.orders with ordPointer := l + 1 } }

/-! ### Order outcomes (R144, R145) -/

/-- What an order exchange brought: an echo with its tag and result, or no valid reply. -/
inductive EchoOutcome
  | echo (tag : BitVec 4) (refused : Bool)
  | silent
deriving DecidableEq, Repr

/-- A send used up without a matching echo (R144): at the last one the slot is emptied and the poster told. -/
def State.useSend (s : State) (l : Lift) (o : Order) (now : TimeTag) : State :=
  if o.sends ≤ 1 then (s.setSlot l none).deliver l o.poster false now
  else s.setSlot l (some { o with sends := o.sends - 1 })

/-- The outcome of an order exchange that carried the order sent with `tag`. An order in the slot that has not been sent
with that tag has replaced it, and the outcome is dropped (R144, R145). -/
def State.orderOutcome (s : State) (l : Lift) (tag : BitVec 4) (out : EchoOutcome) (now : TimeTag) : State :=
  match s.slot l with
  | some o =>
    if o.tag = some tag then
      match out with
      | .echo t refused =>
        if t = tag then (s.setSlot l none).deliver l o.poster (!refused) now else s.useSend l o now
      | .silent => s.useSend l o now
    else s
  | none => s

end Sys2Proof.Machine
end

