-- ==== Sys2Proof/Machine/Scan.lean ====
section
/-! DEFINITION. The Ring Interface's lanes and exchanges (R113 to R118) and the Scan Engine: taking descriptors, tries and
confirmations, cycle end and cycle start (R128 to R136), the RESTART sequence on the ring (R120, R164). -/

namespace Sys2Proof.Machine

/-! ### Lanes (R115 to R118) -/

/-- The lane an exchange is made on, from the lane asked for (R117): the lane of a DUE probe, else the lane asked for
unless it is DEGRADED and the other GOOD. -/
def State.chooseLane (s : State) (asked : Lane) : Lane :=
  if s.laneA.probe = .due then .a
  else if s.laneB.probe = .due then .b
  else if (s.laneRecord asked).status = .degraded ∧ (s.laneRecord (otherLane asked)).status = .good then otherLane asked
  else asked

/-- A lane record after an exchange made on the lane (R115, R118). -/
def LaneRecord.after (r : LaneRecord) (valid : Bool) : LaneRecord :=
  match r.status, valid with
  | .good, true => { r with missCount := 0 }
  | .degraded, true => { status := .good, missCount := 0, probe := .idle }
  | .good, false =>
    if Config.missLimit ≤ r.missCount + 1 then { r with status := .degraded, missCount := Config.missLimit }
    else { r with missCount := r.missCount + 1 }
  | .degraded, false => { r with missCount := Config.missLimit }

/-- The lane of an ended exchange brought up to date, with the notice of a change of its status (R115, R118). -/
def State.updateLane (s : State) (l : Lane) (valid : Bool) : State :=
  let r := s.laneRecord l
  let r' := r.after valid
  let s := s.setLaneRecord l r'
  if r.status = .good ∧ r'.status = .degraded then s.raiseStation (.laneDegraded l)
  else if r.status = .degraded ∧ r'.status = .good then s.raiseStation (.laneRestored l)
  else s

/-- Both probe phases back to IDLE: the first exchange of the cycle has been made (R116). -/
def State.probesIdle (s : State) : State :=
  { s with laneA := { s.laneA with probe := .idle }, laneB := { s.laneB with probe := .idle } }

/-- An exchange ends at the Ring Interface (R113, R115, R116). -/
def State.closeExchange (s : State) (x : Exchange) (valid : Bool) : State :=
  { (s.updateLane x.lane valid).probesIdle with exchange := none }

/-- The probe phase of a lane at a cycle start (R116). -/
def probeAt (counter : BitVec 16) (this other : LaneRecord) : ProbePhase :=
  if counter.toNat % Config.probeInterval = 0 ∧ this.status = .degraded ∧ other.status = .good then .due else .idle

/-- The probe phases set at a cycle start (R116). -/
def State.setProbes (s : State) : State :=
  { s with
    laneA := { s.laneA with probe := probeAt s.scan.cycleCounter s.laneA s.laneB }
    laneB := { s.laneB with probe := probeAt s.scan.cycleCounter s.laneB s.laneA } }

/-! ### Exchanges (R113, R114) -/

/-- An exchange begun with a frame, on the lane R117 chooses (R113). -/
def State.beginExchange (s : State) (asked : Lane) (f : Frame) (expects : ReplyKind) : State :=
  { s with exchange := some { lane := s.chooseLane asked, dest := f.dest.toNat, expects := expects, sent := f.words,
                              waiting := none } }

/-- The send end of the exchange in flight (R113). -/
def State.sendEnd (s : State) (now : TimeTag) : State :=
  match s.exchange with
  | some x =>
    if x.waiting.isSome then s else { s with exchange := some { x with waiting := some (now, s.params.replyWindow) } }
  | none => s

/-- A received frame of a kind is a valid reply to the exchange in flight (R113, R114). -/
def validReply (x : Exchange) (kind : ReplyKind) (r : Reply) (now : TimeTag) : Bool :=
  decide (r.lane = x.lane) && decide (kind = x.expects) && decide (r.source.toNat = x.dest)
    && decide (kind.lengthNeeded ≤ r.payload.length) && decide (r.payload.length ≤ Config.maxPayload)
    && (match x.waiting with
        | some (sent, window) => decide (elapsed now sent ≤ window)
        | none => false)

/-- The reply window of an exchange has passed (R113). -/
def windowClosed (x : Exchange) (now : TimeTag) : Bool :=
  match x.waiting with
  | some (sent, window) => decide (window ≤ elapsed now sent)
  | none => false

/-! ### Banks and descriptors (R125, R126, R128) -/

/-- A scan bank by its name. -/
def ScanEngine.bank (e : ScanEngine) : ScanBankId → ScanBank
  | .a => e.bankA
  | .b => e.bankB

/-- The descriptors of a bank: its places 0 to length - 1 (R126). -/
def ScanBank.descriptors (b : ScanBank) : List Descriptor := b.places.toList.take b.length

/-- A scan bank is valid (R128). -/
def ScanBank.valid (b : ScanBank) : Bool :=
  decide (1 ≤ b.length) && decide (b.length ≤ 64)
    && b.descriptors.any (fun d => decide (d.kind = .orderSlot))
    && b.descriptors.any (fun d => decide (d.kind = .pollPower))
    && b.descriptors.all (fun d => decide (d.kind = .pollLift → 1 ≤ d.lift ∧ d.lift ≤ 24))

/-- The lane a descriptor asks for, ALTERNATE resolved by the cycle counter (R125). -/
def State.askedLane (s : State) (d : Descriptor) : Lane :=
  match d.lane with
  | .a => .a
  | .b => .b
  | .alternate => if s.scan.cycleCounter.toNat % 2 = 0 then .a else .b

/-- The Scan Engine put into a phase. -/
def State.setPhase (s : State) (p : ScanPhase) : State := { s with scan := { s.scan with phase := p } }

/-- The POLL of a descriptor, to the node as it stands, with the reply kind it asks for (R131). -/
def State.pollOf (s : State) (d : Descriptor) : Frame × ReplyKind :=
  match d.kind with
  | .pollPower => (pollFrame s.params.powerNode 2, .power)
  | .pollHazard => (pollFrame s.params.hazardNode 3, .hazard)
  | _ =>
    (pollFrame (match liftOfNumber d.lift with
      | some l => (s.lift l).entry.ringNode
      | none => 0) 1, .status)

/-- A try of a poll (R131). `left` is the number of tries that may follow it. -/
def State.tryPoll (s : State) (d : Descriptor) (asked : Lane) (left : Nat) (start : TimeTag) (gap : Nat) : State :=
  let p := s.pollOf d
  (s.beginExchange asked p.1 p.2).setPhase (.working start gap (.poll d asked left))

/-- The lift of a POLL LIFT is EXCLUDED, or the descriptor names no lift (R130, log 20). -/
def State.pollExcluded (s : State) (d : Descriptor) : Bool :=
  match liftOfNumber d.lift with
  | some l => decide ((s.lift l).state = .excluded)
  | none => true

/-- An ORDER SLOT taken (R134, R142, R147). The answer is `true` when it found nothing to send. -/
def State.takeSlot (s : State) (d : Descriptor) (now : TimeTag) : State × Bool :=
  match s.chooseOrder with
  | some l =>
    match s.slot l with
    | some o =>
      let t := s.sendTag l o
      (((s.markSent l o).beginExchange (s.askedLane d) (orderFrame (s.lift l).entry.ringNode t o.kind) .echo).setPhase
        (.working now d.gap (.order l t)), false)
    | none => (s, true)
  | none =>
    match s.rejudge s.orders.passQueue with
    | (s, none) => (s, true)
    | (s, some c) =>
      ((s.beginExchange (s.askedLane d) (commandFrame c) .command).setPhase (.working now d.gap (.command c.dest)), false)

/-- A descriptor taken (R130). The answer is `true` when the next descriptor follows at once: the descriptor is skipped,
or is a PAUSE with no gap. -/
def State.takeDescriptor (s : State) (d : Descriptor) (now : TimeTag) : State × Bool :=
  match d.kind with
  | .pause => if d.gap = 0 then (s, true) else (s.setPhase (.gapWait now d.gap), false)
  | .pollLift => if s.pollExcluded d then (s, true) else (s.tryPoll d (s.askedLane d) d.retry now d.gap, false)
  | .pollPower => (s.tryPoll d (s.askedLane d) d.retry now d.gap, false)
  | .pollHazard => (s.tryPoll d (s.askedLane d) d.retry now d.gap, false)
  | .orderSlot => s.takeSlot d now

/-- Descriptors taken from index `i` on until one holds the cycle. The answer is `true` when the last descriptor of the
bank has been passed. -/
def State.takeFrom (s : State) : List Descriptor → Nat → TimeTag → State × Bool
  | [], _, _ => (s, true)
  | d :: ds, i, now =>
    match { s with scan := { s.scan with current := some i } }.takeDescriptor d now with
    | (s, true) => s.takeFrom ds (i + 1) now
    | (s, false) => (s, false)

/-! ### Cycle end and cycle start (R129, R135) -/

/-- The inactive scan bank made active, with BANK SWAPPED (R128, R135). -/
def State.swapScan (s : State) : State :=
  ({ s with scan := { s.scan with active := s.scan.active.other, swapPending := false } }).raiseStation .bankSwapped

/-- The time since the cycle start time (R135). -/
def State.cycleAge (s : State) (now : TimeTag) : Nat :=
  match s.scan.startTime with
  | some t => elapsed now t
  | none => 0

/-- Steps 1 to 3 of a cycle end, after which the Scan Engine waits for the next cycle start (R135). -/
def State.endCycle (s : State) (now : TimeTag) : State :=
  let s := if s.scan.swapPending then s.swapScan else s
  let s := { s with scan := { s.scan with cycleCounter := s.scan.cycleCounter + 1, phase := .cycleWait } }
  if s.scan.creepSeen && decide (s.params.creepHoldTime * 100 < s.cycleAge now) then s.raiseStation .cycleSlow else s

/-- The next cycle start is due (R135). -/
def State.cycleDue (s : State) (now : TimeTag) : Bool := decide (s.params.minCyclePeriod ≤ s.cycleAge now)

/-- A cycle start up to the taking of descriptor 0: the Scan Engine's own fields, the probe phases, and the renewal of
each running CREEP step, lift 1 first, with the evaluation their ends may call (R129, logs 6 and 38). -/
def State.openCycle (s : State) (now : TimeTag) : State :=
  let s := { s with scan := { s.scan with running := true, startTime := some now, current := some 0,
                                          creepSeen := allLifts.any s.inCreep } }
  (allLifts.foldl (fun s l => if s.inCreep l then s.renewCreep l now else s) s.setProbes).settle now

/-- A cycle start (R129). A bank that lets the cycle end within the same event, which no valid bank does, leaves the Scan
Engine waiting (log 21). -/
def State.startCycle (s : State) (now : TimeTag) : State :=
  let s := s.openCycle now
  match s.takeFrom (s.scan.bank s.scan.active).descriptors 0 now with
  | (s, true) => s.endCycle now
  | (s, false) => s

/-- Descriptors taken from an index on, and the cycle end when the last has been passed, with the next cycle when it is
due at once (R130, R135). -/
def State.advance (s : State) (i : Nat) (now : TimeTag) : State :=
  match s.takeFrom ((s.scan.bank s.scan.active).descriptors.drop i) i now with
  | (s, true) =>
    let s := s.endCycle now
    if s.cycleDue now then s.startCycle now else s
  | (s, false) => s

/-- The index of the next descriptor. -/
def State.nextIndex (s : State) : Nat :=
  match s.scan.current with
  | some i => i + 1
  | none => 0

/-- A descriptor's work has ended: the next descriptor follows when its gap has passed (R130). -/
def State.endWork (s : State) (start : TimeTag) (gap : Nat) (now : TimeTag) : State :=
  if gap ≤ elapsed now start then s.advance s.nextIndex now else s.setPhase (.gapWait start gap)

/-- The gap of a descriptor whose work has ended has passed (R130). -/
def State.expireGap (s : State) (now : TimeTag) : State :=
  match s.scan.phase with
  | .gapWait start gap => if gap ≤ elapsed now start then s.advance s.nextIndex now else s
  | _ => s

/-- The next-cycle wait ends (R129, R135). -/
def State.expireCycle (s : State) (now : TimeTag) : State :=
  match s.scan.phase with
  | .cycleWait => if s.cycleDue now then s.startCycle now else s
  | _ => s

/-! ### What an exchange brings (R131, R132, R134) -/

/-- How the Scan Engine goes on when the outcome of an exchange has been handed on: the descriptor's work has ended, a
further try is made, or a confirmation poll is made (R131, R132, R134). -/
inductive GoingOn
  | ended
  | retry (desc : Descriptor) (asked : Lane) (triesLeft : Nat)
  | confirm (desc : Descriptor) (first : FirstReply) (lane : Lane)
deriving DecidableEq, Repr

/-- The confirmation poll (R132), asked on the lane other than the one the first reply came in on. -/
def State.confirmPoll (s : State) (d : Descriptor) (first : FirstReply) (lane : Lane) (start : TimeTag) (gap : Nat) :
    State :=
  let p := s.pollOf d
  (s.beginExchange (otherLane lane) p.1 p.2).setPhase (.working start gap (.confirm d first))

/-- The Scan Engine goes on. -/
def State.goOn (s : State) (g : GoingOn) (start : TimeTag) (gap : Nat) (now : TimeTag) : State :=
  match g with
  | .ended => s.endWork start gap now
  | .retry d asked n => s.tryPoll d asked n start gap
  | .confirm d first lane => s.confirmPoll d first lane start gap

/-- A valid reply to a try of a POLL LIFT: confirmed first when the care mask asks for it, else handed on (R131, R132). -/
def State.liftReply (s : State) (d : Descriptor) (r : Reply) (now : TimeTag) : State × GoingOn :=
  match liftOfNumber d.lift with
  | some l =>
    let rep := decodeReport (s.lift l).landings.length r.payload
    if careHit s.faultTable d.care rep && decide ((s.lift l).state ≠ .excluded) then
      (s, .confirm d { source := r.source.toNat, payload := r.payload, arrival := now, report := rep } r.lane)
    else (s.takeReport l r.source.toNat r.payload rep now, .ended)
  | none => (s, .ended)

/-- A valid reply handed to what the exchange was for. -/
def State.jobReply (s : State) (job : Job) (r : Reply) (now : TimeTag) : State × GoingOn :=
  match job with
  | .poll d _ _ =>
    match d.kind with
    | .pollPower =>
      ((if r.source.toNat = s.params.powerNode then s.takePower r.payload now else s).settle now, .ended)
    | .pollHazard =>
      ((if r.source.toNat = s.params.hazardNode then s.takeHazard r.payload now else s).settle now, .ended)
    | _ => s.liftReply d r now
  | .confirm d _ =>
    match liftOfNumber d.lift with
    | some l =>
      (s.takeReport l r.source.toNat r.payload (decodeReport (s.lift l).landings.length r.payload) now, .ended)
    | none => (s, .ended)
  | .abandoned => (s, .ended)
  | .order l tag =>
    ((s.orderOutcome l tag (.echo r.tag (field (wordAt r.payload 0) 15 1 == 1)) now).settle now, .ended)
  | .command _ => (s.commandReply (forwardedReplyFrame r.source r.payload), .ended)

/-- The lane a further try asks for (R131). -/
def retryLane (d : Descriptor) (asked : Lane) : Lane := if d.switch then otherLane asked else asked

/-- A try of a poll that ended without a valid reply: a further try, an unanswered poll, or nothing (R131). -/
def State.pollMissed (s : State) (d : Descriptor) (asked : Lane) (left : Nat) (now : TimeTag) : State × GoingOn :=
  if d.kind = .pollLift ∧ s.pollExcluded d then (s, .ended)
  else
    match left with
    | n + 1 => (s, .retry d (retryLane d asked) n)
    | 0 =>
      match d.kind, liftOfNumber d.lift with
      | .pollLift, some l => ((s.unansweredPoll l now).settle now, .ended)
      | _, _ => (s, .ended)

/-- An exchange without a valid reply, handed to what it was for. -/
def State.jobMissed (s : State) (job : Job) (now : TimeTag) : State × GoingOn :=
  match job with
  | .poll d asked left => s.pollMissed d asked left now
  | .confirm d first =>
    match liftOfNumber d.lift with
    | some l => (s.takeReport l first.source first.payload first.report first.arrival, .ended)
    | none => (s, .ended)
  | .abandoned => (s, .ended)
  | .order l tag => ((s.orderOutcome l tag .silent now).settle now, .ended)
  | .command dest => (s.makeReply dest .noAnswer, .ended)

/-! ### RESTART on the ring (R120, R136) -/

/-- ALL STOP sent on lane A and then on lane B, whatever their status (R120, R164). The lane records stay as they stand
(R115). The end of the second send is the command ALL_STOP_SEND_END (log 42). -/
def State.sendAllStop (s : State) : State :=
  { s with restart := .allStop, allStop := [(.a, allStopFrame.words), (.b, allStopFrame.words)] }

/-- An exchange ends (R113): its outcome goes to what the exchange was for, the lane record is then brought up to date, and
the Scan Engine goes on. During RESTART the outcome is discarded and ALL STOP is sent (R136). -/
def State.endExchange (s : State) (x : Exchange) (valid : Bool) (k : State → Job → State × GoingOn) (now : TimeTag) :
    State :=
  if s.restart = .quieting then (s.closeExchange x valid).sendAllStop
  else
    match s.scan.phase with
    | .working start gap job =>
      let handed := k s job
      (handed.1.closeExchange x valid).goOn handed.2 start gap now
    | _ => s.closeExchange x valid

/-- A frame received on the ring (R113): a valid reply ends the exchange in flight, any other frame is discarded. -/
def State.ringFrame (s : State) (kind : ReplyKind) (r : Reply) (now : TimeTag) : State :=
  match s.exchange with
  | some x =>
    if validReply x kind r now then s.endExchange x true (fun s job => s.jobReply job r now) now else s
  | none => s

/-- The reply window of the exchange in flight closes with no valid reply (R113). -/
def State.closeWindow (s : State) (now : TimeTag) : State :=
  match s.exchange with
  | some x =>
    if windowClosed x now then s.endExchange x false (fun s job => s.jobMissed job now) now else s
  | none => s

end Sys2Proof.Machine
end

