-- ==== Sys2Proof/Machine/Tables.lean ====
section
/-! DEFINITION. Table entries as the words of a write or a read (R159): the checks and clamps of each table's content, and
the words an entry reads as (R160). -/

namespace Sys2Proof.Machine

/-- A scalar replaced by the nearer bound of its range (R1, R161). -/
def clampScalar (lo hi n : Nat) : Nat := max lo (min hi n)

/-- A scalar lies outside its range. -/
def outside (lo hi n : Nat) : Bool := decide (n < lo) || decide (hi < n)

/-! ### LIFT (R1, R2, R159) -/

/-- The scalars of a Lift Table entry: word, least value, greatest value (R1). The ring node is not one of them. -/
def liftScalars : List (Nat × Nat × Nat) :=
  [(3, 100, 20000), (4, 1, 65535), (6, 0, 2500), (7, 10, 500), (8, 0, 2000), (9, 0, 6000), (10, 50, 400), (11, 0, 255),
   (12, 0, 255), (13, 0, 95), (14, 0, 95), (15, 0, 95), (16, 1, 3)]

/-- A written scalar was clamped: the write is answered DONE-CLAMPED (R1). -/
def liftClamped (ws : List Word) : Bool :=
  liftScalars.any fun c => outside c.2.1 c.2.2 (wordAt ws c.1).toNat

/-- Word `i` as a scalar of the range given. -/
def scalarAt (ws : List Word) (i lo hi : Nat) : Nat := clampScalar lo hi (wordAt ws i).toNat

/-- The entry that gathered words write, with its scalars clamped; none when the data is short or a field names no member
of its list (R2, R159). -/
def decodeLiftEntry (ws : List Word) : Option LiftEntry :=
  if ws.length < 17 then none
  else
    match yesNo (wordAt ws 0).toNat, LiftKind.ofCode (wordAt ws 2).toNat, CountSense.ofCode (wordAt ws 5).toNat with
    | some inService, some kind, some sense =>
      some { inService := inService, ringNode := (wordAt ws 1).toNat, kind := kind, shaftTop := scalarAt ws 3 100 20000,
             encoderScale := scalarAt ws 4 1 65535, countSense := sense, balanceLoad := scalarAt ws 6 0 2500,
             gravityThreshold := scalarAt ws 7 10 500, brakeHoldPower := scalarAt ws 8 0 2000,
             assistPower := scalarAt ws 9 0 6000, rescueSpeed := scalarAt ws 10 50 400,
             doorCycleCost := scalarAt ws 11 0 255, kindBonus := scalarAt ws 12 0 255,
             gravityStart := scalarAt ws 13 0 95, assistedStart := scalarAt ws 14 0 95, abortStart := scalarAt ws 15 0 95,
             maxAttempts := scalarAt ws 16 1 3 }
    | _, _, _ => none

/-- The words of a Lift Table entry, in the order of R1 (R159). -/
def LiftEntry.words (e : LiftEntry) : List Word :=
  [ wordOf (bit e.inService), wordOf e.ringNode, wordOf e.kind.code, wordOf e.shaftTop, wordOf e.encoderScale,
    wordOf e.countSense.code, wordOf e.balanceLoad, wordOf e.gravityThreshold, wordOf e.brakeHoldPower,
    wordOf e.assistPower, wordOf e.rescueSpeed, wordOf e.doorCycleCost, wordOf e.kindBonus, wordOf e.gravityStart,
    wordOf e.assistedStart, wordOf e.abortStart, wordOf e.maxAttempts ]

/-- The height of the highest landing of a list; 0 of the empty one. -/
def topHeight (ls : List Landing) : Nat :=
  match ls.getLast? with
  | some d => d.height
  | none => 0

/-- The content conditions of a LIFT write on its ring node, its landings and its shaft top (R2). -/
def State.liftContentOk (s : State) (l : Lift) (e : LiftEntry) : Bool :=
  decide (e.ringNode < 63) && !(decide (e.ringNode = 0) && e.inService)
    && allLifts.all (fun k => decide (k = l) || decide (e.ringNode = 0)
        || decide ((s.lift k).entry.ringNode ≠ e.ringNode))
    && decide (e.ringNode ≠ s.params.powerNode) && decide (e.ringNode ≠ s.params.hazardNode)
    && !(e.inService && (s.lift l).landings.isEmpty) && decide (topHeight (s.lift l).landings ≤ e.shaftTop)

/-! ### LANDINGS (R38, R39, R159) -/

/-- Landing `i` of gathered words; none when its height, zone or door side is refused (R39). -/
def decodeLanding (ws : List Word) (i : Nat) : Option Landing :=
  let height := (wordAt ws (1 + 2 * i)).toNat
  let zone := field (wordAt ws (2 + 2 * i)) 8 8
  if 20000 < height ∨ 31 < zone then none
  else (DoorSide.ofCode (field (wordAt ws (2 + 2 * i)) 0 2)).map fun side =>
    { height := height, zone := zone, side := side }

/-- The landings of gathered words from the highest of `n` downward to index 0; none when one is refused or does not lie
above the one below it (R39). -/
def decodeLandings (ws : List Word) : Nat → Option (List Landing)
  | 0 => some []
  | n + 1 =>
    match decodeLandings ws n, decodeLanding ws n with
    | some ls, some d => if n = 0 ∨ topHeight ls < d.height then some (ls ++ [d]) else none
    | _, _ => none

/-- The Landing List that gathered words write, against the stored shaft top; none when the write is INVALID (R39, R159,
log 28). -/
def decodeLandingList (shaftTop : Nat) (ws : List Word) : Option (List Landing) :=
  match ws with
  | [] => none
  | n :: _ =>
    if n.toNat < 2 ∨ 12 < n.toNat ∨ ws.length < 1 + 2 * n.toNat then none
    else (decodeLandings ws n.toNat).filter fun ls => decide (topHeight ls ≤ shaftTop)

/-- The words of a Landing List (R159, R160). -/
def landingWords (ls : List Landing) : List Word :=
  wordOf ls.length :: (ls.map fun d => [wordOf d.height, wordOf (d.zone * 256 + d.side.code)]).flatten

/-! ### FAULT CLASS (R28, R29, R159) -/

/-- The Fault Class Table entry that words write; none when INVALID (R29). -/
def decodeFaultEntry (ws : List Word) : Option FaultEntry :=
  match ws with
  | [] => none
  | w :: _ =>
    match FaultClass.ofCode (field w 0 2), yesNo (field w 8 2) with
    | some cls, some immediate => some { cls := cls, immediate := immediate }
    | _, _ => none

/-- The words of a Fault Class Table entry. -/
def FaultEntry.words (e : FaultEntry) : List Word := [wordOf (bit e.immediate * 256 + e.cls.code)]

/-! ### SCAN (R125, R127, R159) -/

/-- The descriptor that words write, its retry limit clamped to 3; none when INVALID (R127). -/
def decodeDescriptor (ws : List Word) : Option Descriptor :=
  match ws with
  | w :: v :: _ =>
    match DescriptorKind.ofCode (field w 13 3), LaneChoice.ofCode (field w 11 2) with
    | some kind, some lane =>
      some { kind := kind, lift := field v 8 8, lane := lane, retry := min 3 (field w 8 3), switch := field w 7 1 == 1,
             care := CareMask.ofWord w, gap := field v 0 8 }
    | _, _ => none
  | _ => none

/-- The words of a scan descriptor. -/
def Descriptor.words (d : Descriptor) : List Word :=
  [ wordOf (d.kind.code * 8192 + d.lane.code * 2048 + d.retry * 256 + bit d.switch * 128 + d.care.code),
    wordOf (d.lift * 256 + d.gap) ]

/-- A scan bank replaced. -/
def ScanEngine.setBank (e : ScanEngine) (which : ScanBankId) (x : ScanBank) : ScanEngine :=
  match which with
  | .a => { e with bankA := x }
  | .b => { e with bankB := x }

/-! ### RECIPE (R89, R90, R159) -/

/-- The step kind and parameter that words write; none when INVALID (R90, R159). -/
def decodeAction (kind : Nat) (p : Word) : Option StepAction :=
  match kind with
  | 0 => (EndOutcome.ofCode p.toNat).map .finish
  | 1 => (WaitCondition.ofCode p.toNat).map .wait
  | 2 => (StepOrder.ofCode (field p 12 4)).map fun k => .order k (field p 0 8)
  | 3 => some .creep
  | 4 => some .pause
  | 5 => if p.toNat ≤ 95 then some (.call p.toNat) else none
  | 6 => some .ret
  | _ => none

/-- The step record that words write; none when INVALID (R90). -/
def decodeStep (ws : List Word) : Option StepRecord :=
  match ws with
  | w :: p :: t :: c :: _ =>
    if 95 < field c 8 8 ∨ 95 < field c 0 8 then none
    else (decodeAction (field w 12 4) p).map fun a =>
      { action := a, count := field w 8 4, timeout := t.toNat, chainDone := field c 8 8, chainFail := field c 0 8,
        notify := field w 0 1 == 1 }
  | _ => none

/-- The kind code of a step (R159). -/
def StepAction.code : StepAction → Nat
  | .finish _ => 0 | .wait _ => 1 | .order .. => 2 | .creep => 3 | .pause => 4 | .call _ => 5 | .ret => 6

/-- The parameter word of a step; a kind without a parameter reads 0 (R159, log 17). -/
def StepAction.parameter : StepAction → Nat
  | .finish o => o.code
  | .wait c => c.code
  | .order k m => k.code * 4096 + m
  | .call t => t
  | .creep => 0
  | .pause => 0
  | .ret => 0

/-- The words of a step record. -/
def StepRecord.words (r : StepRecord) : List Word :=
  [ wordOf (r.action.code * 4096 + r.count * 256 + bit r.notify), wordOf r.action.parameter, wordOf r.timeout,
    wordOf (r.chainDone * 256 + r.chainFail) ]

/-- A recipe bank with one record replaced. -/
def RecipeTable.setStep (t : RecipeTable) (b : RecipeBankId) (i : Nat) (r : StepRecord) : RecipeTable :=
  if h : i < 96 then
    match b with
    | .bank0 => { t with bank0 := t.bank0.set i r h }
    | .bank1 => { t with bank1 := t.bank1.set i r h }
  else t

/-! ### PARAMETERS (R161) -/

/-- The ranges of the station parameters, by number (R161). -/
def paramRanges : List (Nat × Nat) :=
  [(1, 15), (1, 15), (10, 600), (50, 120), (0, 31), (0, 255), (0, 255), (0, 255), (0, 65535), (1, 4), (0, 15), (1, 60),
   (1, 20), (0, 2000), (5, 50), (1, 60), (1, 32767), (1, 62), (1, 62)]

/-- The station parameters as a list, by number (R161). -/
def Params.values (p : Params) : List Nat :=
  [p.confirmCount, p.offlineLimit, p.offMarkerDwell, p.massPerPerson, p.unknownOccupancy, p.occupancyWeight, p.timeWeight,
   p.hazardBonus, p.reserveFloor, p.concurrencyLimit, p.bypassGuard, p.powerStaleTime, p.replyWindow, p.minCyclePeriod,
   p.creepHoldTime, p.linkSilenceTime, p.maxCounts, p.powerNode, p.hazardNode]

/-- One station parameter stored (R161). -/
def Params.store (p : Params) (number v : Nat) : Params :=
  match number with
  | 0 => { p with confirmCount := v }
  | 1 => { p with offlineLimit := v }
  | 2 => { p with offMarkerDwell := v }
  | 3 => { p with massPerPerson := v }
  | 4 => { p with unknownOccupancy := v }
  | 5 => { p with occupancyWeight := v }
  | 6 => { p with timeWeight := v }
  | 7 => { p with hazardBonus := v }
  | 8 => { p with reserveFloor := v }
  | 9 => { p with concurrencyLimit := v }
  | 10 => { p with bypassGuard := v }
  | 11 => { p with powerStaleTime := v }
  | 12 => { p with replyWindow := v }
  | 13 => { p with minCyclePeriod := v }
  | 14 => { p with creepHoldTime := v }
  | 15 => { p with linkSilenceTime := v }
  | 16 => { p with maxCounts := v }
  | 17 => { p with powerNode := v }
  | 18 => { p with hazardNode := v }
  | _ => p

/-! ### Reading an entry (R160) -/

/-- A scan bank read at an index: a descriptor place, or the length at 64. -/
def ScanBank.entryWords (b : ScanBank) (i : Nat) : Option (List Word) :=
  if i = 64 then some [wordOf b.length] else (b.places.toList[i]?).map Descriptor.words

/-- A recipe bank of the table. -/
def RecipeTable.bank (t : RecipeTable) : RecipeBankId → Vector StepRecord 96
  | .bank0 => t.bank0
  | .bank1 => t.bank1

/-- The words of the entry a READ ENTRY names, none for an index outside the table's range (R159, R160). `bit1` is the
bank bit. -/
def State.entryWords (s : State) (t : Table) (i : Nat) (bit1 : Bool) : Option (List Word) :=
  match t with
  | .lift => (liftOfNumber i).map fun l => (s.lift l).entry.words
  | .landings => (liftOfNumber i).map fun l => landingWords (s.lift l).landings
  | .faultClass => (s.faultTable.toList[i]?).map FaultEntry.words
  | .scan => (s.scan.bank (if bit1 then .b else .a)).entryWords i
  | .recipe => ((s.recipes.bank (if bit1 then .bank1 else .bank0)).toList[i]?).map StepRecord.words
  | .parameters => (s.params.values[i]?).map fun v => [wordOf v]

/-- The part of an entry's words a READ ENTRY carries: part 0 words 0 to 14, part 1 words 15 to 29 (R160). -/
def partOf (ws : List Word) (second : Bool) : List Word := if second then (ws.drop 15).take 15 else ws.take 15

end Sys2Proof.Machine
end

