-- ==== Sys2Proof/Machine/Management.lean ====
section
/-! DEFINITION. The Management Agent: requests and replies (R156, R157), the prefix holder (R158), writes and reads of
tables (R2, R3, R29, R39, R90, R127, R160, R161), swaps (R162), READ CONTEXT (R163), lift control (R21 to R23, R106),
RESTART (R164, R165). -/

namespace Sys2Proof.Machine

/-- Reply statuses (R156). -/
inductive ReplyStatus
  | done | doneClamped | busy | range | state | inUse | invalid | unknown
deriving DecidableEq, Repr, Inhabited

def ReplyStatus.code : ReplyStatus → Nat
  | .done => 0 | .doneClamped => 1 | .busy => 2 | .range => 3 | .state => 4 | .inUse => 5 | .invalid => 6 | .unknown => 7

/-- What a request is answered with: its status and the words after word 0. -/
structure Answer where
  status : ReplyStatus
  words  : List Word
deriving DecidableEq, Repr, Inhabited

/-- A request refused with a status: no state changes (R156). -/
def State.refuse (s : State) (st : ReplyStatus) : State × Answer := (s, ⟨st, []⟩)

/-- A request carried out, answered DONE with no further word. -/
def State.done (s : State) : State × Answer := (s, ⟨.done, []⟩)

/-- DONE, or DONE-CLAMPED when a scalar was clamped. -/
def doneOr (clamped : Bool) : Answer := ⟨if clamped then .doneClamped else .done, []⟩

/-! ### Writes of LIFT and LANDINGS (R2, R3, R7, R8, R39, R40) -/

/-- The rescue-state gate of LIFT and LANDINGS writes (R2). -/
def RescueState.takesWrites : RescueState → Bool
  | .excluded => true | .normal => true | .offline => true | .manual => true | _ => false

/-- The runtime effects of a changed ring node (R3). -/
def LiftContext.rewired (c : LiftContext) : LiftContext :=
  { c with lastReport := none, occupancy := none, unanswered := 0, suspectCount := 0, offMarkerSince := none,
           pos := unanchorCount c.pos }

/-- An accepted LIFT write to a lift in service before and after it (R3, R46, R153). -/
def State.rewrite (s : State) (l : Lift) (e : LiftEntry) : State :=
  let old := (s.lift l).entry
  let s := s.modLift l fun c => { c with entry := e }
  let s := if old.ringNode ≠ e.ringNode then (s.modLift l LiftContext.rewired).setLastCopy l none else s
  let s :=
    if old.encoderScale ≠ e.encoderScale ∨ old.countSense ≠ e.countSense ∨ old.shaftTop ≠ e.shaftTop then
      s.modLift l fun c => { c with pos := unanchorCount c.pos }
    else s
  if e.shaftTop < old.shaftTop then s.modLift l fun c => { c with pos := clampToTop e.shaftTop c.pos } else s

/-- An accepted LIFT write: entering service, leaving service, or R3 (R3, R7, R8). -/
def State.storeLift (s : State) (l : Lift) (e : LiftEntry) : State :=
  if (s.lift l).state = .excluded then
    let s := s.modLift l fun c => { c with entry := e }
    if e.inService then s.enterService l else s
  else if e.inService then s.rewrite l e
  else (s.modLift l fun c => { c with entry := e }).leaveService l

/-- WRITE ENTRY of table LIFT on gathered data (R2). -/
def State.writeLift (s : State) (index : Nat) (data : List Word) : State × Answer :=
  match liftOfNumber index with
  | none => s.refuse .range
  | some l =>
    if !(s.lift l).state.takesWrites then s.refuse .inUse
    else
      match (decodeLiftEntry data).filter (s.liftContentOk l) with
      | none => s.refuse .invalid
      | some e => (s.storeLift l e, doneOr (liftClamped data))

/-- An accepted LANDINGS write (R3, R39, R40). The same list again changes no runtime field (R3, log 15). -/
def State.storeLandings (s : State) (l : Lift) (ls : List Landing) : State :=
  let c := s.lift l
  if c.state = .excluded ∨ c.landings = ls then s.setLift l { c with landings := ls }
  else s.setLift l { c with landings := ls, pos := unanchor c.pos, plan := none }

/-- WRITE ENTRY of table LANDINGS on gathered data (R2, R39). -/
def State.writeLandings (s : State) (index : Nat) (data : List Word) : State × Answer :=
  match liftOfNumber index with
  | none => s.refuse .range
  | some l =>
    if !(s.lift l).state.takesWrites then s.refuse .inUse
    else
      match decodeLandingList (s.lift l).entry.shaftTop data with
      | none => s.refuse .invalid
      | some ls => (s.storeLandings l ls).done

/-! ### Writes of the other tables -/

/-- WRITE ENTRY of table FAULT CLASS (R29). -/
def State.writeFaultClass (s : State) (index : Nat) (data : List Word) : State × Answer :=
  if h : index < 64 then
    match decodeFaultEntry data with
    | none => s.refuse .invalid
    | some e => ({ s with faultTable := s.faultTable.set index e h }).done
  else s.refuse .range

/-- The bank that is not active, replaced (R127). -/
def State.setInactive (s : State) (b : ScanBank) : State := { s with scan := s.scan.setBank s.scan.active.other b }

/-- WRITE ENTRY of table SCAN (R127). -/
def State.writeScan (s : State) (index : Nat) (data : List Word) : State × Answer :=
  let b := s.scan.bank s.scan.active.other
  if 64 < index then s.refuse .range
  else if s.scan.swapPending then s.refuse .busy
  else if h : index < 64 then
    match decodeDescriptor data with
    | none => s.refuse .invalid
    | some d =>
      (s.setInactive { b with places := b.places.set index d h }, doneOr (decide (3 < field (wordAt data 0) 8 3)))
  else
    match data with
    | [] => s.refuse .invalid
    | w :: _ => if 64 < w.toNat then s.refuse .invalid else (s.setInactive { b with length := w.toNat }).done

/-- A lift in RESCUING runs from a recipe bank (R90). -/
def State.bankInUse (s : State) (b : RecipeBankId) : Bool :=
  allLifts.any fun l => decide (((s.lift l).rescue.map (·.bank)) = some b)

/-- WRITE ENTRY of table RECIPE (R90). -/
def State.writeRecipe (s : State) (index : Nat) (data : List Word) : State × Answer :=
  if 95 < index then s.refuse .range
  else if s.bankInUse s.recipes.active.other then s.refuse .inUse
  else
    match decodeStep data with
    | none => s.refuse .invalid
    | some r => ({ s with recipes := s.recipes.setStep s.recipes.active.other index r }).done

/-- The check of step 3 of R161 on the two node parameters: the status a value is refused with. -/
def State.nodeRefusal (s : State) (v otherNode : Nat) : Option ReplyStatus :=
  if v = 0 ∨ 63 ≤ v then some .range
  else if v = otherNode ∨ allLifts.any (fun l => decide ((s.lift l).entry.ringNode = v)) then some .invalid
  else none

/-- The refusal of a parameter's value, if there is one (R161). -/
def State.paramRefusal (s : State) (number v : Nat) : Option ReplyStatus :=
  if number = 17 then s.nodeRefusal v s.params.hazardNode
  else if number = 18 then s.nodeRefusal v s.params.powerNode
  else none

/-- A write of the reserve floor raises RESERVOIR LOW when the level has come below the new floor (R76). -/
def State.floorWritten (s : State) (old new : Nat) : State :=
  if !s.reservoir.stale && decide (s.reservoir.level < new) && decide (old ≤ s.reservoir.level) then
    s.raiseStation .reservoirLow
  else s

/-- What a stored parameter does at once: the reserve floor check (R76), the power stale expiry (R75), the silence expiry
(R151), then the one evaluation (R87), then the wait for the next cycle (R135, log 34). -/
def State.paramStored (s : State) (number old new : Nat) (now : TimeTag) : State :=
  let s := if number = 8 then s.floorWritten old new else s
  let s := if number = 11 then s.expirePower now else s
  let s := if number = 15 then s.expireSilence now else s
  let s := s.evaluateAdmission now
  if number = 13 then s.expireCycle now else s

/-- WRITE ENTRY of table PARAMETERS (R161). -/
def State.writeParameter (s : State) (number : Nat) (data : List Word) (now : TimeTag) : State × Answer :=
  match paramRanges[number]?, data with
  | none, _ => s.refuse .range
  | some _, [] => s.refuse .invalid
  | some range, w :: _ =>
    match s.paramRefusal number w.toNat with
    | some st => s.refuse st
    | none =>
      let v := clampScalar range.1 range.2 w.toNat
      (({ s with params := s.params.store number v }).paramStored number (s.params.values.getD number 0) v now,
        doneOr (outside range.1 range.2 w.toNat))

/-- A WRITE ENTRY on gathered data, checked by its table's rule (R159). -/
def State.writeEntry (s : State) (t : Table) (index : Nat) (data : List Word) (now : TimeTag) : State × Answer :=
  match t with
  | .lift => s.writeLift index data
  | .landings => s.writeLandings index data
  | .faultClass => s.writeFaultClass index data
  | .scan => s.writeScan index data
  | .recipe => s.writeRecipe index data
  | .parameters => s.writeParameter index data now

/-! ### Reads (R160, R163) -/

/-- READ ENTRY (R160). A request without word 1 is short (R156, log 16). -/
def State.readEntry (s : State) (t : Table) (index : Nat) (later : List Word) : State × Answer :=
  match later with
  | [] => s.refuse .invalid
  | w :: _ =>
    match s.entryWords t index (field w 1 1 == 1) with
    | none => s.refuse .range
    | some ws => (s, ⟨.done, partOf ws (field w 0 1 == 1)⟩)

/-- The presence word (R163). -/
def presenceWord (c : LiftContext) (slot : Option Order) : Nat :=
  bit c.lastReport.isSome + bit c.pos.lastCount.isSome * 2 + bit c.offMarkerSince.isSome * 4 + bit c.stallSince.isSome * 8
    + bit c.plan.isSome * 16 + bit c.queueData.isSome * 32 + bit c.rescue.isSome * 64 + bit c.manualReason.isSome * 128
    + bit slot.isSome * 256

/-- Part 0 of READ CONTEXT (R163). -/
def contextPart0 (c : LiftContext) (slot : Option Order) : List Word :=
  [ wordOf c.state.code, wordOf ((c.beforeOffline.map (·.code)).getD 15), wordOf (bit c.hold), wordOf c.entry.kind.code,
    wordOf (presenceWord c slot), wordOf ((c.manualReason.map (·.code)).getD 0), wordOf c.suspectCount,
    wordOf c.unanswered, wordOf c.trappedMinutes, wordOf c.attempt, wordOf (occupancyCode c.occupancy),
    wordOf c.pos.position, wordOf (bit c.pos.anchored + bit c.pos.doubt * 2) ]

/-- A verdict in one word (R163). -/
def Verdict.code (v : Verdict) : Nat := bit v.trapping + v.cls.code * 2 + bit v.immediate * 8

/-- An optional time tag as two words, 0 when absent (R163). -/
def optTagWords (t : Option TimeTag) : List Word := tagWords (t.getD 0)

/-- Part 1 of READ CONTEXT (R163). The marker of an absent last report reads 15, a landing index (log 18). The signed
offset is two's complement, high word first (log 40). -/
def contextPart1 (c : LiftContext) : List Word :=
  (match c.lastReport with
    | some r => encodeReport r.report ++ tagWords r.arrival ++ [wordOf r.verdict.code]
    | none => [0, 0, 15, 0] ++ tagWords 0 ++ [0])
  ++ [wordOf c.pos.anchorHeight] ++ tagWords (BitVec.ofInt 32 c.pos.offset) ++ [wordOf (c.pos.lastCount.getD 0)]

/-- Part 2 of READ CONTEXT (R163). -/
def contextPart2 (c : LiftContext) : List Word :=
  (match c.plan with
    | some p =>
      [ wordOf p.mode.code, wordOf p.direction.code, wordOf (p.target.getD 15), wordOf p.distance, wordOf p.travelTime,
        wordOf p.creepCost, wordOf p.doorCost, wordOf p.totalCost, wordOf p.merit, wordOf (bit p.feasible),
        wordOf ((p.reason.map (·.code)).getD 0) ]
    | none => [0, 0, 15, 0, 0, 0, 0, 0, 0, 0, 0])
  ++ optTagWords (c.queueData.map (·.entryTime)) ++ [wordOf ((c.queueData.map (·.bypass)).getD 0)]

/-- The ds left on a step timer, rounded up (R163). -/
def StepTimer.remaining (t : StepTimer) (now : TimeTag) : Nat := ceilDiv (t.ds * 100 - elapsed now t.loadedAt) 100

/-- Part 3 of READ CONTEXT (R163). The stack entry pushed first comes first (log 35). -/
def contextPart3 (c : LiftContext) (now : TimeTag) : List Word :=
  match c.rescue with
  | none => List.replicate 14 0
  | some r =>
    [ wordOf r.bank.code, wordOf r.step, wordOf r.budget, wordOf r.working.repeats,
      wordOf ((r.working.timer.map (·.remaining now)).getD 0), wordOf ((r.working.creep.map (·.reload)).getD 0),
      wordOf r.stack.length, wordOf (r.stack.reverse.getD 0 0), wordOf (r.stack.reverse.getD 1 0),
      wordOf r.creepReservation, wordOf r.doorReservation, wordOf (bit r.creepReleased), wordOf (bit r.abortPending),
      wordOf r.originalDistance ]

/-- The entry an order was posted by, 0 for the part (R163). -/
def Poster.code : Poster → Nat
  | .entry n => n
  | .part => 0

/-- An order slot in four words (R163). -/
def slotWords (slot : Option Order) : List Word :=
  match slot with
  | none => [0, 0, 0, 0]
  | some o =>
    [ wordOf (o.kind.code * 4096 + bit o.kind.isStop), wordOf o.poster.code,
      wordOf (bit o.tag.isSome * 32768 + (o.tag.getD 0).toNat), wordOf o.sends ]

/-- The words of a part of a lift context (R163). -/
def State.contextWords (s : State) (l : Lift) (part : Nat) (now : TimeTag) : List Word :=
  match part with
  | 0 => contextPart0 (s.lift l) (s.slot l)
  | 1 => contextPart1 (s.lift l)
  | 2 => contextPart2 (s.lift l)
  | 3 => contextPart3 (s.lift l) now
  | _ => optTagWords (s.lift l).offMarkerSince ++ optTagWords (s.lift l).stallSince ++ slotWords (s.slot l)

/-- READ CONTEXT (R163). A short request and a part above 4 are INVALID whatever the lift number (R156, log 16). -/
def State.readContext (s : State) (lift : Nat) (later : List Word) (now : TimeTag) : State × Answer :=
  match later with
  | [] => s.refuse .invalid
  | w :: _ =>
    if 4 < w.toNat then s.refuse .invalid
    else
      match liftOfNumber lift with
      | none => s.refuse .range
      | some l => (s, ⟨.done, s.contextWords l w.toNat now⟩)

/-! ### Swaps (R91, R128, R162) -/

/-- The judgement of a scan swap: the status it is refused with (R128). -/
def State.swapRefusal (s : State) : Option ReplyStatus :=
  if s.scan.swapPending then some .busy
  else if !(s.scan.bank s.scan.active.other).valid then some .invalid
  else none

/-- An accepted scan swap: at once with a cycle start, at once in the wait between cycles, or pending (R128). -/
def State.takeScanSwap (s : State) (now : TimeTag) : State :=
  if !s.scan.running then s.swapScan.startCycle now
  else if s.scan.phase = .cycleWait then s.swapScan
  else { s with scan := { s.scan with swapPending := true } }

/-- The recipe swap (R91). -/
def State.swapRecipe (s : State) : State :=
  ({ s with recipes := { s.recipes with active := s.recipes.active.other } }).raiseStation .bankSwapped

/-- SWAP SCAN (R128). -/
def State.requestSwapScan (s : State) (now : TimeTag) : State × Answer :=
  match s.swapRefusal with
  | some st => s.refuse st
  | none => (s.takeScanSwap now).done

/-- SWAP BOTH: the scan swap judged first, then the recipe swap, then the scan swap (R162). -/
def State.requestSwapBoth (s : State) (now : TimeTag) : State × Answer :=
  match s.swapRefusal with
  | some st => s.refuse st
  | none => (s.swapRecipe.takeScanSwap now).done

/-- A SWAP by its selector (R156, R162). -/
def State.requestSwap (s : State) (selector : Nat) (now : TimeTag) : State × Answer :=
  match selector with
  | 1 => s.requestSwapScan now
  | 2 => s.swapRecipe.done
  | 3 => s.requestSwapBoth now
  | _ => s.refuse .invalid

/-! ### Lift control (R21 to R23, R106) -/

/-- Actions of LIFT CONTROL (R21). -/
inductive Action
  | hold | release | abort | forceManual | clear
deriving DecidableEq, Repr, Inhabited

def Action.ofCode : Nat → Option Action
  | 1 => some .hold | 2 => some .release | 3 => some .abort | 4 => some .forceManual | 5 => some .clear | _ => none

/-- The acceptance table of R21. -/
def Action.accepted : Action → RescueState → Bool
  | _, .excluded => false
  | .hold, st => decide (st ≠ .rescuing)
  | .release, _ => true
  | .abort, st => decide (st = .rescuing)
  | .forceManual, st => decide (st ≠ .rescuing)
  | .clear, st => decide (st = .released) || decide (st = .manual)

/-- HOLD (R22): a QUEUED lift leaves the queue and enters STALLED. -/
def State.holdLift (s : State) (l : Lift) (now : TimeTag) : State :=
  let queued := decide ((s.lift l).state = .queued)
  let s := s.modLift l fun c => { c with hold := true }
  if queued then (s.leaveQueue l).enterStalled l now else s

/-- RELEASE (R22): a STALLED lift is evaluated. -/
def State.releaseLift (s : State) (l : Lift) (now : TimeTag) : State :=
  let s := s.modLift l fun c => { c with hold := false }
  if (s.lift l).state = .stalled then s.evaluateStalled l now else s

/-- An accepted action carried out (R22, R23, R107). -/
def State.act (s : State) (l : Lift) (a : Action) (now : TimeTag) : State :=
  match a with
  | .hold => s.holdLift l now
  | .release => s.releaseLift l now
  | .abort => s.abortExecution l now
  | .forceManual => s.enterManual l .operator
  | .clear => s.enterNormal l

/-- An action on a lift, by the checks of R21: lift number, then rescue state. -/
def State.control (s : State) (lift : Nat) (a : Action) (now : TimeTag) : State × Answer :=
  match liftOfNumber lift with
  | none => s.refuse .range
  | some l => if a.accepted (s.lift l).state then (s.act l a now).done else s.refuse .state

/-- LIFT CONTROL with its later words (R21). A request without an action word is short (R156, log 16). -/
def State.liftControl (s : State) (lift : Nat) (later : List Word) (now : TimeTag) : State × Answer :=
  match later with
  | [] => s.refuse .invalid
  | w :: _ =>
    match Action.ofCode w.toNat with
    | some a => s.control lift a now
    | none => if (liftOfNumber lift).isSome then s.refuse .invalid else s.refuse .range

/-- EXTEND STEP (R106). A request without a value word is short (R156, log 16). -/
def State.extendStep (s : State) (lift : Nat) (later : List Word) : State × Answer :=
  match later with
  | [] => s.refuse .invalid
  | w :: _ =>
    match liftOfNumber lift with
    | none => s.refuse .range
    | some l =>
      if decide ((s.lift l).state = .rescuing) && s.inCreep l then
        (s.modCreep l fun k => { k with reload := atLeastOne w.toNat }, doneOr (decide (w = 0)))
      else s.refuse .state

/-! ### RESTART (R24, R164, R165) -/

/-- A RESTART taken: the Scan Engine stops, and ALL STOP goes out as soon as the Ring Interface is free (R136, R164). -/
def State.beginRestart (s : State) : State :=
  let s := s.setPhase .stopped
  if s.exchange.isSome then { s with restart := .quieting } else s.sendAllStop

/-- A lift context after RESTART (R24). -/
def LiftContext.restarted (c : LiftContext) : LiftContext :=
  LiftContext.fresh c.entry c.landings (if c.entry.inService then .normal else .excluded)

/-- Step 3 of the RESTART sequence: the runtime state at its RESTART values, then RESTARTED raised (R164). -/
def State.restartClear (s : State) : State :=
  ({ s with
      laneA := LaneRecord.powerOn
      laneB := LaneRecord.powerOn
      exchange := none
      allStop := []
      lifts := s.lifts.map LiftContext.restarted
      hazard := 0
      reservoir := ReservoirView.powerOn
      outstanding := 0
      queue := []
      orders := OrderDispatcher.powerOn
      link := { s.link with cmdReplies := [], notices := [], copies := [], lastCopy := Vector.replicate 24 none }
      prefixHeld := none
      admissionDue := false
      scan := { s.scan with swapPending := false, cycleCounter := 0, creepSeen := false, phase := .stopped } }).raiseStation
    .restarted

/-- Step 4 of the RESTART sequence, after which the sequence ends (R136, R164). -/
def State.restartCycle (s : State) (now : TimeTag) : State :=
  let s := { s with restart := .idle }
  if (s.scan.bank s.scan.active).valid then s.startCycle now
  else { s with scan := { s.scan with running := false, current := none, startTime := none } }

/-- ALL STOP has gone out on both lanes (R164). -/
def State.endAllStop (s : State) (now : TimeTag) : State :=
  if s.restart = .allStop then s.restartClear.restartCycle now else s

/-! ### Requests (R156, R158, R165) -/

/-- A management request by its kind (R156). -/
inductive Request
  | identify
  | storePrefix (table : Table) (index : Byte) (words : List Word)
  | write (table : Table) (index : Byte) (words : List Word)
  | read (table : Table) (index : Byte) (later : List Word)
  | swap (selector : Byte)
  | readContext (lift : Byte) (later : List Word)
  | liftControl (lift : Byte) (later : List Word)
  | control (lift : Byte) (action : Action)
  | extendStep (lift : Byte) (later : List Word)
  | restart
  | unknown (code : Byte)
  | empty
deriving DecidableEq, Repr, Inhabited

/-- The kind code of a request (R156). The request with no payload word has none. -/
def Request.code (r : Request) (openCode : Byte) : Nat :=
  match r with
  | .identify => 0x01
  | .storePrefix t _ _ => 0x10 + Table.code t
  | .write t _ _ => 0x20 + Table.code t
  | .read t _ _ => 0x30 + Table.code t
  | .swap _ => 0x40
  | .readContext _ _ => 0x50
  | .liftControl _ _ => 0x60
  | .control _ _ => 0x60
  | .extendStep _ _ => 0x70
  | .restart => 0xF0
  | .unknown c => c.toNat
  | .empty => openCode.toNat

/-- The request of a kind code with a table code (R156): a table code of 6 to 15 is not known. -/
def tableRequest (code : Byte) (f : Table → Request) : Request :=
  match Table.ofCode (code.toNat % 16) with
  | some t => f t
  | none => .unknown code

/-- The request a payload makes (R156). -/
def decodeRequest (payload : List Word) : Request :=
  match payload with
  | [] => .empty
  | w :: later =>
    let code : Byte := BitVec.ofNat 8 (field w 8 8)
    let index : Byte := BitVec.ofNat 8 (field w 0 8)
    if code = 0x01 then .identify
    else if code.toNat / 16 = 1 then tableRequest code fun t => .storePrefix t index later
    else if code.toNat / 16 = 2 then tableRequest code fun t => .write t index later
    else if code.toNat / 16 = 3 then tableRequest code fun t => .read t index later
    else if code = 0x40 then .swap index
    else if code = 0x50 then .readContext index later
    else if code = 0x60 then .liftControl index later
    else if code = 0x70 then .extendStep index later
    else if code = 0xF0 then .restart
    else .unknown code

/-- The data of a WRITE ENTRY: a held prefix of the same table and index comes first (R158). -/
def gathered (held : Option Prefix) (t : Table) (index : Byte) (words : List Word) : List Word :=
  match held with
  | some p => if p.table = t ∧ p.index = index then p.words ++ words else words
  | none => words

/-- PREFIX (R158). One without a data word is INVALID. -/
def State.takePrefix (s : State) (t : Table) (index : Byte) (words : List Word) : State × Answer :=
  if words.isEmpty then s.refuse .invalid
  else ({ s with prefixHeld := some { table := t, index := index, words := words } }).done

/-- A request carried out, the prefix holder already empty and `held` what it held (R156 to R164). -/
def State.serve (s : State) (r : Request) (held : Option Prefix) (now : TimeTag) : State × Answer :=
  match r with
  | .identify => (s, ⟨.done, Config.identity⟩)
  | .storePrefix t i ws => s.takePrefix t i ws
  | .write t i ws => s.writeEntry t i.toNat (gathered held t i ws) now
  | .read t i later => s.readEntry t i.toNat later
  | .swap sel => s.requestSwap sel.toNat now
  | .readContext l later => s.readContext l.toNat later now
  | .liftControl l later => s.liftControl l.toNat later now
  | .control l a => s.control l.toNat a now
  | .extendStep l later => s.extendStep l.toNat later
  | .restart => s.beginRestart.done
  | .unknown _ => s.refuse .unknown
  | .empty => s.refuse .invalid

/-- The prefix holder consumed (R158). The request with no payload word uses up one free value (log 10). -/
def State.consume (s : State) (r : Request) : State :=
  { s with prefixHeld := none, freeIndex := if r = .empty then s.freeIndex + 1 else s.freeIndex }

/-- A request taken by the Agent: the prefix holder is consumed, then BUSY during a RESTART sequence, else the request is
carried out. Each request taken makes one reply (R150, R158, R165). -/
def State.agentTakes (s : State) (r : Request) (now : TimeTag) : State :=
  let code := r.code (Config.openKindCode s.freeIndex)
  let held := s.prefixHeld
  let s := s.consume r
  if s.restart ≠ .idle then s.reply ReplyStatus.busy.code code []
  else
    let a := s.serve r held now
    a.1.reply a.2.status.code code a.2.words

/-- A management request to node 0 that is a valid arrival: discarded when the management reply FIFO is full (R150). -/
def State.routeRequest (s : State) (r : Request) (now : TimeTag) : State :=
  if Config.replyFifoSize ≤ s.link.mgmtReplies.length then s else s.agentTakes r now

/-- A MANAGEMENT REQUEST received at `t` with a payload of `length` words, to node 0 (R149, R150). More than 16 payload
words make no valid arrival. -/
def State.takeRequest (s : State) (r : Request) (length : Nat) (t : TimeTag) : State :=
  let s := s.atTime t
  if Config.maxPayload < length then s else ((s.arrive t).routeRequest r t).finish t

end Sys2Proof.Machine
end

