-- ==== Sys2Proof/Machine/Routing.lean ====
section
/-! DEFINITION. Frames received as words: the routing of a valid arrival on the station link (R150) and of a frame on a
lane of the ring (R113). -/

namespace Sys2Proof.Machine

/-- The rest of a valid arrival's handling, by kind and destination (R150). -/
def State.routeKind (s : State) (f : Frame) (now : TimeTag) : State :=
  if f.kind = kindRequest then if f.dest = 0 then s.routeRequest (decodeRequest f.payload) now else s
  else if f.kind = kindCommand then s.takeRemote { dest := f.dest, payload := f.payload }
  else s

/-- A valid arrival on the station link (R150): the silence timer restarted, then the routing by kind. -/
def State.linkFrame (s : State) (f : Frame) (now : TimeTag) : State :=
  (((s.atTime now).arrive now).routeKind f now).finish now

/-- The words between two idles of the station link: a valid arrival, or discarded without effect (R149, R150). -/
def State.linkWords (s : State) (ws : List Word) (whole : Bool) (now : TimeTag) : State :=
  match Frame.ofWords ws whole with
  | some f => s.linkFrame f now
  | none => s.atTime now

/-- A REMOTE COMMAND received with a payload as given; more than 16 words make no valid arrival (R146, R149). -/
def State.remoteArrives (s : State) (c : RemoteCommand) (now : TimeTag) : State :=
  if Config.maxPayload < c.payload.length then s.atTime now
  else (((s.atTime now).arrive now).takeRemote c).finish now

/-- A MANAGEMENT REQUEST received for a destination; to another node than 0 it is discarded (R150). -/
def State.requestArrives (s : State) (dest : BitVec 6) (payload : List Word) (now : TimeTag) : State :=
  if dest = 0 then s.takeRequest (decodeRequest payload) payload.length now
  else if Config.maxPayload < payload.length then s.atTime now
  else ((s.atTime now).arrive now).finish now

/-- A frame of a reply kind received on a lane at `t` (R113, R114). -/
def State.replyArrives (s : State) (kind : ReplyKind) (r : Reply) (now : TimeTag) : State :=
  ((s.atTime now).ringFrame kind r now).finish now

/-- The words between two idles of a lane (R111, R113): a frame of a reply kind is tested as a reply, anything else is
discarded without effect. -/
def State.ringWords (s : State) (lane : Lane) (ws : List Word) (whole : Bool) (now : TimeTag) : State :=
  match Frame.ofWords ws whole with
  | some f =>
    match ReplyKind.ofFrameKind f.kind with
    | some k => s.replyArrives k { lane := lane, dest := f.dest, source := f.source, tag := f.tag, payload := f.payload } now
    | none => s.atTime now
  | none => s.atTime now

end Sys2Proof.Machine
end

