-- ==== Sys2Proof/Machine/LinkCommands.lean ====
section
/-! DEFINITION. The meanings of the other commands of the station link. -/

namespace Sys2Proof.Machine

/-- MANAGEMENT_REQUEST_DISCARD (R150), judged by its destination and by the management reply FIFO. -/
def execManagementRequestDiscard (t : TimeTag) (dest : BitVec 6) (payload : List Word) (s : State) :
    Host.Outcome State Fault Refusal :=
  .next (s.requestArrives dest payload t)

/-- REMOTE_COMMAND (R146). -/
def execRemoteCommand (t : TimeTag) (dest : BitVec 6) (payload : List Word) (s : State) :
    Host.Outcome State Fault Refusal :=
  .next (s.remoteArrives { dest := dest, payload := payload } t)

/-- LINK_FRAME_DISCARD (R149, R150), judged by its words. -/
def execLinkFrameDiscard (t : TimeTag) (words : List Word) (whole : Bool) (s : State) :
    Host.Outcome State Fault Refusal :=
  .next (s.linkWords words whole t)

/-- TRANSMIT_END (R152). -/
def execTransmitEnd (t : TimeTag) (s : State) : Host.Outcome State Fault Refusal :=
  .next ((s.atTime t).endTransmission.finish t)

end Sys2Proof.Machine
end

