-- ==== Sys2Proof/Machine/RequestCommands.lean ====
section
/-! DEFINITION. The meanings of the management requests. Each is a request to node 0 with the payload its row describes. -/

namespace Sys2Proof.Machine

/-- IDENTIFY (R157). -/
def execIdentify (t : TimeTag) (s : State) : Host.Outcome State Fault Refusal := .next (s.takeRequest .identify 1 t)

/-- PREFIX (R158). -/
def execStorePrefix (t : TimeTag) (table : Table) (index : Byte) (words : List Word) (s : State) :
    Host.Outcome State Fault Refusal :=
  .next (s.takeRequest (.storePrefix table index words) (words.length + 1) t)

/-- WRITE_ENTRY_LIFT (R2). -/
def execWriteEntryLift (t : TimeTag) (index : Byte) (words : List Word) (s : State) : Host.Outcome State Fault Refusal :=
  .next (s.takeRequest (.write .lift index words) (words.length + 1) t)

/-- WRITE_ENTRY_LANDINGS (R39). -/
def execWriteEntryLandings (t : TimeTag) (index : Byte) (words : List Word) (s : State) :
    Host.Outcome State Fault Refusal :=
  .next (s.takeRequest (.write .landings index words) (words.length + 1) t)

/-- WRITE_ENTRY_FAULT_CLASS (R29). -/
def execWriteEntryFaultClass (t : TimeTag) (index : Byte) (words : List Word) (s : State) :
    Host.Outcome State Fault Refusal :=
  .next (s.takeRequest (.write .faultClass index words) (words.length + 1) t)

/-- WRITE_ENTRY_SCAN (R127). -/
def execWriteEntryScan (t : TimeTag) (index : Byte) (words : List Word) (s : State) : Host.Outcome State Fault Refusal :=
  .next (s.takeRequest (.write .scan index words) (words.length + 1) t)

/-- WRITE_ENTRY_RECIPE (R90). -/
def execWriteEntryRecipe (t : TimeTag) (index : Byte) (words : List Word) (s : State) :
    Host.Outcome State Fault Refusal :=
  .next (s.takeRequest (.write .recipe index words) (words.length + 1) t)

/-- WRITE_ENTRY_PARAMETERS (R161). -/
def execWriteEntryParameters (t : TimeTag) (index : Byte) (words : List Word) (s : State) :
    Host.Outcome State Fault Refusal :=
  .next (s.takeRequest (.write .parameters index words) (words.length + 1) t)

/-- READ_ENTRY (R160). -/
def execReadEntry (t : TimeTag) (table : Table) (index : Byte) (later : List Word) (s : State) :
    Host.Outcome State Fault Refusal :=
  .next (s.takeRequest (.read table index later) (later.length + 1) t)

/-- SWAP_SCAN (R128). -/
def execSwapScan (t : TimeTag) (s : State) : Host.Outcome State Fault Refusal := .next (s.takeRequest (.swap 1) 1 t)

/-- SWAP_RECIPE (R91). -/
def execSwapRecipe (t : TimeTag) (s : State) : Host.Outcome State Fault Refusal := .next (s.takeRequest (.swap 2) 1 t)

/-- SWAP_BOTH (R162). -/
def execSwapBoth (t : TimeTag) (s : State) : Host.Outcome State Fault Refusal := .next (s.takeRequest (.swap 3) 1 t)

/-- READ_CONTEXT (R163). -/
def execReadContext (t : TimeTag) (lift : Byte) (later : List Word) (s : State) : Host.Outcome State Fault Refusal :=
  .next (s.takeRequest (.readContext lift later) (later.length + 1) t)

/-- HOLD (R22). -/
def execHold (t : TimeTag) (lift : Byte) (s : State) : Host.Outcome State Fault Refusal :=
  .next (s.takeRequest (.control lift .hold) 2 t)

/-- RELEASE (R22). -/
def execRelease (t : TimeTag) (lift : Byte) (s : State) : Host.Outcome State Fault Refusal :=
  .next (s.takeRequest (.control lift .release) 2 t)

/-- ABORT (R23, R107, R108). -/
def execAbort (t : TimeTag) (lift : Byte) (s : State) : Host.Outcome State Fault Refusal :=
  .next (s.takeRequest (.control lift .abort) 2 t)

/-- FORCE_MANUAL (R23). -/
def execForceManual (t : TimeTag) (lift : Byte) (s : State) : Host.Outcome State Fault Refusal :=
  .next (s.takeRequest (.control lift .forceManual) 2 t)

/-- CLEAR (R23). -/
def execClear (t : TimeTag) (lift : Byte) (s : State) : Host.Outcome State Fault Refusal :=
  .next (s.takeRequest (.control lift .clear) 2 t)

/-- LIFT_CONTROL_INVALID_ACTION (R21), judged by the action word it carries. -/
def execLiftControlInvalidAction (t : TimeTag) (lift : Byte) (later : List Word) (s : State) :
    Host.Outcome State Fault Refusal :=
  .next (s.takeRequest (.liftControl lift later) (later.length + 1) t)

/-- EXTEND_STEP (R106). -/
def execExtendStep (t : TimeTag) (lift : Byte) (later : List Word) (s : State) : Host.Outcome State Fault Refusal :=
  .next (s.takeRequest (.extendStep lift later) (later.length + 1) t)

/-- RESTART (R164). -/
def execRestart (t : TimeTag) (s : State) : Host.Outcome State Fault Refusal := .next (s.takeRequest .restart 1 t)

/-- SWAP_INVALID_SELECTOR (R156), judged by the selector it carries. -/
def execSwapInvalidSelector (t : TimeTag) (selector : Byte) (s : State) : Host.Outcome State Fault Refusal :=
  .next (s.takeRequest (.swap selector) 1 t)

/-- UNKNOWN_REQUEST (R156), judged by the payload it carries. -/
def execUnknownRequest (t : TimeTag) (payload : List Word) (s : State) : Host.Outcome State Fault Refusal :=
  .next (s.takeRequest (decodeRequest payload) payload.length t)

end Sys2Proof.Machine
end

