-- ==== Sys2Proof/Machine/ResetCommands.lean ====
section
/-! DEFINITION. The reset pin and the end of the RESTART sequence: the meanings of POWER_ON_RESET and ALL_STOP_SEND_END. -/

namespace Sys2Proof.Machine

/-- POWER_ON_RESET (R24): every piece of state at its power-on value, the time base at 0. The model's own queue of waiting
commands and counter of free values are kept (logs 12 and 13). -/
def execPowerOnReset (s : State) : Host.Outcome State Fault Refusal :=
  .next { State.reset with freeIndex := s.freeIndex, pending := s.pending }

/-- ALL_STOP_SEND_END (R164): steps 3 and 4 of the RESTART sequence. -/
def execAllStopSendEnd (t : TimeTag) (s : State) : Host.Outcome State Fault Refusal :=
  .next (((s.atTime t).endAllStop t).finish t)

end Sys2Proof.Machine
end

