-- ==== Sys2Proof/Machine/RingCommands.lean ====
section
/-! DEFINITION. The meanings of the commands of the supervisory ring. -/

namespace Sys2Proof.Machine

/-- EXCHANGE_SEND_END (R113). -/
def execExchangeSendEnd (t : TimeTag) (s : State) : Host.Outcome State Fault Refusal :=
  .next (((s.atTime t).sendEnd t).finish t)

/-- STATUS_REPORT (R5, R113). -/
def execStatusReport (t : TimeTag) (reply : Reply) (s : State) : Host.Outcome State Fault Refusal :=
  .next (s.replyArrives .status reply t)

/-- POWER_REPORT (R74, R113). -/
def execPowerReport (t : TimeTag) (reply : Reply) (s : State) : Host.Outcome State Fault Refusal :=
  .next (s.replyArrives .power reply t)

/-- HAZARD_REPORT (R50, R113). -/
def execHazardReport (t : TimeTag) (reply : Reply) (s : State) : Host.Outcome State Fault Refusal :=
  .next (s.replyArrives .hazard reply t)

/-- ORDER_ECHO (R113, R144). -/
def execOrderEcho (t : TimeTag) (reply : Reply) (s : State) : Host.Outcome State Fault Refusal :=
  .next (s.replyArrives .echo reply t)

/-- COMMAND_REPLY (R113, R147). -/
def execCommandReply (t : TimeTag) (reply : Reply) (s : State) : Host.Outcome State Fault Refusal :=
  .next (s.replyArrives .command reply t)

/-- REPLY_WINDOW_CLOSE (R113). -/
def execReplyWindowClose (t : TimeTag) (s : State) : Host.Outcome State Fault Refusal :=
  .next (((s.atTime t).closeWindow t).finish t)

/-- RING_FRAME_DISCARD (R113), judged by its words. -/
def execRingFrameDiscard (t : TimeTag) (lane : Lane) (words : List Word) (whole : Bool) (s : State) :
    Host.Outcome State Fault Refusal :=
  .next (s.ringWords lane words whole t)

end Sys2Proof.Machine
end

