-- ==== Sys2Proof/Machine/TimerCommands.lean ====
section
/-! DEFINITION. The meanings of the expiries. Each acts when the time it stands for has been reached at its time tag, and
has no effect before that (log 2). -/

namespace Sys2Proof.Machine

/-- DESCRIPTOR_GAP_EXPIRY (R130). -/
def execDescriptorGapExpiry (t : TimeTag) (s : State) : Host.Outcome State Fault Refusal :=
  .next (((s.atTime t).expireGap t).finish t)

/-- CYCLE_START (R129, R135). -/
def execCycleStart (t : TimeTag) (s : State) : Host.Outcome State Fault Refusal :=
  .next (((s.atTime t).expireCycle t).finish t)

/-- STEP_TIMER_EXPIRY (R95). -/
def execStepTimerExpiry (t : TimeTag) (lift : Lift) (s : State) : Host.Outcome State Fault Refusal :=
  .next (((s.atTime t).expireStep lift t).finish t)

/-- POWER_STALE_EXPIRY (R75). -/
def execPowerStaleExpiry (t : TimeTag) (s : State) : Host.Outcome State Fault Refusal :=
  .next (((s.atTime t).expirePower t).finish t)

/-- SILENCE_EXPIRY (R151). -/
def execSilenceExpiry (t : TimeTag) (s : State) : Host.Outcome State Fault Refusal :=
  .next (((s.atTime t).expireSilence t).finish t)

end Sys2Proof.Machine
end

