-- ==== Sys2Proof/Machine/Dispatch.lean ====
section
/-! DEFINITION. The meaning of every command: one arm per constructor of `Instr`. -/

namespace Sys2Proof.Machine

def exec (i : Instr) (s : State) : Host.Outcome State Fault Refusal :=
  match i with
  | .powerOnReset => Sys2Proof.Machine.execPowerOnReset s
  | .identify t => Sys2Proof.Machine.execIdentify t s
  | .storePrefix t table index words => Sys2Proof.Machine.execStorePrefix t table index words s
  | .writeEntryLift t index words => Sys2Proof.Machine.execWriteEntryLift t index words s
  | .writeEntryLandings t index words => Sys2Proof.Machine.execWriteEntryLandings t index words s
  | .writeEntryFaultClass t index words => Sys2Proof.Machine.execWriteEntryFaultClass t index words s
  | .writeEntryScan t index words => Sys2Proof.Machine.execWriteEntryScan t index words s
  | .writeEntryRecipe t index words => Sys2Proof.Machine.execWriteEntryRecipe t index words s
  | .writeEntryParameters t index words => Sys2Proof.Machine.execWriteEntryParameters t index words s
  | .readEntry t table index later => Sys2Proof.Machine.execReadEntry t table index later s
  | .swapScan t => Sys2Proof.Machine.execSwapScan t s
  | .swapRecipe t => Sys2Proof.Machine.execSwapRecipe t s
  | .swapBoth t => Sys2Proof.Machine.execSwapBoth t s
  | .readContext t lift later => Sys2Proof.Machine.execReadContext t lift later s
  | .hold t lift => Sys2Proof.Machine.execHold t lift s
  | .release t lift => Sys2Proof.Machine.execRelease t lift s
  | .abort t lift => Sys2Proof.Machine.execAbort t lift s
  | .forceManual t lift => Sys2Proof.Machine.execForceManual t lift s
  | .clear t lift => Sys2Proof.Machine.execClear t lift s
  | .extendStep t lift later => Sys2Proof.Machine.execExtendStep t lift later s
  | .restart t => Sys2Proof.Machine.execRestart t s
  | .unknownRequest t payload => Sys2Proof.Machine.execUnknownRequest t payload s
  | .managementRequestDiscard t dest payload => Sys2Proof.Machine.execManagementRequestDiscard t dest payload s
  | .remoteCommand t dest payload => Sys2Proof.Machine.execRemoteCommand t dest payload s
  | .linkFrameDiscard t words whole => Sys2Proof.Machine.execLinkFrameDiscard t words whole s
  | .allStopSendEnd t => Sys2Proof.Machine.execAllStopSendEnd t s
  | .exchangeSendEnd t => Sys2Proof.Machine.execExchangeSendEnd t s
  | .statusReport t reply => Sys2Proof.Machine.execStatusReport t reply s
  | .powerReport t reply => Sys2Proof.Machine.execPowerReport t reply s
  | .hazardReport t reply => Sys2Proof.Machine.execHazardReport t reply s
  | .orderEcho t reply => Sys2Proof.Machine.execOrderEcho t reply s
  | .commandReply t reply => Sys2Proof.Machine.execCommandReply t reply s
  | .replyWindowClose t => Sys2Proof.Machine.execReplyWindowClose t s
  | .ringFrameDiscard t lane words whole => Sys2Proof.Machine.execRingFrameDiscard t lane words whole s
  | .descriptorGapExpiry t => Sys2Proof.Machine.execDescriptorGapExpiry t s
  | .cycleStart t => Sys2Proof.Machine.execCycleStart t s
  | .stepTimerExpiry t lift => Sys2Proof.Machine.execStepTimerExpiry t lift s
  | .powerStaleExpiry t => Sys2Proof.Machine.execPowerStaleExpiry t s
  | .silenceExpiry t => Sys2Proof.Machine.execSilenceExpiry t s
  | .transmitEnd t => Sys2Proof.Machine.execTransmitEnd t s
  | .liftControlInvalidAction t lift later => Sys2Proof.Machine.execLiftControlInvalidAction t lift later s
  | .swapInvalidSelector t selector => Sys2Proof.Machine.execSwapInvalidSelector t selector s

end Sys2Proof.Machine
end

