-- ==== Sys2Proof/Machine/Partners.lean ====
section
/-! DEFINITION. What the other nodes of the ring do, as the manual states it for the part's own rules to assume (R120 to
R124). These are functions of a node of their own: the part's State holds no node, and no command runs them (log 22). -/

namespace Sys2Proof.Machine

/-- Refusal reasons of an ORDER ECHO (R111, R123). -/
inductive Refusing
  | notArmed | safetyOpen | mainsPresent | badParameter
deriving DecidableEq, Repr

def Refusing.code : Refusing → Nat
  | .notArmed => 1 | .safetyOpen => 2 | .mainsPresent => 3 | .badParameter => 4

/-- A CREEP in force at a controller, with the time tag of its latest receipt that counts (R124). -/
structure CreepInForce where
  direction  : Direction
  speed      : Nat
  landing    : Nat
  holdTime   : Nat
  receivedAt : TimeTag
deriving DecidableEq, Repr

/-- A lift controller, as far as the manual states its behaviour (R121 to R124). `zone` is the landing in whose door zone
the car stands, `last` the tag of the last order received with the result it gave. -/
structure Controller where
  node      : BitVec 6
  ack       : Ack
  mainsLost : Bool
  chainOpen : Bool
  motion    : Motion
  doors     : Doors
  brakeSet  : Bool
  landings  : List DoorSide
  zone      : Option Nat
  messages  : List Nat
  creep     : Option CreepInForce
  last      : Option (BitVec 4 × Option Refusing)
deriving DecidableEq, Repr

/-- The controller is armed (R122). -/
def Controller.armed (c : Controller) : Bool := decide (c.ack ≠ .none)

/-- A door side is one that a landing has (R123). -/
def DoorSide.has (landing asked : DoorSide) : Bool := decide (landing = .both) || decide (landing = asked)

/-- Why an order is refused; none when it is accepted (R123). The first reason of the rule's table wins. -/
def Controller.refuses (c : Controller) (k : OrderKind) : Option Refusing :=
  match k with
  | .isolateMains => none
  | .stopAndHold => none
  | .disarm => none
  | .armRescue => if !c.mainsLost then some .mainsPresent else if c.chainOpen then some .safetyOpen else none
  | .creep _ speed landing holdTime =>
    if !c.armed then some .notArmed
    else if c.chainOpen then some .safetyOpen
    else if c.landings.length ≤ landing ∨ speed = 0 ∨ holdTime = 0 then some .badParameter
    else none
  | .openDoors landing side =>
    if c.motion = .stopped ∧ c.zone = some landing ∧ (c.landings[landing]?).any (·.has side) then none
    else some .badParameter
  | .announce m => if c.messages.contains m then none else some .badParameter

/-- The car stopped with its brake set, and any CREEP in force ended (R123). -/
def Controller.halt (c : Controller) (a : Ack) : Controller :=
  { c with motion := .stopped, brakeSet := true, creep := none, ack := a }

/-- STOP AND HOLD (R123): ARMED when armed, NONE otherwise. -/
def Controller.stopAndHold (c : Controller) : Controller := c.halt (if c.armed then .armed else .none)

/-- The motion of a car that moves in a direction. -/
def Direction.motion : Direction → Motion
  | .up => .movingUp
  | .down => .movingDown

/-- The action of an accepted order (R123). A CREEP that names the landing where the car stands leaves it stopped there,
ARMED. -/
def Controller.act (c : Controller) (k : OrderKind) (now : TimeTag) : Controller :=
  match k with
  | .isolateMains => { c with mainsLost := true }
  | .armRescue => { c with ack := .armed }
  | .creep d speed landing holdTime =>
    if c.motion = .stopped ∧ c.zone = some landing then c.halt .armed
    else
      { c with ack := .creeping, brakeSet := false, motion := d.motion,
               creep := some { direction := d, speed := speed, landing := landing, holdTime := holdTime,
                               receivedAt := now } }
  | .stopAndHold => c.stopAndHold
  | .openDoors _ _ => { c with doors := .moving }
  | .announce _ => c
  | .disarm => c.halt .none

/-- An order that is not a duplicate: judged, carried out when accepted, its tag and result kept (R123, R124). -/
def Controller.takeNew (c : Controller) (tag : BitVec 4) (k : OrderKind) (now : TimeTag) :
    Controller × Option Refusing :=
  match c.refuses k with
  | none => ({ c.act k now with last := some (tag, none) }, none)
  | some r => ({ c with last := some (tag, some r) }, some r)

/-- A RESCUE ORDER received: a duplicate is echoed with its first result and not carried out again (R124). The answer is
the result echoed. -/
def Controller.receive (c : Controller) (tag : BitVec 4) (k : OrderKind) (now : TimeTag) : Controller × Option Refusing :=
  match c.last with
  | some held => if held.1 = tag then (c, held.2) else c.takeNew tag k now
  | none => c.takeNew tag k now

/-- The ORDER ECHO of a result, with the order's tag (R121, R123). -/
def Controller.echo (c : Controller) (tag : BitVec 4) (result : Option Refusing) : Frame :=
  { kind := kindEcho, dest := 0, source := c.node, tag := tag,
    payload := [match result with
      | none => 0
      | some r => wordOf (32768 + r.code)] }

/-- The hold time of the CREEP in force has passed: the car stops, HOLD EXPIRED (R124). -/
def Controller.holdExpires (c : Controller) (now : TimeTag) : Controller :=
  match c.creep with
  | some k => if k.holdTime * 100 ≤ elapsed now k.receivedAt then c.halt .holdExpired else c
  | none => c

/-- The car reaches a door zone: it stops there when it is that of the ordered landing, else it goes on (R123). -/
def Controller.reaches (c : Controller) (landing : Nat) : Controller :=
  let c := { c with zone := some landing }
  match c.creep with
  | some k => if k.landing = landing then c.halt .armed else c
  | none => c

/-- ALL STOP received (R120): as STOP AND HOLD when armed; the last tag is not changed. -/
def Controller.allStop (c : Controller) : Controller := if c.armed then c.stopAndHold else c

/-- The kinds of node on the ring (R121). -/
inductive NodeKind
  | liftController | powerUnit | hazardPanel | other
deriving DecidableEq, Repr

/-- Whether a node answers a frame that passes its check (R121): only its own, and only what it gives an answer to. `chooses` says
whether it chooses to answer a REMOTE COMMAND. -/
def NodeKind.answers (n : NodeKind) (own : BitVec 6) (f : Frame) (chooses : Bool) : Bool :=
  decide (f.dest = own) &&
    (if f.kind = kindPoll then
      match n with
      | .liftController => decide (field (wordAt f.payload 0) 0 2 = 1)
      | .powerUnit => decide (field (wordAt f.payload 0) 0 2 = 2)
      | .hazardPanel => decide (field (wordAt f.payload 0) 0 2 = 3)
      | .other => false
    else if f.kind = kindOrder then decide (n = .liftController)
    else decide (f.kind = kindCommand) && chooses)

end Sys2Proof.Machine
end

