-- ==== Sys2Proof/Safety.lean ====
section
/-! DEFINITION. What the manual says always holds of the part, as predicates on states, and a safe run in their terms. -/

namespace Sys2Proof.Machine

/-! ### Lift contexts -/

/-- Which optional fields of a lift context are present in which rescue state, and what the hold flag and the Lift Table
entry say of it (R4, R6, R14, R22). -/
abbrev LiftContext.Coherent (c : LiftContext) : Prop :=
  (c.rescue.isSome ↔ c.state = .rescuing) ∧ (c.queueData.isSome ↔ c.state = .queued)
    ∧ (c.beforeOffline.isSome ↔ c.state = .offline)
    ∧ (c.beforeOffline ≠ some .excluded ∧ c.beforeOffline ≠ some .rescuing ∧ c.beforeOffline ≠ some .offline)
    ∧ (c.manualReason.isSome ↔ (c.state = .manual ∨ c.beforeOffline = some .manual))
    ∧ (c.hold = true → c.state ≠ .queued ∧ c.state ≠ .rescuing)
    ∧ (c.state = .excluded ↔ c.entry.inService = false)

/-- Every lift context is coherent, and the admission queue holds each QUEUED lift once and no other (R78). -/
abbrev State.Coherent (s : State) : Prop :=
  (∀ l : Lift, (s.lift l).Coherent) ∧ s.queue.Nodup ∧ ∀ l : Lift, l ∈ s.queue ↔ (s.lift l).state = .queued

/-- The admission queue stands in merit order, the greatest first (R78). -/
abbrev State.MeritOrdered (s : State) : Prop := s.queue.Pairwise fun a b => (s.lift b).merit ≤ (s.lift a).merit

/-- A car's position and its landings lie within the shaft, the landings in ascending order (R38, R39, R41, R46); a lift
out of service holds the power-on position (R7, R8). -/
abbrev LiftContext.InShaft (c : LiftContext) : Prop :=
  c.pos.position ≤ c.entry.shaftTop ∧ (c.landings.Pairwise fun a b => a.height < b.height)
    ∧ (∀ d ∈ c.landings, d.height ≤ c.entry.shaftTop) ∧ (c.state = .excluded → c.pos.position = 0)

/-- Every car lies within its shaft. -/
abbrev State.CarsInShaft (s : State) : Prop := ∀ l : Lift, (s.lift l).InShaft

/-- What the rescue record of a lift holds of the outstanding reservation; 0 without one (R77, R86). -/
def LiftContext.reserved (c : LiftContext) : Nat :=
  match c.rescue with
  | some r => r.held
  | none => 0

/-- The outstanding reservation is the sum of what the running executions have not released (R77). -/
abbrev State.Balanced (s : State) : Prop := s.outstanding = (allLifts.map fun l => (s.lift l).reserved).sum

/-- No execution has used more than 32 entries or holds more than two return indices (R93, R100). -/
abbrev State.StepsBounded (s : State) : Prop :=
  ∀ l : Lift, ∀ r ∈ (s.lift l).rescue, r.budget ≤ Config.stepBudget ∧ r.stack.length ≤ Config.stackDepth

/-! ### Queues and parameters -/

/-- The bounds of the FIFOs of the station link and of the pass-through queue (R146, R152). -/
abbrev State.QueuesBounded (s : State) : Prop :=
  s.link.mgmtReplies.length ≤ Config.replyFifoSize ∧ s.link.cmdReplies.length ≤ Config.replyFifoSize
    ∧ s.link.copies.length ≤ Config.copyFifoSize ∧ s.orders.passQueue.length ≤ Config.passQueueSize

/-- The notice pending list holds each lift and the station at most once (R154). -/
abbrev State.NoticesListed (s : State) : Prop :=
  (s.link.notices.map (·.number)).Nodup ∧ ∀ e ∈ s.link.notices, e.number ≤ 24

/-- Every station parameter lies in its range (R161). -/
abbrev Params.InRange (p : Params) : Prop :=
  (1 ≤ p.confirmCount ∧ p.confirmCount ≤ 15) ∧ (1 ≤ p.offlineLimit ∧ p.offlineLimit ≤ 15)
    ∧ (10 ≤ p.offMarkerDwell ∧ p.offMarkerDwell ≤ 600) ∧ (50 ≤ p.massPerPerson ∧ p.massPerPerson ≤ 120)
    ∧ p.unknownOccupancy ≤ 31 ∧ p.occupancyWeight ≤ 255 ∧ p.timeWeight ≤ 255 ∧ p.hazardBonus ≤ 255
    ∧ p.reserveFloor ≤ 65535 ∧ (1 ≤ p.concurrencyLimit ∧ p.concurrencyLimit ≤ 4) ∧ p.bypassGuard ≤ 15
    ∧ (1 ≤ p.powerStaleTime ∧ p.powerStaleTime ≤ 60) ∧ (1 ≤ p.replyWindow ∧ p.replyWindow ≤ 20)
    ∧ p.minCyclePeriod ≤ 2000 ∧ (5 ≤ p.creepHoldTime ∧ p.creepHoldTime ≤ 50)
    ∧ (1 ≤ p.linkSilenceTime ∧ p.linkSilenceTime ≤ 60) ∧ (1 ≤ p.maxCounts ∧ p.maxCounts ≤ 32767)
    ∧ (1 ≤ p.powerNode ∧ p.powerNode ≤ 62) ∧ (1 ≤ p.hazardNode ∧ p.hazardNode ≤ 62) ∧ p.powerNode ≠ p.hazardNode

/-! ### Ring and transmitter -/

/-- The Scan Engine works on a descriptor's exchange. -/
def ScanPhase.isWorking : ScanPhase → Bool
  | .working .. => true
  | _ => false

/-- An exchange is in flight exactly while a descriptor works; none is begun during a RESTART sequence, and none is left
when ALL STOP goes out, on lane A and then on lane B, in step 2 of that sequence and at no other time (R113, R120, R136,
R165). A Scan Engine that does not run takes no descriptor (R126). -/
abbrev State.RingCoherent (s : State) : Prop :=
  (s.restart = .idle → (s.exchange.isSome = s.scan.phase.isWorking))
    ∧ (s.restart ≠ .idle → s.scan.phase = .stopped) ∧ (s.restart = .quieting → s.exchange.isSome)
    ∧ (s.restart = .allStop → s.exchange = none) ∧ (s.scan.running = false → s.scan.phase = .stopped)
    ∧ s.allStop = (if s.restart = .allStop then [(.a, allStopFrame.words), (.b, allStopFrame.words)] else [])

/-- The transmitter does not idle while a source has a frame it may send (R152). -/
abbrev State.LinkServed (s : State) : Prop := s.link.transmitting = none → s.nextUpward.isNone

/-- No admission evaluation is left owing between two commands (R80). -/
abbrev State.Settled (s : State) : Prop := s.admissionDue = false

/-! ### Runs -/

/-- All of the above. -/
abbrev State.Safe (s : State) : Prop :=
  s.Coherent ∧ s.Balanced ∧ s.StepsBounded ∧ s.QueuesBounded ∧ s.NoticesListed ∧ s.params.InRange ∧ s.RingCoherent
    ∧ s.LinkServed ∧ s.Settled ∧ s.MeritOrdered ∧ s.CarsInShaft

/-- A run of `n` steps from a state passes through safe states only. -/
def SafeRun : Nat → State → Prop
  | 0, s => s.Safe
  | n + 1, s => s.Safe ∧ ∃ t, step s = .next t ∧ SafeRun n t

end Sys2Proof.Machine
end

