-- ==== Sys2Proof/WellFormed.lean ====
section
/-! DEFINITION. Which terms of `Instr` are commands as their rows describe them: the lengths a frame can carry (R111, R149)
and, for the rows that stand for a refused or discarded arrival, the content that makes them so. The machine gives every
term a meaning, well-formed or not. -/

namespace Sys2Proof

/-- Request kinds with a table code (R156): PREFIX, WRITE ENTRY and READ ENTRY. -/
def knownTableKind (code : Nat) : Bool :=
  (code / 16 == 1 || code / 16 == 2 || code / 16 == 3) && code % 16 ≤ 5

/-- A request kind code that R156 lists. -/
def knownKind (code : Nat) : Bool :=
  [0x01, 0x40, 0x50, 0x60, 0x70, 0xF0].contains code || knownTableKind code

/-- The payload of an UNKNOWN_REQUEST: no word, or a kind code that R156 does not list. -/
def unknownPayload (payload : List Word) : Bool :=
  match payload with
  | [] => true
  | w :: _ => !knownKind (w.toNat / 256)

/-- The action word of a LIFT_CONTROL_INVALID_ACTION: absent, or outside 1..5 (R21, R156). -/
def invalidAction (later : List Word) : Bool :=
  match later with
  | [] => true
  | w :: _ => w.toNat == 0 || decide (5 < w.toNat)

/-- The words of a LINK_FRAME_DISCARD: no valid arrival, or one of a kind that is not routed (R149, R150). -/
def unroutedWords (words : List Word) (whole : Bool) : Bool :=
  match Machine.Frame.ofWords words whole with
  | none => true
  | some f => f.kind != Machine.kindRequest && f.kind != Machine.kindCommand

/-- The words after word 0 of a request: at most 15. -/
def laterFits (later : List Word) : Bool := decide (later.length + 1 ≤ Config.maxPayload)

/-- A payload: at most 16 words (R111). -/
def payloadFits (payload : List Word) : Bool := decide (payload.length ≤ Config.maxPayload)

/-- The payload words of the frame a command carries; 0 for a command that carries none or carries raw words. -/
def Instr.carried (i : Instr) : Nat :=
  match i with
  | .powerOnReset => 0
  | .identify _ => 1
  | .storePrefix _ _ _ words => words.length + 1
  | .writeEntryLift _ _ words => words.length + 1
  | .writeEntryLandings _ _ words => words.length + 1
  | .writeEntryFaultClass _ _ words => words.length + 1
  | .writeEntryScan _ _ words => words.length + 1
  | .writeEntryRecipe _ _ words => words.length + 1
  | .writeEntryParameters _ _ words => words.length + 1
  | .readEntry _ _ _ later => later.length + 1
  | .swapScan _ => 1
  | .swapRecipe _ => 1
  | .swapBoth _ => 1
  | .readContext _ _ later => later.length + 1
  | .hold _ _ => 2
  | .release _ _ => 2
  | .abort _ _ => 2
  | .forceManual _ _ => 2
  | .clear _ _ => 2
  | .extendStep _ _ later => later.length + 1
  | .restart _ => 1
  | .unknownRequest _ payload => payload.length
  | .managementRequestDiscard _ _ payload => payload.length
  | .remoteCommand _ _ payload => payload.length
  | .linkFrameDiscard _ _ _ => 0
  | .allStopSendEnd _ => 0
  | .exchangeSendEnd _ => 0
  | .statusReport _ r => r.payload.length
  | .powerReport _ r => r.payload.length
  | .hazardReport _ r => r.payload.length
  | .orderEcho _ r => r.payload.length
  | .commandReply _ r => r.payload.length
  | .replyWindowClose _ => 0
  | .ringFrameDiscard _ _ _ _ => 0
  | .descriptorGapExpiry _ => 0
  | .cycleStart _ => 0
  | .stepTimerExpiry _ _ => 0
  | .powerStaleExpiry _ => 0
  | .silenceExpiry _ => 0
  | .transmitEnd _ => 0
  | .liftControlInvalidAction _ _ later => later.length + 1
  | .swapInvalidSelector _ _ => 1

/-- The command is one its row describes. -/
def Instr.wellFormed (i : Instr) : Bool :=
  match i with
  | .powerOnReset => true
  | .identify _ => true
  | .storePrefix _ _ _ words => laterFits words
  | .writeEntryLift _ _ words => laterFits words
  | .writeEntryLandings _ _ words => laterFits words
  | .writeEntryFaultClass _ _ words => laterFits words
  | .writeEntryScan _ _ words => laterFits words
  | .writeEntryRecipe _ _ words => laterFits words
  | .writeEntryParameters _ _ words => laterFits words
  | .readEntry _ _ _ later => laterFits later
  | .swapScan _ => true
  | .swapRecipe _ => true
  | .swapBoth _ => true
  | .readContext _ _ later => laterFits later
  | .hold _ _ => true
  | .release _ _ => true
  | .abort _ _ => true
  | .forceManual _ _ => true
  | .clear _ _ => true
  | .extendStep _ _ later => laterFits later
  | .restart _ => true
  | .unknownRequest _ payload => payloadFits payload && unknownPayload payload
  | .managementRequestDiscard _ _ payload => payloadFits payload
  | .remoteCommand _ _ payload => payloadFits payload
  | .linkFrameDiscard _ words whole => unroutedWords words whole
  | .allStopSendEnd _ => true
  | .exchangeSendEnd _ => true
  | .statusReport _ r => payloadFits r.payload
  | .powerReport _ r => payloadFits r.payload
  | .hazardReport _ r => payloadFits r.payload
  | .orderEcho _ r => payloadFits r.payload
  | .commandReply _ r => payloadFits r.payload
  | .replyWindowClose _ => true
  | .ringFrameDiscard _ _ _ _ => true
  | .descriptorGapExpiry _ => true
  | .cycleStart _ => true
  | .stepTimerExpiry _ _ => true
  | .powerStaleExpiry _ => true
  | .silenceExpiry _ => true
  | .transmitEnd _ => true
  | .liftControlInvalidAction _ _ later => laterFits later && invalidAction later
  | .swapInvalidSelector _ selector => selector != 1 && selector != 2 && selector != 3

end Sys2Proof
end

