-- ==== Sys2Proof/Certificates/Slice0/Obligations.lean ====
section
/-! DEFINITION. The statements for the provers, with the small vocabulary they share. -/

namespace Sys2Proof.Slice0

open Sys2Proof.Machine

/-! ### Requests and replies -/

/-- The station link has room for a reply and no RESTART sequence runs, so the Agent carries a request out (R150, R165);
no admission evaluation is owing from an earlier event. -/
abbrev Serves (s : State) : Prop := s.link.mgmtReplies.length < 4 ∧ s.restart = .idle ∧ s.admissionDue = false

/-- A valid arrival at `t`: the time, the last arrival time, ISOLATED (R150, R151). -/
def arrived (s : State) (t : TimeTag) : State :=
  { s with time := t, link := { s.link with lastArrival := t, isolated := false } }

/-- A request taken at `t`: a valid arrival that consumes the prefix holder (R158). -/
def taken (s : State) (t : TimeTag) : State := { arrived s t with prefixHeld := none }

/-- A MANAGEMENT REPLY (R111, R149, R156). -/
def reply (status kind : Nat) (ws : List Word) : Frame :=
  { kind := 11, dest := 0, source := 0, tag := 0, payload := BitVec.ofNat 16 (status * 256 + kind) :: ws }

/-- A reply handed to the transmit side (R152): it joins the management reply FIFO, whose head goes up at once when the
transmitter is free, before every other source. -/
def answered (s : State) (f : Frame) : State :=
  match s.link.transmitting, s.link.mgmtReplies with
  | some _, q => { s with link := { s.link with mgmtReplies := q ++ [f] } }
  | none, [] => { s with link := { s.link with transmitting := some f.words } }
  | none, g :: gs => { s with link := { s.link with transmitting := some g.words, mgmtReplies := gs ++ [f] } }

/-- The management request a row of the table carries, with its number of payload words and its time. -/
def requestOf (i : Instr) : Option (Request × Nat × TimeTag) :=
  match i with
  | .identify t => some (.identify, 1, t)
  | .storePrefix t tb n ws => some (.storePrefix tb n ws, ws.length + 1, t)
  | .writeEntryLift t n ws => some (.write .lift n ws, ws.length + 1, t)
  | .writeEntryLandings t n ws => some (.write .landings n ws, ws.length + 1, t)
  | .writeEntryFaultClass t n ws => some (.write .faultClass n ws, ws.length + 1, t)
  | .writeEntryScan t n ws => some (.write .scan n ws, ws.length + 1, t)
  | .writeEntryRecipe t n ws => some (.write .recipe n ws, ws.length + 1, t)
  | .writeEntryParameters t n ws => some (.write .parameters n ws, ws.length + 1, t)
  | .readEntry t tb n ws => some (.read tb n ws, ws.length + 1, t)
  | .swapScan t => some (.swap 1, 1, t)
  | .swapRecipe t => some (.swap 2, 1, t)
  | .swapBoth t => some (.swap 3, 1, t)
  | .readContext t n ws => some (.readContext n ws, ws.length + 1, t)
  | .hold t n => some (.control n .hold, 2, t)
  | .release t n => some (.control n .release, 2, t)
  | .abort t n => some (.control n .abort, 2, t)
  | .forceManual t n => some (.control n .forceManual, 2, t)
  | .clear t n => some (.control n .clear, 2, t)
  | .extendStep t n ws => some (.extendStep n ws, ws.length + 1, t)
  | .restart t => some (.restart, 1, t)
  | .unknownRequest t p => some (decodeRequest p, p.length, t)
  | .liftControlInvalidAction t n ws => some (.liftControl n ws, ws.length + 1, t)
  | .swapInvalidSelector t n => some (.swap n, 1, t)
  | _ => none

/-- The kind code a reply answers (R156); a request with no payload word has none, and the free value stands for it. -/
def kindOf (s : State) (r : Request) : Nat := r.code (Config.openKindCode s.freeIndex)

/-- Two states equal in all but the model's counter of free values. -/
abbrev SameBut (s u : State) : Prop := u = { s with freeIndex := u.freeIndex }

/-! ### Lift contexts -/

/-- The runtime fields at their power-on values (R4), with the configuration and the rescue state given. -/
def fresh (e : LiftEntry) (ls : List Landing) (st : RescueState) : LiftContext :=
  { entry := e, landings := ls, state := st, beforeOffline := none, hold := false, lastReport := none,
    suspectCount := 0, offMarkerSince := none, stallSince := none, trappedMinutes := 0, attempt := 1, unanswered := 0,
    pos := { position := 0, anchorHeight := 0, offset := 0, lastCount := none, anchored := false, doubt := true },
    occupancy := none, plan := none, queueData := none, rescue := none, manualReason := none }

/-- A lift context after an entry into NORMAL (R12). -/
def cleared (c : LiftContext) : LiftContext :=
  { c with state := .normal, suspectCount := 0, trappedMinutes := 0, attempt := 1, stallSince := none, plan := none,
           queueData := none, manualReason := none, beforeOffline := none }

/-- A state in which an ABORT of a lift with rescue record `r` has been taken at once (R107), up to the entry of the abort
recipe start: the creep reservation released when a CREEP step runs, its figure kept (log 36), and an evaluation called
then. -/
def abortTaken (s : State) (l : Lift) (r : RescueRecord) : State :=
  { (s.setLift l
        { s.lift l with rescue := some { r with abortPending := true, stack := [], working := Working.empty,
                                                creepReleased := r.creepReleased || s.inCreep l } }).setSlot l
      (some { kind := .stopAndHold, poster := .part, sends := 15, tag := none }) with
    outstanding := if s.inCreep l ∧ r.creepReleased = false then s.outstanding - r.creepReservation else s.outstanding
    admissionDue := s.inCreep l && !r.creepReleased }

/-- The rescue record of a CREEP step in which an abort has been deferred, now ordered to landing `n` (R108). -/
def deferred (r : RescueRecord) (k : CreepWork) (n : Nat) : RescueRecord :=
  { r with abortPending := true,
           working := { r.working with creep := some { k with abortDeferred := true, orderedLanding := n } } }

/-- The rescue record of a CREEP step with another reload value (R106). -/
def reloaded (r : RescueRecord) (k : CreepWork) (ds : Nat) : RescueRecord :=
  { r with working := { r.working with creep := some { k with reload := ds } } }

/-- A reason bit raised for a number in the notice pending list. -/
def raised (s : State) (number : Nat) (mask : Word) : State := s.raise number mask

/-! ### Table writes -/

/-- Word `i` of gathered data as a number. -/
def w (ws : List Word) (i : Nat) : Nat := (wordAt ws i).toNat

/-- The nearer bound of a range. -/
def near (lo hi n : Nat) : Nat := if n < lo then lo else if hi < n then hi else n

/-- The height of the highest landing of a lift's list, 0 for an empty list. -/
def highest (ls : List Landing) : Nat := (ls.getLast?.map (·.height)).getD 0

/-- The reasons of R2 and R159 for answering a LIFT write INVALID. -/
abbrev LiftInvalid (s : State) (l : Lift) (ws : List Word) : Prop :=
  ws.length < 17 ∨ 63 ≤ w ws 1 ∨ (w ws 1 = 0 ∧ w ws 0 = 1)
    ∨ (∃ k : Lift, k ≠ l ∧ w ws 1 ≠ 0 ∧ (s.lift k).entry.ringNode = w ws 1)
    ∨ w ws 1 = s.params.powerNode ∨ w ws 1 = s.params.hazardNode ∨ (w ws 0 = 1 ∧ (s.lift l).landings = [])
    ∨ near 100 20000 (w ws 3) < highest (s.lift l).landings ∨ 1 < w ws 0 ∨ 1 < w ws 2 ∨ 1 < w ws 5

/-- The Lift Table entry that valid data writes (R1, R159). -/
def liftWritten (ws : List Word) : LiftEntry :=
  { inService := w ws 0 == 1, ringNode := w ws 1, kind := if w ws 2 = 0 then .vertical else .inclined,
    shaftTop := near 100 20000 (w ws 3), encoderScale := near 1 65535 (w ws 4),
    countSense := if w ws 5 = 0 then .upIncreases else .downIncreases, balanceLoad := near 0 2500 (w ws 6),
    gravityThreshold := near 10 500 (w ws 7), brakeHoldPower := near 0 2000 (w ws 8),
    assistPower := near 0 6000 (w ws 9), rescueSpeed := near 50 400 (w ws 10), doorCycleCost := near 0 255 (w ws 11),
    kindBonus := near 0 255 (w ws 12), gravityStart := near 0 95 (w ws 13), assistedStart := near 0 95 (w ws 14),
    abortStart := near 0 95 (w ws 15), maxAttempts := near 1 3 (w ws 16) }

/-- Some scalar of LIFT data lies outside its range (R1). -/
abbrev LiftOutOfRange (ws : List Word) : Prop :=
  near 100 20000 (w ws 3) ≠ w ws 3 ∨ near 1 65535 (w ws 4) ≠ w ws 4 ∨ near 0 2500 (w ws 6) ≠ w ws 6
    ∨ near 10 500 (w ws 7) ≠ w ws 7 ∨ near 0 2000 (w ws 8) ≠ w ws 8 ∨ near 0 6000 (w ws 9) ≠ w ws 9
    ∨ near 50 400 (w ws 10) ≠ w ws 10 ∨ near 0 255 (w ws 11) ≠ w ws 11 ∨ near 0 255 (w ws 12) ≠ w ws 12
    ∨ near 0 95 (w ws 13) ≠ w ws 13 ∨ near 0 95 (w ws 14) ≠ w ws 14 ∨ near 0 95 (w ws 15) ≠ w ws 15
    ∨ near 1 3 (w ws 16) ≠ w ws 16

/-- A rescue state in which LIFT and LANDINGS writes are accepted (R2). -/
abbrev TakesWrites (st : RescueState) : Prop := st = .excluded ∨ st = .normal ∨ st = .offline ∨ st = .manual

/-- Landing `i` of LANDINGS data (R159). -/
def landingWritten (ws : List Word) (i : Nat) : Landing :=
  { height := w ws (1 + 2 * i), zone := w ws (2 + 2 * i) / 256,
    side := if w ws (2 + 2 * i) % 4 = 1 then .front else if w ws (2 + 2 * i) % 4 = 2 then .rear else .both }

/-- The reasons of R39 and R159 for answering a LANDINGS write INVALID. -/
abbrev LandingsInvalid (shaftTop : Nat) (ws : List Word) : Prop :=
  ws = [] ∨ w ws 0 < 2 ∨ 12 < w ws 0 ∨ ws.length < 1 + 2 * w ws 0
    ∨ (∃ i < w ws 0, 20000 < w ws (1 + 2 * i) ∨ 31 < w ws (2 + 2 * i) / 256 ∨ w ws (2 + 2 * i) % 4 = 0)
    ∨ (∃ i < w ws 0, i ≠ 0 ∧ w ws (1 + 2 * i) ≤ w ws (1 + 2 * (i - 1))) ∨ shaftTop < w ws (1 + 2 * (w ws 0 - 1))

/-- The data of a write: the held prefix's words first, when it names the same table and index (R158). -/
def data (s : State) (t : Table) (index : Byte) (words : List Word) : List Word :=
  match s.prefixHeld with
  | some p => if p.table = t ∧ p.index = index then p.words ++ words else words
  | none => words

/-! ### Ring exchanges -/

/-- A received frame meets R114 for an exchange. -/
abbrev Meets (x : Exchange) (kind : ReplyKind) (r : Reply) (t : TimeTag) : Prop :=
  r.lane = x.lane ∧ x.expects = kind ∧ r.source.toNat = x.dest
    ∧ kind.lengthNeeded ≤ r.payload.length ∧ r.payload.length ≤ 16
    ∧ ∃ sent window, x.waiting = some (sent, window) ∧ (t - sent).toNat ≤ window

/-- A received frame meets R114 for the exchange in flight, and no RESTART sequence runs. -/
abbrev Answers (s : State) (x : Exchange) (kind : ReplyKind) (r : Reply) (t : TimeTag) : Prop :=
  s.exchange = some x ∧ s.restart = .idle ∧ Meets x kind r t

/-- The row of a reply of a kind. -/
def replyOf (k : ReplyKind) (t : TimeTag) (r : Reply) : Instr :=
  match k with
  | .status => .statusReport t r
  | .power => .powerReport t r
  | .hazard => .hazardReport t r
  | .echo => .orderEcho t r
  | .command => .commandReply t r

/-- The sends of ALL STOP (R120, R164): kind 7, destination 63, source 0, tag 0, no payload, on lane A and then on lane B. -/
def allStopSends : List (Lane × List Word) :=
  [(.a, Frame.words { kind := 7, dest := 63, source := 0, tag := 0, payload := [] }),
   (.b, Frame.words { kind := 7, dest := 63, source := 0, tag := 0, payload := [] })]

/-- The end of an exchange whose outcome has brought about `u` (R113, R115, R130): the lane record, then the gap or the
next descriptor, then the arbitration. That these follow one another in this order is log 7. -/
def exchangeOver (u : State) (x : Exchange) (valid : Bool) (start : TimeTag) (gap : Nat) (t : TimeTag) : State :=
  (((u.closeExchange x valid).endWork start gap t).finish t)

/-- The configuration that no ring event and no expiry may change: the loaded tables and the parameters. -/
abbrev SameTables (s u : State) : Prop :=
  u.faultTable = s.faultTable ∧ u.recipes = s.recipes ∧ u.params = s.params ∧ u.scan.bankA = s.scan.bankA
    ∧ u.scan.bankB = s.scan.bankB ∧ u.prefixHeld = s.prefixHeld
    ∧ ∀ l : Lift, (u.lift l).entry = (s.lift l).entry ∧ (u.lift l).landings = (s.lift l).landings

/-- What the part remembers of a lift's reports. -/
abbrev SameReport (c d : LiftContext) : Prop :=
  d.lastReport = c.lastReport ∧ d.pos = c.pos ∧ d.occupancy = c.occupancy ∧ d.offMarkerSince = c.offMarkerSince
    ∧ d.unanswered = c.unanswered

/-! ### Rescue states -/

/-- A lift context replaced, with STATE raised when its rescue state changes (R6). -/
def moved (s : State) (l : Lift) (c : LiftContext) : State :=
  if c.state = (s.lift l).state then s.setLift l c else raised (s.setLift l c) (l.val + 1) 1

/-- A QUEUED lift out of the queue, with an evaluation called (R79, R80); any other state as it is. -/
def left (s : State) (l : Lift) : State :=
  if (s.lift l).state = .queued then { s with queue := s.queue.filter (· ≠ l), admissionDue := true } else s

/-- A lift context after an entry into MANUAL (R18). -/
def handed (c : LiftContext) (why : ManualReason) : LiftContext :=
  { c with state := .manual, manualReason := some why, queueData := none, rescue := none, beforeOffline := none }

/-- A lift context whose stall a report of `now` has confirmed with suspect count `n` (R9, R10). -/
def confirmed (c : LiftContext) (n : Nat) (now : TimeTag) : LiftContext :=
  { c with state := .stalled, suspectCount := n, stallSince := some now, trappedMinutes := 0 }

/-- The STALLED evaluation (R11) of a lift in STALLED, by the verdict of its last report and the plan that a free run makes:
recovered, NO-AUTO FAULT, kept by its hold flag with the new plan, QUEUED at the place its merit gives, or MANUAL with the
plan's reason. -/
abbrev StalledIsEvaluated : Prop :=
  ∀ (s : State) (l : Lift) (now : TimeTag) (lr : LastReport), (s.lift l).state = .stalled →
    (s.lift l).lastReport = some lr → ∀ u c p, u = s.evaluateStalled l now → c = s.lift l →
    p = planFree (planInput s l now) →
    (lr.verdict.trapping = false → u = moved s l (cleared c))
    ∧ (lr.verdict.trapping = true → lr.verdict.cls = .stallNoAuto → u = moved s l (handed c .noAutoFault))
    ∧ (lr.verdict.trapping = true → lr.verdict.cls ≠ .stallNoAuto →
        (u.lift l).plan = some p ∧ (∀ k : Lift, k ≠ l → u.lift k = s.lift k) ∧ (u.lift l).stallSince = c.stallSince
        ∧ (u.lift l).attempt = c.attempt ∧ u.outstanding = s.outstanding
        ∧ (c.hold = true → (u.lift l).state = .stalled ∧ u.queue = s.queue ∧ u.admissionDue = s.admissionDue)
        ∧ (c.hold = false → p.feasible = true →
            (u.lift l).state = .queued ∧ (u.lift l).queueData = some { entryTime := now, bypass := 0 }
              ∧ u.admissionDue = true ∧ ∀ k : Lift, k ∈ u.queue ↔ k = l ∨ k ∈ s.queue)
        ∧ (c.hold = false → p.feasible = false →
            (u.lift l).state = .manual ∧ u.queue = s.queue
              ∧ ∀ why, p.reason = some why → (u.lift l).manualReason = some why.manualReason))

/-- A report in NORMAL and in SUSPECT: the debounce (R9, R10). -/
abbrev ReportsAreDebounced : Prop :=
  ∀ (s : State) (l : Lift) (v : Verdict) (r : Report) (before : Option Nat) (now : TimeTag) (n : Nat),
    ∀ u c, u = s.reportByState l v r before now → c = s.lift l →
    (c.state = .normal → v.trapping = false → u = s)
    ∧ (c.state = .suspect → v.trapping = false → u = moved s l (cleared c))
    ∧ (c.state = .normal → v.trapping = true → n = (if v.immediate then s.params.confirmCount else 1) →
        (n < s.params.confirmCount → u = moved s l { c with state := .suspect, suspectCount := n })
        ∧ (s.params.confirmCount ≤ n → u = (moved s l (confirmed c n now)).evaluateStalled l now))
    ∧ (c.state = .suspect → v.trapping = true →
        n = (if v.immediate then s.params.confirmCount else min 15 (c.suspectCount + 1)) →
        (n < s.params.confirmCount → u = s.setLift l { c with suspectCount := n })
        ∧ (s.params.confirmCount ≤ n → u = (moved s l (confirmed c n now)).evaluateStalled l now))

/-- A report in STALLED and in QUEUED (R11, R13): a QUEUED lift recovers, is handed to staff, or is replanned, and moves in
the queue only when its merit has changed. -/
abbrev WaitingLiftsTakeReports : Prop :=
  ∀ (s : State) (l : Lift) (v : Verdict) (r : Report) (before : Option Nat) (now : TimeTag),
    ∀ u c p, u = s.reportByState l v r before now → c = s.lift l → p = planFree (planInput s l now) →
    (c.state = .stalled → u = s.evaluateStalled l now)
    ∧ (c.state = .queued → v.trapping = false → u = moved (left s l) l (cleared c))
    ∧ (c.state = .queued → v.trapping = true → v.cls = .stallNoAuto → u = moved (left s l) l (handed c .noAutoFault))
    ∧ (c.state = .queued → v.trapping = true → v.cls ≠ .stallNoAuto →
        (u.lift l).plan = some p ∧ (∀ k : Lift, k ≠ l → u.lift k = s.lift k)
        ∧ (p.feasible = true → (u.lift l).state = .queued ∧ (u.lift l).queueData = c.queueData
            ∧ (c.plan.map (·.merit) = some p.merit → u.queue = s.queue ∧ u.admissionDue = s.admissionDue)
            ∧ (c.plan.map (·.merit) ≠ some p.merit →
                u.admissionDue = true ∧ ∀ k : Lift, k ∈ u.queue ↔ k = l ∨ k ∈ s.queue))
        ∧ (p.feasible = false → (u.lift l).state = .manual ∧ l ∉ u.queue ∧ (u.lift l).queueData = none
            ∧ u.admissionDue = true ∧ ∀ why, p.reason = some why → (u.lift l).manualReason = some why.manualReason))

/-- A report in RESCUING, RELEASED and MANUAL (R15, R17, R18): the safety end or the running step; CLEAR when the car has
become empty, and NORMAL when mains are back; NORMAL when the car runs again or stands at a landing. -/
abbrev RescuedLiftsTakeReports : Prop :=
  ∀ (s : State) (l : Lift) (v : Verdict) (r : Report) (before : Option Nat) (now : TimeTag),
    ∀ u c, u = s.reportByState l v r before now → c = s.lift l →
    (c.state = .rescuing →
      ((v.trapping = true ∧ v.cls = .stallNoAuto) ∨ r.chainOpen = true → u = s.endExecution l .safety now)
      ∧ (¬ (v.trapping = true ∧ v.cls = .stallNoAuto) → r.chainOpen = false → u = s.stepReport l r now))
    ∧ (c.state = .released → ∀ e, e = (if c.occupancy = some 0 ∧ before ≠ some 0 then raised s (l.val + 1) 8 else s) →
        (r.mainsLost = false ∧ v.cls = .ignore → u = moved e l (cleared c))
        ∧ (r.mainsLost = true ∨ v.cls ≠ .ignore → u = e))
    ∧ (c.state = .manual →
        (r.mainsLost = false ∧ v.cls = .ignore ∧ (r.motion ≠ .stopped ∨ r.marker.isSome) → u = moved s l (cleared c))
        ∧ (r.mainsLost = true ∨ v.cls ≠ .ignore ∨ (r.motion = .stopped ∧ r.marker = none) → u = s))

/-- The first report of an OFFLINE lift (R20), by the state before offline. -/
abbrev OfflineLiftsReturn : Prop :=
  ∀ (s : State) (l : Lift) (v : Verdict) (r : Report) (before : Option Nat) (now : TimeTag),
    ∀ u c, u = s.reportByState l v r before now → c = s.lift l → c.state = .offline →
    (c.beforeOffline = some .manual →
      u = (moved s l { c with state := .manual, beforeOffline := none }).reportByState l v r before now)
    ∧ (c.beforeOffline = some .released →
      u = (moved s l { c with state := .released, beforeOffline := none }).reportByState l v r before now)
    ∧ (c.beforeOffline = some .stalled ∨ c.beforeOffline = some .queued → v.trapping = true →
      u = (moved s l { c with state := .stalled, beforeOffline := none }).evaluateStalled l now)
    ∧ (c.beforeOffline = some .normal ∨ c.beforeOffline = some .suspect
        ∨ ((c.beforeOffline = some .stalled ∨ c.beforeOffline = some .queued) ∧ v.trapping = false) →
      u = (moved s l (cleared c)).reportByState l v r before now)

/-- One unanswered poll (R19): the count, saturating at 15, and at the offline limit OFFLINE, the end of the execution with
LOST CONTACT, or nothing further; nothing at all for an EXCLUDED lift (R131). -/
abbrev UnansweredPollsAreCounted : Prop :=
  ∀ (s : State) (l : Lift) (now : TimeTag), ∀ u c n, u = s.unansweredPoll l now → c = s.lift l →
    n = min 15 (c.unanswered + 1) →
    (c.state = .excluded → u = s)
    ∧ (c.state ≠ .excluded → n < s.params.offlineLimit → u = s.setLift l { c with unanswered := n })
    ∧ (c.state ≠ .excluded → s.params.offlineLimit ≤ n →
        (c.state = .offline → u = s.setLift l { c with unanswered := n })
        ∧ (c.state = .rescuing →
            u = (s.setLift l { c with unanswered := n }).endExecution l .lostContact now)
        ∧ (c.state ≠ .offline → c.state ≠ .rescuing →
            u = moved (left s l) l
              { c with unanswered := n, state := .offline, beforeOffline := some c.state,
                       queueData := if c.state = .queued then none else c.queueData }))

/-- The endings of an execution (R16): the record gone, what it held released, an evaluation called, the order left in the
slot the part's, and the new state with its manual reason; a RETRY below the maximum attempts goes through STALLED. -/
abbrev ExecutionsEnd : Prop :=
  ∀ (s : State) (l : Lift) (r : RescueRecord) (why : Ending) (now : TimeTag), (s.lift l).state = .rescuing →
    (s.lift l).rescue = some r → ∀ u c free, u = s.endExecution l why now → c = s.lift l →
    free = s.outstanding - (r.doorReservation + if r.creepReleased then 0 else r.creepReservation) →
    u.outstanding = free ∧ u.admissionDue = true ∧ (u.lift l).rescue = none ∧ (u.lift l).state ≠ .rescuing
    ∧ (∀ k : Lift, k ≠ l → u.lift k = s.lift k ∧ u.slot k = s.slot k)
    ∧ u.slot l = (match why with
        | .safety => some { kind := .stopAndHold, poster := .part, sends := 15, tag := none }
        | .lostContact => none
        | _ => (s.slot l).map fun o => { o with poster := .part })
    ∧ (∀ reason : ManualReason,
        (why = .stepLimit ∧ reason = .stepLimit) ∨ (why = .safety ∧ reason = .noAutoFault)
          ∨ (why = .lostContact ∧ reason = .lostContact)
          ∨ ((∃ o, why = .reached o) ∧ r.abortPending = true ∧ reason = .aborted)
          ∨ (why = .reached .manual ∧ r.abortPending = false ∧ reason = .stepFailed)
          ∨ (why = .reached .retry ∧ r.abortPending = false ∧ c.entry.maxAttempts ≤ c.attempt
              ∧ reason = .attemptsExhausted) →
        u.lift l = handed c reason)
    ∧ (why = .reached .released → r.abortPending = false → u.lift l = { c with state := .released, rescue := none })
    ∧ (why = .reached .retry → r.abortPending = false → c.attempt < c.entry.maxAttempts →
        ∃ v : State, v.lift l = { c with state := .stalled, rescue := none, attempt := c.attempt + 1 }
          ∧ v.outstanding = free ∧ v.queue = s.queue
          ∧ u = { v.evaluateStalled l now with admissionDue := true })

/-! ### Report copies and notices -/

/-- The report copy filter (R153): not copied while ISOLATED, equal to the last copy, or with the FIFO full; else queued
with the payload as sent, and the record replaced. -/
abbrev CopiesAreFiltered : Prop :=
  ∀ (s : State) (l : Lift) (p : List Word) (r : Report), ∀ u, u = s.offerCopy l p r →
    (s.link.isolated = true ∨ s.lastCopy l = some r.toReportFields ∨ 8 ≤ s.link.copies.length → u = s)
    ∧ (s.link.isolated = false → s.lastCopy l ≠ some r.toReportFields → s.link.copies.length < 8 →
        u = { s with link := { s.link with
          copies := s.link.copies ++ [{ kind := 2, dest := 0, source := BitVec.ofNat 6 (s.lift l).entry.ringNode, tag := 0,
                                        payload := p.take 4 }]
          lastCopy := s.link.lastCopy.set l.val (some r.toReportFields) l.isLt } })

/-- The content of a RESCUE NOTICE (R111, R155), for a lift and for the station. -/
abbrev NoticesAreBuilt : Prop :=
  ∀ (s : State) (m : Word),
    (∀ l : Lift, s.buildNotice ⟨l.val + 1, m⟩ = { kind := 12, dest := 0, source := 0, tag := 0, payload :=
      [BitVec.ofNat 16 ((l.val + 1) * 256 + (s.lift l).state.code), m,
       BitVec.ofNat 16 ((match (s.lift l).manualReason with | none => 0 | some r => r.code) * 256
         + (match (s.lift l).occupancy with | none => 63 | some n => n)),
       BitVec.ofNat 16 ((match (s.lift l).plan.bind (·.target) with | none => 15 | some n => n) * 256
         + (s.lift l).trappedMinutes),
       BitVec.ofNat 16 (s.lift l).pos.position,
       BitVec.ofNat 16 (match (s.lift l).plan with | none => 0 | some p => p.merit),
       BitVec.ofNat 16 (s.time.toNat / 65536), BitVec.ofNat 16 s.time.toNat] })
    ∧ s.buildNotice ⟨0, m⟩ = { kind := 12, dest := 0, source := 0, tag := 0, payload :=
      [15, m, 0, 0, 0, 0, BitVec.ofNat 16 (s.time.toNat / 65536), BitVec.ofNat 16 s.time.toNat] }

/-! ### Orders -/

/-- A posting (R139): only an ordinary order over a STOP-class one is turned away; a posted order is stored unsent. That
nobody is told of an order it replaces is log 32. -/
abbrev PostingsTakeTheSlot : Prop :=
  ∀ (s : State) (l : Lift) (k : OrderKind) (p : Poster) (n : Nat),
    ((∃ o ∈ s.slot l, o.kind.isStop = true) → k.isStop = false → s.post l k p n = (s, false))
    ∧ ((∀ o ∈ s.slot l, o.kind.isStop = true → k.isStop = true) →
        s.post l k p n = (s.setSlot l (some { kind := k, poster := p, sends := n, tag := none }), true))

/-- What an order exchange brings (R144, R145): a matching echo empties the slot and tells the poster; another echo and
silence use up a send, the last of which empties the slot; an order that has replaced the one sent stays. -/
abbrev OrderOutcomesAct : Prop :=
  ∀ (s : State) (l : Lift) (tag : BitVec 4) (out : EchoOutcome) (now : TimeTag), ∀ u,
    u = s.orderOutcome l tag out now →
    ((∀ o ∈ s.slot l, o.tag ≠ some tag) → u = s)
    ∧ ∀ o, s.slot l = some o → o.tag = some tag →
      (∀ refused, out = .echo tag refused → u = (s.setSlot l none).deliver l o.poster (!refused) now)
      ∧ ((out = .silent ∨ ∃ t refused, out = .echo t refused ∧ t ≠ tag) →
          (2 ≤ o.sends → u = s.setSlot l (some { o with sends := o.sends - 1 }))
          ∧ (o.sends ≤ 1 → u = (s.setSlot l none).deliver l o.poster false now))

/-- The delivery of an outcome (R98): to the entry that posted the order, while it runs; ORDER ends by it, CREEP takes an
acceptance and goes on; for any other poster it is dropped. -/
abbrev OutcomesAreDelivered : Prop :=
  ∀ (s : State) (l : Lift) (poster : Poster) (ok : Bool) (now : TimeTag), ∀ u, u = s.deliver l poster ok now →
    ((s.lift l).rescue = none → u = s)
    ∧ ∀ r sr, (s.lift l).rescue = some r → s.stepRecord r.bank r.step = sr →
      (poster ≠ .entry r.budget → u = s)
      ∧ (poster = .entry r.budget →
          ((∃ k m, sr.action = .order k m) → u = s.endStep l ok now)
          ∧ (sr.action = .creep → ok = false → u = s.endStep l false now)
          ∧ (sr.action = .creep → ok = true → ∀ w, r.working.creep = some w →
              u = s.setLift l { s.lift l with
                rescue := some { r with working := { r.working with creep := some { w with accepted := true } } } })
          ∧ ((∀ k m, sr.action ≠ .order k m) → sr.action ≠ .creep → u = s))

/-- The choice of an ORDER SLOT among orders (R142): STOP-class orders first, each class searched from its pointer upward,
passing from lift 24 to lift 1. -/
abbrev OrdersAreChosenInTurn : Prop :=
  ∀ s : State, ∀ holds : Bool → Lift → Prop, (∀ b l, holds b l ↔ ∃ o ∈ s.slot l, o.kind.isStop = b) →
    (∀ k : Lift, holds true (s.orders.stopPointer + k) → (∀ j < k, ¬ holds true (s.orders.stopPointer + j)) →
      s.chooseOrder = some (s.orders.stopPointer + k))
    ∧ ((∀ l, ¬ holds true l) → ∀ k : Lift, holds false (s.orders.ordPointer + k) →
        (∀ j < k, ¬ holds false (s.orders.ordPointer + j)) → s.chooseOrder = some (s.orders.ordPointer + k))
    ∧ ((∀ l : Lift, s.slot l = none) → s.chooseOrder = none)

/-- A chosen order sent (R134, R141, R142, R143): a new order takes the next tag of its lift, a resent one keeps its own; the
pointer of its class moves behind the lift, and the exchange expects an ORDER ECHO from the lift's node. -/
abbrev ChosenOrdersAreSent : Prop :=
  ∀ (s : State) (d : Descriptor) (now : TimeTag) (l : Lift) (o : Order), d.kind = .orderSlot → s.chooseOrder = some l →
    s.slot l = some o → ∀ t, t = (match o.tag with | some t => t | none => s.tagCounter l + 1) →
    ∃ u, s.takeDescriptor d now = (u, false) ∧ u.lifts = s.lifts ∧ u.slot l = some { o with tag := some t }
      ∧ u.tagCounter l = (if o.tag = none then t else s.tagCounter l)
      ∧ (∀ k : Lift, k ≠ l → u.slot k = s.slot k ∧ u.tagCounter k = s.tagCounter k)
      ∧ u.orders.stopPointer = (if o.kind.isStop then l + 1 else s.orders.stopPointer)
      ∧ u.orders.ordPointer = (if o.kind.isStop then s.orders.ordPointer else l + 1)
      ∧ u.orders.passQueue = s.orders.passQueue ∧ u.link = s.link
      ∧ u.exchange = some { lane := s.chooseLane (s.askedLane d), dest := (s.lift l).entry.ringNode % 64, expects := .echo,
                            sent := Frame.words { kind := 5, dest := BitVec.ofNat 6 (s.lift l).entry.ringNode, source := 0,
                                                  tag := t, payload := o.kind.payload }, waiting := none }
      ∧ u.scan.phase = .working now d.gap (.order l t)

/-- An ORDER SLOT that finds no order (R142, R147): heads of the pass-through queue whose node is now under rescue are
answered UNDER RESCUE, as far as the reply FIFO has room, and the first other command is sent; an emptied queue skips the
descriptor. -/
abbrev SlotsWithoutOrdersPassCommands : Prop :=
  ∀ (s : State) (d : Descriptor) (now : TimeTag) (gone rest : List RemoteCommand), d.kind = .orderSlot →
    (∀ l : Lift, s.slot l = none) →
    ∀ busy : RemoteCommand → Prop, (∀ c, busy c ↔ ∃ l : Lift, (s.lift l).entry.ringNode = c.dest.toNat
      ∧ ((s.lift l).state = .queued ∨ (s.lift l).state = .rescuing)) →
    (∀ c ∈ gone, busy c) →
    ∀ (told : List Frame) (v : State),
      told = (gone.map fun c => ({ kind := 9, dest := c.dest, source := 0, tag := 0, payload := [1] } : Frame)).take
        (4 - s.link.cmdReplies.length) →
      v = { s with link := { s.link with cmdReplies := s.link.cmdReplies ++ told } } →
    (s.orders.passQueue = gone →
      s.takeDescriptor d now = ({ v with orders := { v.orders with passQueue := [] } }, true))
    ∧ ∀ c, s.orders.passQueue = gone ++ c :: rest → ¬ busy c →
      s.takeDescriptor d now =
        ({ v with orders := { v.orders with passQueue := rest }
                  exchange := some { lane := s.chooseLane (s.askedLane d), dest := c.dest.toNat, expects := .command,
                                     sent := Frame.words { kind := 8, dest := c.dest, source := 0, tag := 0,
                                                           payload := c.payload }, waiting := none }
                  scan := { v.scan with phase := .working now d.gap (.command c.dest) } }, false)

/-! ### The scan cycle -/

/-- The lane a descriptor asks for (R125): its own, or lane A in a cycle of even counter and lane B in one of odd. -/
def askedOf (s : State) (d : Descriptor) : Lane :=
  match d.lane with
  | .a => .a
  | .b => .b
  | .alternate => if s.scan.cycleCounter.toNat % 2 = 0 then .a else .b

/-- The exchange of a POLL to a node (R111, R112, R131), on the lane R117 chooses. -/
def pollExchange (s : State) (asked : Lane) (node wanted : Nat) (k : ReplyKind) : Exchange :=
  { lane := s.chooseLane asked, dest := node % 64, expects := k, waiting := none,
    sent := Frame.words { kind := 1, dest := BitVec.ofNat 6 node, source := 0, tag := 0,
                          payload := [BitVec.ofNat 16 wanted] } }

/-- A descriptor taken (R130, R131), but for an ORDER SLOT: a POLL LIFT of an EXCLUDED lift is skipped, a poll sends its
first try, a PAUSE holds the cycle for its gap. -/
abbrev DescriptorsAreTaken : Prop :=
  ∀ (s : State) (d : Descriptor) (now : TimeTag),
    (d.kind = .pollLift → ∀ l, liftOfNumber d.lift = some l →
      ((s.lift l).state = .excluded → s.takeDescriptor d now = (s, true))
      ∧ ((s.lift l).state ≠ .excluded → s.takeDescriptor d now =
          ({ s with exchange := some (pollExchange s (askedOf s d) (s.lift l).entry.ringNode 1 .status),
                    scan := { s.scan with phase := .working now d.gap (.poll d (askedOf s d) d.retry) } }, false)))
    ∧ (d.kind = .pollPower → s.takeDescriptor d now =
        ({ s with exchange := some (pollExchange s (askedOf s d) s.params.powerNode 2 .power),
                  scan := { s.scan with phase := .working now d.gap (.poll d (askedOf s d) d.retry) } }, false))
    ∧ (d.kind = .pollHazard → s.takeDescriptor d now =
        ({ s with exchange := some (pollExchange s (askedOf s d) s.params.hazardNode 3 .hazard),
                  scan := { s.scan with phase := .working now d.gap (.poll d (askedOf s d) d.retry) } }, false))
    ∧ (d.kind = .pause → s.takeDescriptor d now =
        (if d.gap = 0 then (s, true)
         else ({ s with scan := { s.scan with phase := .gapWait now d.gap } }, false)))

/-- A cycle end (R135): a pending swap applied with BANK SWAPPED, the counter moved, CYCLE SLOW raised for a cycle with a
CREEP step that has run longer than the creep hold time, then the wait for the next cycle. -/
abbrev CyclesEnd : Prop :=
  ∀ (s : State) (now began : TimeTag), s.scan.startTime = some began →
    ∀ swapped slow : Bool, swapped = s.scan.swapPending →
    slow = (s.scan.creepSeen && decide (s.params.creepHoldTime * 100 < (now - began).toNat)) →
    ∀ a, a = (if swapped then raiseIn 0 64 s.link.notices else s.link.notices) →
    s.endCycle now =
      { s with
        scan := { s.scan with
          active := if swapped then (match s.scan.active with | .a => .b | .b => .a) else s.scan.active
          swapPending := false, cycleCounter := s.scan.cycleCounter + 1, phase := .cycleWait }
        link := { s.link with notices := if slow then raiseIn 0 256 a else a } }

/-! ### The step sequencer -/

/-- The reports that satisfy a WAIT condition (R96). -/
abbrev Satisfies (k : WaitCondition) (r : Report) (occupancy : Option Nat) : Prop :=
  match k with
  | .stopped => r.motion = .stopped
  | .mainsLost => r.mainsLost = true
  | .armed => r.ack = .armed
  | .doorsOpen => r.doors = .opened
  | .carClear => occupancy = some 0
  | .brakeSet => r.brakeSet = true

/-- A report taken by a running WAIT step (R96): a satisfying one adds 1 to the repeat counter, another sets it to 0, and the
step ends done when the counter reaches its count, 0 taken as 1. A CREEP step examines it (R104); ORDER and PAUSE do not
act on it (R97, R99). -/
abbrev WaitsCountReports : Prop :=
  ∀ (s : State) (l : Lift) (rep : Report) (now : TimeTag) (r : RescueRecord) (sr : StepRecord),
    (s.lift l).rescue = some r → s.stepRecord r.bank r.step = sr →
    (∀ k, sr.action = .wait k → ∀ n v, (Satisfies k rep (s.lift l).occupancy → n = r.working.repeats + 1) →
      (¬ Satisfies k rep (s.lift l).occupancy → n = 0) →
      v = s.setLift l { s.lift l with rescue := some { r with working := { r.working with repeats := n } } } →
      ((if sr.count = 0 then 1 else sr.count) ≤ n → s.stepReport l rep now = v.endStep l true now)
      ∧ (n < (if sr.count = 0 then 1 else sr.count) → s.stepReport l rep now = v))
    ∧ (sr.action = .creep → s.stepReport l rep now = s.creepReport l rep now)
    ∧ ((sr.action = .pause ∨ ∃ k m, sr.action = .order k m) → s.stepReport l rep now = s)

/-- The rescue record of an entry (R93): the budget, the step, and its working values, with the timer of a step that
waits. -/
def entering (r : RescueRecord) (i : Nat) (timer : Option StepTimer) : RescueRecord :=
  { r with budget := r.budget + 1, step := i, working := { repeats := 0, timer := timer, creep := none } }

/-- An entry (R93, R97, R99 to R101): the budget of 32, the step timer, the order an ORDER step posts or its fail, CALL and
RETURN with the return stack, END, and the entry of a CREEP step. The answer names the step entered next within the event. -/
abbrev StepsAreEntered : Prop :=
  ∀ (s : State) (l : Lift) (i : Nat) (now : TimeTag) (r : RescueRecord) (sr : StepRecord),
    (s.lift l).rescue = some r → s.stepRecord r.bank i = sr →
    ∀ (put : RescueRecord → State) (timer : StepTimer), (∀ r', put r' = s.setLift l { s.lift l with rescue := some r' }) →
    timer = { loadedAt := now, ds := if sr.timeout = 0 then 1 else sr.timeout } →
    (32 ≤ r.budget → s.enterOnce l i now = (s.endExecution l .stepLimit now, none))
    ∧ (r.budget < 32 →
        (sr.action = .pause ∨ (∃ k, sr.action = .wait k) →
          s.enterOnce l i now = (put (entering r i (some timer)), none))
        ∧ (∀ k m, sr.action = .order k m → ∀ kind, (s.lift l).stepOrder k m = some kind →
            ((∀ o ∈ s.slot l, o.kind.isStop = true → kind.isStop = true) →
              s.enterOnce l i now =
                ((put (entering r i (some timer))).setSlot l
                  (some { kind := kind, poster := .entry (r.budget + 1), sends := if sr.count = 0 then 1 else sr.count,
                          tag := none }), none))
            ∧ ((∃ o ∈ s.slot l, o.kind.isStop = true) → kind.isStop = false →
                s.enterOnce l i now = (put (entering r i none), some sr.chainFail)))
        ∧ (∀ k m, sr.action = .order k m → (s.lift l).stepOrder k m = none →
            ∃ u, s.enterOnce l i now = (u, some sr.chainFail) ∧ (u.lift l).rescue = some (entering r i none))
        ∧ (∀ target, sr.action = .call target →
            (r.stack.length < 2 → ∀ v, v = put { entering r i none with stack := sr.chainDone :: r.stack } →
              s.enterOnce l i now = (if sr.notify then raised v (l.val + 1) 2 else v, some target))
            ∧ (2 ≤ r.stack.length → s.enterOnce l i now = (put (entering r i none), some sr.chainFail)))
        ∧ (sr.action = .ret →
            (∀ j rest, r.stack = j :: rest → ∀ v, v = put { entering r i none with stack := rest } →
              s.enterOnce l i now = (if sr.notify then raised v (l.val + 1) 2 else v, some j))
            ∧ (r.stack = [] → s.enterOnce l i now = (put (entering r i none), some sr.chainFail)))
        ∧ (sr.action = .creep → s.enterOnce l i now = (put (entering r i (some timer))).enterCreep l sr now)
        ∧ (∀ o, sr.action = .finish o →
            s.enterOnce l i now = ((put (entering r i none)).endExecution l (.reached o) now, none)))

/-- The order an ORDER step posts (R97): its own kind, with the message of an ANNOUNCE; OPEN DOORS names the plan's target, or
in MARKER mode the landing of the last report's marker, with that landing's side, and finds none without one. That a marker
naming no landing of a list shortened since finds none is log 37. -/
abbrev StepOrdersAreFormed : Prop :=
  ∀ (c : LiftContext) (m : Nat),
    c.stepOrder .isolateMains m = some .isolateMains ∧ c.stepOrder .armRescue m = some .armRescue
    ∧ c.stepOrder .stopAndHold m = some .stopAndHold ∧ c.stepOrder .announce m = some (.announce m)
    ∧ c.stepOrder .disarm m = some .disarm
    ∧ (c.plan = none → c.stepOrder .openDoors m = none)
    ∧ ∀ p, c.plan = some p → ∀ n, n = (if p.mode = .marker then c.lastReport.bind (·.report.marker) else p.target) →
      (n = none → c.stepOrder .openDoors m = none)
      ∧ (∀ i, n = some i → c.landings[i]? = none → c.stepOrder .openDoors m = none)
      ∧ ∀ i d, n = some i → c.landings[i]? = some d → c.stepOrder .openDoors m = some (.openDoors i d.side)

/-- The entries of one event (R93): a step that waits ends them, and one that completes within its entry leads to the
next, up to the 33rd, which ends the execution. -/
abbrev EntriesFollowOneAnother : Prop :=
  ∀ (s u : State) (l : Lift) (i : Nat) (now : TimeTag),
    (s.enterOnce l i now = (u, none) → s.startStep l i now = u)
    ∧ ∀ j, s.enterOnce l i now = (u, some j) → s.startStep l i now = u.startStep l j now

/-! ### CREEP -/

/-- The entry of a CREEP step (R85, R102), after its free run has replaced the plan: in fail for an infeasible plan, a
changed direction or a distance beyond the original one, done for distance 0, else the CREEP order posted and the working
values set, or in fail where a STOP-class order is pending. A step that ends releases the creep reservation, whose
figure the record keeps (log 36). -/
abbrev CreepIsEntered : Prop :=
  ∀ (s : State) (l : Lift) (sr : StepRecord) (now : TimeTag) (r : RescueRecord), sr.action = .creep →
    (s.lift l).rescue = some r → r.working.creep = none → ∀ p, p = planFree (planInput s l now) →
    ∀ same within : Prop, (same ↔ ∃ q, (s.lift l).plan = some q ∧ q.direction = p.direction) →
    (within ↔ p.distance ≤ r.originalDistance) → ∀ u, u = (s.enterCreep l sr now).1 →
    (u.lift l).plan = some p
    ∧ (p.feasible = true ∧ p.distance = 0 → (s.enterCreep l sr now).2 = some sr.chainDone)
    ∧ (p.feasible = false ∨ (p.distance ≠ 0 ∧ (¬ same ∨ ¬ within)) → (s.enterCreep l sr now).2 = some sr.chainFail)
    ∧ (p.feasible = true → p.distance ≠ 0 → same → within →
        ((∃ o ∈ s.slot l, o.kind.isStop = true) → (s.enterCreep l sr now).2 = some sr.chainFail)
        ∧ ((∀ o ∈ s.slot l, o.kind.isStop = false) → (s.enterCreep l sr now).2 = none
            ∧ ∀ n, n = (match p.target, p.direction with
                | some t, _ => t
                | none, .up => (s.lift l).landings.length - 1
                | none, .down => 0) →
              u.slot l = some { kind := .creep p.direction (s.lift l).entry.rescueSpeed n s.params.creepHoldTime,
                                poster := .entry r.budget, sends := if sr.count = 0 then 1 else sr.count, tag := none }
              ∧ u.outstanding = s.outstanding
              ∧ ∀ k : CreepWork,
                k = { reload := if sr.timeout = 0 then 1 else sr.timeout, startPosition := (s.lift l).pos.position,
                      orderedLanding := n, markerSeen := (s.lift l).lastReport.bind (·.report.marker),
                      accepted := false, abortDeferred := false } →
                (u.lift l).rescue = some { r with working := { r.working with creep := some k } }))
    ∧ ((s.enterCreep l sr now).2 ≠ none →
        (u.lift l).rescue = some { r with creepReleased := true, working := Working.empty }
        ∧ u.outstanding = (if r.creepReleased then s.outstanding else s.outstanding - r.creepReservation))

/-- What a report decides for a running CREEP step (R104, tests 1 to 3): `some true` done, `some false` in fail, `none` that
the step runs on. That a stop at the plan's target ends it done even where R105 has ordered that target beyond the original
plan distance is log 44. -/
abbrev CreepReportsAreTested : Prop :=
  ∀ (zones : BitVec 32) (c : LiftContext) (w : CreepWork) (r : Report) (p : Plan), c.plan = some p →
    ∀ res, res = creepVerdict zones c w r →
    ∀ late back : Prop, (late ↔ w.accepted = true ∧ r.ack = .holdExpired) →
    (back ↔ (p.direction = .up ∧ c.pos.position + 10 ≤ w.startPosition)
      ∨ (p.direction = .down ∧ w.startPosition + 10 ≤ c.pos.position)) →
    (∀ m, r.motion = .stopped → r.marker = some m → m = w.orderedLanding →
      (res = some true ↔ w.abortDeferred = true ∨ (p.mode ≠ .marker ∧ p.target = some m)
        ∨ (p.mode = .marker ∧ usableAt zones c.landings m = true))
      ∧ res ≠ none)
    ∧ (∀ m, r.motion = .stopped → r.marker = some m → m ≠ w.orderedLanding → p.mode = .marker →
        usableAt zones c.landings m = true → res = some true)
    ∧ ((r.motion ≠ .stopped ∨ r.marker = none
          ∨ ∃ m, r.marker = some m ∧ m ≠ w.orderedLanding ∧ (p.mode ≠ .marker ∨ usableAt zones c.landings m = false)) →
        (late ∨ back → res = some false) ∧ (¬ late → ¬ back → res = none))

/-- A report taken by a running CREEP step (R104): the step ends as the tests decide, or runs on with marker seen brought up
to date, its timer reloaded at a new marker, and in MARKER mode a usable landing ahead ordered at once. -/
abbrev CreepReportsAct : Prop :=
  ∀ (s : State) (l : Lift) (rep : Report) (now : TimeTag) (r : RescueRecord) (w : CreepWork) (p : Plan),
    (s.lift l).rescue = some r → r.working.creep = some w → (s.lift l).plan = some p →
    (∀ ok, creepVerdict s.hazard (s.lift l) w rep = some ok → s.creepReport l rep now = s.endStep l ok now)
    ∧ (creepVerdict s.hazard (s.lift l) w rep = none → ∀ timer v,
        (rep.marker ≠ none ∧ rep.marker ≠ w.markerSeen → timer = some { loadedAt := now, ds := w.reload }) →
        (rep.marker = none ∨ rep.marker = w.markerSeen → timer = r.working.timer) →
        v = s.setLift l { s.lift l with rescue := some { r with working := { r.working with
              timer := timer, creep := some { w with markerSeen := rep.marker } } } } →
        (∀ m, rep.marker = some m → p.mode = .marker → w.abortDeferred = false →
            usableAt s.hazard (s.lift l).landings m = true → rep.motion ≠ .stopped →
          s.creepReport l rep now = v.orderLanding l m now)
        ∧ (rep.marker = none ∨ p.mode ≠ .marker ∨ w.abortDeferred = true ∨ rep.motion = .stopped
            ∨ (∃ m, rep.marker = some m ∧ usableAt s.hazard (s.lift l).landings m = false) →
          s.creepReport l rep now = v))

/-- A renewal of the CREEP order (R103), and the same with a new ordered landing (R104, R105, R108): the order in the slot
anew, or the step in fail where a STOP-class order is pending. -/
abbrev CreepIsRenewed : Prop :=
  ∀ (s : State) (l : Lift) (now : TimeTag) (r : RescueRecord) (w : CreepWork) (p : Plan) (sr : StepRecord),
    (s.lift l).rescue = some r → r.working.creep = some w → (s.lift l).plan = some p →
    s.stepRecord r.bank r.step = sr →
    ((∃ o ∈ s.slot l, o.kind.isStop = true) → s.renewCreep l now = s.endStep l false now)
    ∧ ((∀ o ∈ s.slot l, o.kind.isStop = false) → s.renewCreep l now =
        s.setSlot l (some { kind := .creep p.direction (s.lift l).entry.rescueSpeed w.orderedLanding s.params.creepHoldTime,
                            poster := .entry r.budget, sends := if sr.count = 0 then 1 else sr.count, tag := none }))
    ∧ ∀ n, s.orderLanding l n now =
        (s.setLift l { s.lift l with rescue := some { r with working := { r.working with
          creep := some { w with orderedLanding := n } } } }).renewCreep l now

/-- A hazard replan of a rescuing lift (R54): it leaves any step but CREEP as it is. For a running CREEP step (R105):
nothing while the target is usable, in MARKER mode or with an abort deferred; else a directed run, and the new target within
the original distance, or the nearest landing ahead, is ordered at once; with no landing ahead the step ends in fail. How a
stop at a nearest landing that is also the new target ends the step is log 44. -/
abbrev CreepIsRetargeted : Prop :=
  (∀ (s : State) (l : Lift) (now : TimeTag) (r : RescueRecord), (s.lift l).rescue = some r → r.working.creep = none →
    s.replanRescuing l now = s)
  ∧ ∀ (s : State) (l : Lift) (now : TimeTag) (r : RescueRecord) (w : CreepWork) (p : Plan),
    (s.lift l).rescue = some r → r.working.creep = some w → (s.lift l).plan = some p →
    ((w.abortDeferred = true ∨ p.mode = .marker
        ∨ ∃ t, p.target = some t ∧ usableAt s.hazard (s.lift l).landings t = true) → s.replanRescuing l now = s)
    ∧ (w.abortDeferred = false → p.mode ≠ .marker → ∀ t, p.target = some t →
        usableAt s.hazard (s.lift l).landings t = false → ∀ q v,
        q = planDirected (planInput s l now) p.mode p.direction → v = s.writePlan l now q →
        (∀ n, q.target = some n → q.distance ≤ r.originalDistance → s.replanRescuing l now = v.orderLanding l n now)
        ∧ (q.target = none ∨ r.originalDistance < q.distance →
            (∀ n, nextLanding (s.lift l).landings p.direction (s.lift l).pos.position = some n →
              s.replanRescuing l now = v.orderLanding l n now)
            ∧ (nextLanding (s.lift l).landings p.direction (s.lift l).pos.position = none →
              s.replanRescuing l now = v.endStep l false now)))

/-! ### The end of a step -/

/-- A step ended done or in fail (R85, R94, R108): its own ordinary order withdrawn, the creep reservation released by the
first CREEP step, its figure kept in the record (log 36), STEP raised for one done with notify, and its chain entered, or
the abort recipe start when an abort was deferred in it. -/
abbrev StepsEndByTheirRules : Prop :=
  ∀ (s : State) (l : Lift) (ok : Bool) (now : TimeTag) (r : RescueRecord) (sr : StepRecord),
    (s.lift l).rescue = some r → s.stepRecord r.bank r.step = sr →
    ∀ mine first deferred : Bool,
    (mine = true ↔ ((∃ k m, sr.action = .order k m) ∨ sr.action = .creep)
      ∧ ∃ o, s.slot l = some o ∧ o.kind.isStop = false ∧ o.poster = .entry r.budget) →
    (first = true ↔ sr.action = .creep ∧ r.creepReleased = false) →
    (deferred = true ↔ ∃ k, r.working.creep = some k ∧ k.abortDeferred = true) →
    ∀ v : State, v =
      { (if mine then s.setSlot l none else s).setLift l
          { s.lift l with rescue := some { r with creepReleased := r.creepReleased || first,
                                                  stack := if deferred then [] else r.stack,
                                                  working := { repeats := 0, timer := none, creep := none } } } with
        outstanding := if first then s.outstanding - r.creepReservation else s.outstanding
        admissionDue := first || s.admissionDue } →
    s.endStep l ok now =
      (if ok = true ∧ sr.notify = true then raised v (l.val + 1) 2 else v).startStep l
        (if deferred then (s.lift l).entry.abortStart else if ok then sr.chainDone else sr.chainFail) now

/-! ### Reports handed on -/

/-- A report handed on (R5, R153): discarded for an EXCLUDED lift or another node's, else offered to the copy filter, whose
copy a free transmitter takes at once (log 5), then stored and acted on by the lift's state, and the evaluation called made. -/
abbrev ReportsAreTaken : Prop :=
  ∀ (s : State) (l : Lift) (source : Nat) (p : List Word) (rep : Report) (now : TimeTag),
    ∀ u c, u = s.takeReport l source p rep now → c = s.lift l →
    (c.state = .excluded ∨ c.entry.ringNode ≠ source → u = s)
    ∧ (c.state ≠ .excluded → c.entry.ringNode = source → ∀ since v,
        since = offMarkerUpdate now c.offMarkerSince rep →
        v = drawVerdict (faultEntry s.faultTable rep.fault) now since s.params.offMarkerDwell rep →
        u = (((((s.offerCopy l p rep).transmit).setLift l
              { c with offMarkerSince := since, lastReport := some ⟨rep, now, v⟩, unanswered := 0,
                       pos := track s.params.maxCounts c.entry c.landings c.pos rep,
                       occupancy := occupancyOf s.params.massPerPerson rep.load,
                       trappedMinutes := trappedAt now c.stallSince c.trappedMinutes }).reportByState l v rep c.occupancy
            now).settle now))

/-- The occupancy of a load (R37). -/
abbrev OccupancyFollowsTheLoad : Prop :=
  ∀ mass : Nat, occupancyOf mass none = none ∧ ∀ kg, occupancyOf mass (some kg) = some (min 31 (kg / mass))

/-- The power unit states of R74. -/
abbrev PowerStatesAreMapped : Prop :=
  PowerState.ofCode 0 = .charging ∧ PowerState.ofCode 1 = .ready ∧ PowerState.ofCode 2 = .discharging
    ∧ ∀ n, 3 ≤ n → PowerState.ofCode n = .fault

/-- A POWER REPORT taken (R74, R76): RESERVOIR LOW at a crossing or after staleness, the view replaced, an evaluation
called. -/
abbrev PowerReportsAreTaken : Prop :=
  ∀ (s : State) (p : List Word) (now : TimeTag) (e : State),
    e = (if w p 0 < s.params.reserveFloor ∧ (s.params.reserveFloor ≤ s.reservoir.level ∨ s.reservoir.stale = true)
         then raised s 0 1 else s) →
    s.takePower p now =
      { e with
        reservoir := { level := w p 0, feedCount := near 1 4 (w p 1 % 8), state := PowerState.ofCode (w p 1 / 256 % 8),
                       reportTime := some now, stale := false }
        admissionDue := true }

/-- The replan of one lift by a changed set of zones (R52 to R54), by its state. -/
abbrev HazardsReplan : Prop :=
  ∀ (s : State) (changed : BitVec 32) (now : TimeTag) (l : Lift),
    ∀ touched : Prop, (touched ↔ ∃ d ∈ (s.lift l).landings, changed.getLsbD d.zone = true) →
    (touched → (s.lift l).state = .stalled → s.hazardReplan changed now l = s.evaluateStalled l now)
    ∧ (touched → (s.lift l).state = .queued → s.hazardReplan changed now l = s.replanQueued l now)
    ∧ (touched → (s.lift l).state = .rescuing → s.hazardReplan changed now l = s.replanRescuing l now)
    ∧ ((¬ touched ∨ ((s.lift l).state ≠ .stalled ∧ (s.lift l).state ≠ .queued ∧ (s.lift l).state ≠ .rescuing)) →
        s.hazardReplan changed now l = s)

/-! ### Station parameters -/

/-- The station parameters by their numbers, and their ranges (R161). -/
abbrev ParametersAreNumbered : Prop :=
  paramRanges = [(1, 15), (1, 15), (10, 600), (50, 120), (0, 31), (0, 255), (0, 255), (0, 255), (0, 65535), (1, 4),
      (0, 15), (1, 60), (1, 20), (0, 2000), (5, 50), (1, 60), (1, 32767), (1, 62), (1, 62)]
  ∧ ∀ p : Params,
    p.values = [p.confirmCount, p.offlineLimit, p.offMarkerDwell, p.massPerPerson, p.unknownOccupancy,
      p.occupancyWeight, p.timeWeight, p.hazardBonus, p.reserveFloor, p.concurrencyLimit, p.bypassGuard,
      p.powerStaleTime, p.replyWindow, p.minCyclePeriod, p.creepHoldTime, p.linkSilenceTime, p.maxCounts, p.powerNode,
      p.hazardNode]
    ∧ ∀ n v, n ≤ 18 → (p.store n v).values = p.values.set n v

/-- What a stored parameter does at once: the reserve floor check (R76), the power stale expiry (R75), the one evaluation
(R87), the wait for the next cycle (R135, log 34); a write is an arrival, so no silence expiry falls at it (R150, R151). -/
abbrev ParametersActAtOnce : Prop :=
  ∀ (s : State) (old new : Nat) (now : TimeTag),
    (∀ n, n ≠ 8 → n ≠ 11 → n ≠ 13 → n ≠ 15 → s.paramStored n old new now = s.evaluateAdmission now)
    ∧ (s.reservoir.stale = false ∧ s.reservoir.level < new ∧ old ≤ s.reservoir.level →
        s.paramStored 8 old new now = (raised s 0 1).evaluateAdmission now)
    ∧ (s.reservoir.stale = true ∨ new ≤ s.reservoir.level ∨ s.reservoir.level < old →
        s.paramStored 8 old new now = s.evaluateAdmission now)
    ∧ (∀ r, s.reservoir.reportTime = some r → s.reservoir.stale = false →
        s.params.powerStaleTime * 1000 ≤ (now - r).toNat →
        s.paramStored 11 old new now =
          (raised { s with reservoir := { s.reservoir with stale := true } } 0 2).evaluateAdmission now)
    ∧ ((s.reservoir.reportTime = none ∨ s.reservoir.stale = true
          ∨ ∃ r, s.reservoir.reportTime = some r ∧ (now - r).toNat < s.params.powerStaleTime * 1000) →
        s.paramStored 11 old new now = s.evaluateAdmission now)
    ∧ (s.link.lastArrival = now → 1 ≤ s.params.linkSilenceTime →
        s.paramStored 15 old new now = s.evaluateAdmission now)
    ∧ ∀ v, v = s.evaluateAdmission now →
      (v.scan.phase ≠ .cycleWait → s.paramStored 13 old new now = v)
      ∧ ∀ began, v.scan.phase = .cycleWait → v.scan.startTime = some began →
        (v.params.minCyclePeriod ≤ (now - began).toNat → s.paramStored 13 old new now = v.startCycle now)
        ∧ ((now - began).toNat < v.params.minCyclePeriod → s.paramStored 13 old new now = v)

/-! ### Descriptors and cycles one after the other -/

/-- A descriptor's work ends (R130): its gap runs on, or the next descriptor is taken, a skipped one leading to the one
after it; after the last, the cycle ends and the next starts at once when its time has come (R135). -/
abbrev DescriptorsFollow : Prop :=
  ∀ (s : State) (i : Nat) (now : TimeTag),
    (∀ start gap, ((now - start).toNat < gap →
          s.endWork start gap now = { s with scan := { s.scan with phase := .gapWait start gap } })
        ∧ (gap ≤ (now - start).toNat → s.scan.current = some i → s.endWork start gap now = s.advance (i + 1) now))
    ∧ (∀ d u, (s.scan.bank s.scan.active).descriptors[i]? = some d →
        (({ s with scan := { s.scan with current := some i } } : State).takeDescriptor d now = (u, false) →
          s.advance i now = u)
        ∧ (({ s with scan := { s.scan with current := some i } } : State).takeDescriptor d now = (u, true) →
          s.advance i now = u.advance (i + 1) now))
    ∧ ∀ began, (s.scan.bank s.scan.active).descriptors[i]? = none → s.scan.startTime = some began →
      (s.params.minCyclePeriod ≤ (now - began).toNat → s.advance i now = (s.endCycle now).startCycle now)
      ∧ ((now - began).toNat < s.params.minCyclePeriod → s.advance i now = s.endCycle now)

/-- A cycle start (R116, R129): the Scan Engine's fields, the probe phases by the counter, the CREEP orders renewed from
lift 1 upward (log 38), the evaluation their ends call, then descriptor 0 (log 6), a skipped one leading to the one after
it (R130). -/
abbrev CyclesBegin : Prop :=
  ∀ (s : State) (now : TimeTag) (base v : State) (seen : Bool)
      (due : LaneRecord → LaneRecord → ProbePhase), (seen = true ↔ ∃ l : Lift, s.inCreep l = true) →
    (∀ this other, due this other =
      if s.scan.cycleCounter.toNat % 16 = 0 ∧ this.status = .degraded ∧ other.status = .good then .due else .idle) →
    base = { s with
      scan := { s.scan with running := true, startTime := some now, current := some 0,
                            creepSeen := seen }
      laneA := { s.laneA with probe := due s.laneA s.laneB }
      laneB := { s.laneB with probe := due s.laneB s.laneA } } →
    v = (allLifts.foldl (fun v l => if v.inCreep l then v.renewCreep l now else v) base).settle now →
    s.openCycle now = v
    ∧ ∀ d u, (v.scan.bank v.scan.active).descriptors[0]? = some d →
      (({ v with scan := { v.scan with current := some 0 } } : State).takeDescriptor d now = (u, false) →
        s.startCycle now = u)
      ∧ ((v.scan.bank v.scan.active).valid = true →
        ({ v with scan := { v.scan with current := some 0 } } : State).takeDescriptor d now = (u, true) →
        s.startCycle now = u.advance 1 now)

/-! ### Targets -/

/-- A plan aims at landing `n` of the list, a usable one, and its distance is the car's way there. -/
abbrev Aims (i : PlanInput) (p : Plan) (n : Nat) (d : Landing) : Prop :=
  p.target = some n ∧ i.landings[n]? = some d ∧ usable i.zones d = true
    ∧ p.distance = (d.height - i.position) + (i.position - d.height)

/-- A plan without a target: infeasible, NO USABLE LANDING (R62, R69). -/
abbrev NoLanding (p : Plan) : Prop := p.target = none ∧ p.feasible = false ∧ p.reason = some .noUsableLanding

/-- Strictly ahead of the car in a direction (R62). -/
abbrev Ahead (dir : Direction) (position height : Nat) : Prop :=
  match dir with
  | .up => position < height
  | .down => height < position

/-- Landing `d` is the nearest of the list that `ok` holds of, the lower of two at one distance. -/
abbrev Nearest (ls : List Landing) (position : Nat) (ok : Landing → Prop) (d : Landing) : Prop :=
  ok d ∧ ∀ d' ∈ ls, ok d' → reach position d < reach position d' ∨ (reach position d = reach position d' ∧ d.height ≤ d'.height)

/-! ### Runs of the planner -/

/-- The plan an old plan is replaced by differs from it in what R70 names: mode, direction, target or feasibility. -/
abbrev Differs (old new : Plan) : Prop :=
  old.mode ≠ new.mode ∨ old.direction ≠ new.direction ∨ old.target ≠ new.target ∨ old.feasible ≠ new.feasible

/-- A run as it changes the lift context (R56, R67, R70): trapped minutes brought up to the present, the plan replaced, one
free value used up (log 12), and PLAN raised when the context held no plan or the new one differs from it. -/
abbrev PlansAreWritten : Prop :=
  ∀ (s : State) (l : Lift) (now : TimeTag) (p : Plan), ∀ c v, c = s.lift l →
    v = { s.setLift l { c with trappedMinutes := trappedAt now c.stallSince c.trappedMinutes, plan := some p } with
          freeIndex := s.freeIndex + 1 } →
    (c.plan = none → s.writePlan l now p = raised v (l.val + 1) 4)
    ∧ (∀ old, c.plan = some old → Differs old p → s.writePlan l now p = raised v (l.val + 1) 4)
    ∧ (∀ old, c.plan = some old → ¬ Differs old p → s.writePlan l now p = v)
    ∧ (p = planFree (planInput s l now) → s.runPlanner l now = s.writePlan l now p)
    ∧ ∀ mode dir, p = planDirected (planInput s l now) mode dir → s.runDirected l now mode dir = s.writePlan l now p

/-! ### Reads -/

/-- The words of a time tag, and of a signed offset (log 40), high word first (R111, R163). -/
def twoWords (v : BitVec 32) : List Word := [wordOf (v.toNat / 65536), wordOf v.toNat]

/-- The indices that name an entry, and the words it reads as (R159, R160). -/
abbrev EntriesAreRead : Prop :=
  ∀ (s : State) (i : Nat) (b : Bool),
    ((s.entryWords .lift i b).isSome ↔ 1 ≤ i ∧ i ≤ 24) ∧ ((s.entryWords .landings i b).isSome ↔ 1 ≤ i ∧ i ≤ 24)
    ∧ ((s.entryWords .faultClass i b).isSome ↔ i ≤ 63) ∧ ((s.entryWords .scan i b).isSome ↔ i ≤ 64)
    ∧ ((s.entryWords .recipe i b).isSome ↔ i ≤ 95) ∧ ((s.entryWords .parameters i b).isSome ↔ i ≤ 18)
    ∧ (∀ l, liftOfNumber i = some l → s.entryWords .lift i b = some (s.lift l).entry.words
        ∧ s.entryWords .landings i b = some (landingWords (s.lift l).landings))
    ∧ (∀ h : i < 64, s.entryWords .faultClass i b = some (s.faultTable.get ⟨i, h⟩).words
        ∧ s.entryWords .scan i b = some ((s.scan.bank (if b then .b else .a)).places.get ⟨i, h⟩).words)
    ∧ s.entryWords .scan 64 b = some [wordOf (s.scan.bank (if b then .b else .a)).length]
    ∧ (∀ h : i < 96, s.entryWords .recipe i b =
        some ((if b then s.recipes.bank1 else s.recipes.bank0).get ⟨i, h⟩).words)
    ∧ ∀ v, s.params.values[i]? = some v → s.entryWords .parameters i b = some [wordOf v]

/-- The words of parts 0 to 4 of a lift context (R163, logs 18, 35 and 40). -/
abbrev ContextsAreRead : Prop :=
  ∀ (s : State) (l : Lift) (t : TimeTag) (c : LiftContext), c = s.lift l →
    s.contextWords l 0 t =
      [ wordOf c.state.code, wordOf ((c.beforeOffline.map (·.code)).getD 15), wordOf (bit c.hold),
        wordOf c.entry.kind.code, wordOf (presenceWord c (s.slot l)), wordOf ((c.manualReason.map (·.code)).getD 0),
        wordOf c.suspectCount, wordOf c.unanswered, wordOf c.trappedMinutes, wordOf c.attempt,
        wordOf (c.occupancy.getD 63), wordOf c.pos.position, wordOf (bit c.pos.anchored + bit c.pos.doubt * 2) ]
    ∧ (∀ rest, rest = [wordOf c.pos.anchorHeight] ++ twoWords (BitVec.ofInt 32 c.pos.offset)
          ++ [wordOf (c.pos.lastCount.getD 0)] →
        (c.lastReport = none → s.contextWords l 1 t = [0, 0, 15, 0, 0, 0, 0] ++ rest)
        ∧ ∀ r, c.lastReport = some r → s.contextWords l 1 t =
            encodeReport r.report ++ twoWords r.arrival
              ++ [wordOf (bit r.verdict.trapping + r.verdict.cls.code * 2 + bit r.verdict.immediate * 8)] ++ rest)
    ∧ (∀ rest, (c.queueData = none → rest = [0, 0, 0]) →
        (∀ q, c.queueData = some q → rest = twoWords q.entryTime ++ [wordOf q.bypass]) →
        (c.plan = none → s.contextWords l 2 t = [0, 0, 15, 0, 0, 0, 0, 0, 0, 0, 0] ++ rest)
        ∧ ∀ p, c.plan = some p → s.contextWords l 2 t =
            [ wordOf p.mode.code, wordOf p.direction.code, wordOf (p.target.getD 15), wordOf p.distance,
              wordOf p.travelTime, wordOf p.creepCost, wordOf p.doorCost, wordOf p.totalCost, wordOf p.merit,
              wordOf (bit p.feasible), wordOf ((p.reason.map (·.code)).getD 0) ] ++ rest)
    ∧ ((c.rescue = none → s.contextWords l 3 t = [0, 0, 0, 0, 0, 0, 0, 0, 0, 0, 0, 0, 0, 0])
        ∧ ∀ r left first second, c.rescue = some r →
          (r.working.timer = none → left = 0) →
          (∀ tm, r.working.timer = some tm →
            tm.ds * 100 - (t - tm.loadedAt).toNat ≤ left * 100
              ∧ left * 100 < tm.ds * 100 - (t - tm.loadedAt).toNat + 100) →
          (r.stack = [] → first = 0 ∧ second = 0) → (∀ i, r.stack = [i] → first = i ∧ second = 0) →
          (∀ i j, r.stack = [j, i] → first = i ∧ second = j) → r.stack.length ≤ 2 →
          s.contextWords l 3 t =
            [ wordOf r.bank.code, wordOf r.step, wordOf r.budget, wordOf r.working.repeats, wordOf left,
              wordOf ((r.working.creep.map (·.reload)).getD 0), wordOf r.stack.length, wordOf first, wordOf second,
              wordOf r.creepReservation, wordOf r.doorReservation, wordOf (bit r.creepReleased),
              wordOf (bit r.abortPending), wordOf r.originalDistance ])
    ∧ ∀ rest, (s.slot l = none → rest = [0, 0, 0, 0]) →
        (∀ o, s.slot l = some o → rest =
          [ wordOf (o.kind.code * 4096 + bit o.kind.isStop),
            wordOf (match o.poster with
              | .entry n => n
              | .part => 0),
            wordOf (bit o.tag.isSome * 32768 + (o.tag.getD 0).toNat), wordOf o.sends ]) →
        s.contextWords l 4 t =
          twoWords (c.offMarkerSince.getD 0) ++ twoWords (c.stallSince.getD 0) ++ rest

end Sys2Proof.Slice0

open Sys2Proof Sys2Proof.Machine Sys2Proof.Slice0

/-! ## The step and the reset pin -/

/-- The block's step: the command at the front of the queue is carried out with the queue's rest; an empty queue idles
(the model's choice, log 1). -/
def Obligations.StepRunsTheFrontCommand : Prop :=
  ∀ s : State, (s.pending = [] → step s = .next s)
    ∧ ∀ c cs, s.pending = c :: cs → step s = exec c { s with pending := cs }

/-- No command stops the block: each answers a next state, and leaves the waiting commands as they are. That POWER_ON_RESET
leaves them too is the model's choice (log 13); the queue is the model's own. -/
def Obligations.EveryCommandAnswersNext : Prop :=
  ∀ (c : Instr) (s : State), ∃ u, exec c s = .next u ∧ u.pending = s.pending

/-- POWER_ON_RESET (R1, R4, R24, R28, R49, R73, R77, R78, R89, R115, R119, R125, R126, R138, R141, R142, R146, R151 to R154,
R158, R161): every block at its power-on values, from any state. That the transmitter is then free is the model's choice
(log 39). -/
def Obligations.PowerOnResetGivesPowerOnValues : Prop :=
  ∀ s : State, ∃ u, exec .powerOnReset s = .next u ∧ u.time = 0
    ∧ (∀ l : Lift, u.lift l = fresh LiftEntry.powerOn [] .excluded)
    ∧ LiftEntry.powerOn =
      { inService := false, ringNode := 0, kind := .vertical, shaftTop := 100, encoderScale := 1000,
        countSense := .upIncreases, balanceLoad := 0, gravityThreshold := 50, brakeHoldPower := 0, assistPower := 0,
        rescueSpeed := 100, doorCycleCost := 0, kindBonus := 0, gravityStart := 0, assistedStart := 0, abortStart := 0,
        maxAttempts := 1 }
    ∧ u.hazard = 0 ∧ u.outstanding = 0 ∧ u.queue = [] ∧ u.prefixHeld = none ∧ u.restart = .idle ∧ u.exchange = none
    ∧ u.reservoir = { level := 0, feedCount := 1, state := .fault, reportTime := none, stale := true }
    ∧ u.laneA = { status := .good, missCount := 0, probe := .idle } ∧ u.laneB = u.laneA
    ∧ (∀ l : Lift, u.slot l = none ∧ u.tagCounter l = 0 ∧ u.lastCopy l = none)
    ∧ u.orders.stopPointer = 0 ∧ u.orders.ordPointer = 0 ∧ u.orders.passQueue = []
    ∧ u.link.mgmtReplies = [] ∧ u.link.cmdReplies = [] ∧ u.link.notices = [] ∧ u.link.copies = []
    ∧ u.link.isolated = false ∧ u.link.lastArrival = 0 ∧ u.link.transmitting = none
    ∧ u.scan.running = false ∧ u.scan.swapPending = false ∧ u.scan.cycleCounter = 0 ∧ u.scan.active = .a
    ∧ u.scan.bankA.length = 0 ∧ u.scan.bankB.length = 0 ∧ u.scan.startTime = none ∧ u.scan.current = none
    ∧ u.scan.creepSeen = false ∧ u.scan.phase = .stopped ∧ u.allStop = []
    ∧ (∀ i : Fin 64, u.scan.bankA.places.get i = u.scan.bankB.places.get i
        ∧ u.scan.bankA.places.get i =
          { kind := .pause, lift := 0, lane := .a, retry := 0, switch := false,
            care := { faultPresent := false, mainsLost := false, doorsJammed := false, safetyOpen := false }, gap := 0 })
    ∧ u.recipes.active = .bank0
    ∧ (∀ i : Fin 96, u.recipes.bank1.get i = u.recipes.bank0.get i
        ∧ u.recipes.bank0.get i =
          { action := .finish .manual, count := 0, timeout := 0, chainDone := 0, chainFail := 0, notify := false })
    ∧ (∀ i : Fin 64, u.faultTable.get i = { cls := .ignore, immediate := false })
    ∧ u.params =
      { confirmCount := 3, offlineLimit := 4, offMarkerDwell := 60, massPerPerson := 75, unknownOccupancy := 2,
        occupancyWeight := 40, timeWeight := 20, hazardBonus := 100, reserveFloor := 500, concurrencyLimit := 2,
        bypassGuard := 3, powerStaleTime := 10, replyWindow := 4, minCyclePeriod := 200, creepHoldTime := 20,
        linkSilenceTime := 15, maxCounts := 4000, powerNode := 62, hazardNode := 61 }

/-! ## Management requests -/

/-- IDENTIFY (R157): DONE with the four identity words, in any state but during RESTART; nothing else of the part
changes beyond the arrival itself and the prefix holder. -/
def Obligations.IdentifyIsAnswered : Prop :=
  ∀ (s : State) (t : TimeTag), s.link.mgmtReplies.length < 4 → s.admissionDue = false →
    exec (.identify t) s =
      .next (answered (taken s t)
        (if s.restart = .idle then reply 0 0x01 [0x21A5, 0x0318, 0x0002, 24] else reply 2 0x01 []))

/-- R150, R165: every management request that finds the management reply FIFO full is discarded without reply and leaves
the prefix holder alone; one taken during a RESTART sequence is answered BUSY and changes nothing else. The kind code
answered to an empty request is a free value (log 10). -/
def Obligations.RequestsTurnedAway : Prop :=
  ∀ (c : Instr) (s : State) (r : Request) (n : Nat) (t : TimeTag), requestOf c = some (r, n, t) → n ≤ 16 →
    s.admissionDue = false →
      (4 ≤ s.link.mgmtReplies.length → exec c s = .next (arrived s t).transmit)
        ∧ (s.link.mgmtReplies.length < 4 → s.restart ≠ .idle →
            ∃ u, exec c s = .next u ∧ SameBut (answered (taken s t) (reply 2 (kindOf s r) [])) u)

/-- R156: a request answered with any status other than DONE and DONE-CLAMPED changes no state of the part. -/
def Obligations.RefusedRequestsChangeNothing : Prop :=
  ∀ (s : State) (r : Request) (held : Option Prefix) (now : TimeTag),
    (s.serve r held now).2.status ≠ .done → (s.serve r held now).2.status ≠ .doneClamped →
      (s.serve r held now).1 = s ∧ (s.serve r held now).2.words = []

/-- PREFIX (R158): its words replace whatever the holder held; without a data word it is INVALID and the holder is then
empty. A request that is neither a PREFIX nor a WRITE ENTRY of the held table and index is taken on its own words alone.
-/
def Obligations.PrefixIsStoredForItsWrite : Prop :=
  (∀ (s : State) (t : TimeTag) (tb : Table) (i : Byte) (ws : List Word), Serves s → ws.length ≤ 15 →
    exec (.storePrefix t tb i ws) s =
      .next (answered { taken s t with prefixHeld := if ws = [] then none else some ⟨tb, i, ws⟩ }
        (reply (if ws = [] then 6 else 0) (0x10 + Table.code tb) [])))
  ∧ ∀ (c : Instr) (s : State) (r : Request) (n : Nat) (t : TimeTag) (p : Prefix), requestOf c = some (r, n, t) →
    n ≤ 16 → s.link.mgmtReplies.length < 4 → s.prefixHeld = some p →
    (∀ ws, r ≠ .write p.table p.index ws) → exec c s = exec c { s with prefixHeld := none }

/-- WRITE_ENTRY_LIFT (R1, R2, R159): lift number, rescue state and content are checked in this order; an accepted write
is answered DONE, or DONE-CLAMPED when a scalar lay outside its range, and stores the entry. -/
def Obligations.LiftWriteIsDecided : Prop :=
  ∀ (s : State) (t : TimeTag) (i : Byte) (ws : List Word), Serves s → ws.length ≤ 15 →
    (liftOfNumber i.toNat = none → exec (.writeEntryLift t i ws) s = .next (answered (taken s t) (reply 3 0x20 [])))
    ∧ ∀ l, liftOfNumber i.toNat = some l →
      (¬ TakesWrites (s.lift l).state →
        exec (.writeEntryLift t i ws) s = .next (answered (taken s t) (reply 5 0x20 [])))
      ∧ (TakesWrites (s.lift l).state → LiftInvalid s l (data s .lift i ws) →
        exec (.writeEntryLift t i ws) s = .next (answered (taken s t) (reply 6 0x20 [])))
      ∧ (TakesWrites (s.lift l).state → ¬ LiftInvalid s l (data s .lift i ws) →
        ∃ u st, exec (.writeEntryLift t i ws) s = .next (answered u (reply st 0x20 []))
          ∧ u = (taken s t).storeLift l (liftWritten (data s .lift i ws))
          ∧ (st = 1 ↔ LiftOutOfRange (data s .lift i ws)) ∧ (st = 0 ∨ st = 1)
          ∧ (u.lift l).entry = liftWritten (data s .lift i ws)
          ∧ ∀ k : Lift, k ≠ l → u.lift k = s.lift k)

/-- An accepted LIFT write: entering and leaving service (R7, R8, R153) with all runtime fields at their power-on
values, STATE raised, the last-copy record removed, and on leaving the order slot emptied and a poll of the lift in flight
abandoned, so that it hands on nothing even if the lift is back before it ends (R131, R137, log 41); an EXCLUDED lift
written out of service changes its entry alone; a lift in service before and after keeps its state, loses what a new ring
node clears, and is unanchored by a new encoder scale, count sense or shaft top (R3). -/
def Obligations.StoredEntriesTakeEffect : Prop :=
  (∀ (s : State) (l : Lift) (e : LiftEntry),
    ((s.lift l).state = .excluded → e.inService = true →
      s.storeLift l e = raised ((s.setLift l (fresh e (s.lift l).landings .normal)).setLastCopy l none) (l.val + 1) 1)
    ∧ ((s.lift l).state = .excluded → e.inService = false → s.storeLift l e = s.setLift l { s.lift l with entry := e })
    ∧ ((s.lift l).state ≠ .excluded → e.inService = false →
      s.storeLift l e =
        (raised (((s.setLift l (fresh e (s.lift l).landings .excluded)).setSlot l none).setLastCopy l none)
          (l.val + 1) 1).abandonPoll l))
  ∧ (∀ (s : State) (l : Lift) (start : TimeTag) (gap : Nat) (d : Descriptor),
    (∀ asked n, s.scan.phase = .working start gap (.poll d asked n) →
      (d.kind = .pollLift → liftOfNumber d.lift = some l →
        s.abandonPoll l = { s with scan := { s.scan with phase := .working start gap .abandoned } })
      ∧ (d.kind ≠ .pollLift ∨ liftOfNumber d.lift ≠ some l → s.abandonPoll l = s))
    ∧ (∀ first, s.scan.phase = .working start gap (.confirm d first) →
      (liftOfNumber d.lift = some l →
        s.abandonPoll l = { s with scan := { s.scan with phase := .working start gap .abandoned } })
      ∧ (liftOfNumber d.lift ≠ some l → s.abandonPoll l = s))
    ∧ ((∀ start gap d asked n first, s.scan.phase ≠ .working start gap (.poll d asked n)
          ∧ s.scan.phase ≠ .working start gap (.confirm d first)) → s.abandonPoll l = s))
  ∧ ∀ (s : State) (l : Lift) (e : LiftEntry), (s.lift l).state ≠ .excluded → e.inService = true →
    ∃ c : LiftContext, (s.storeLift l e).lift l = c ∧ c.entry = e ∧ c.state = (s.lift l).state
      ∧ c.landings = (s.lift l).landings ∧ c.plan = (s.lift l).plan ∧ c.manualReason = (s.lift l).manualReason
      ∧ (e = (s.lift l).entry → s.storeLift l e = s)
      ∧ ((s.lift l).entry.ringNode ≠ e.ringNode →
          c.lastReport = none ∧ c.occupancy = none ∧ c.unanswered = 0 ∧ c.suspectCount = 0 ∧ c.offMarkerSince = none
            ∧ (s.storeLift l e).lastCopy l = none)
      ∧ (((s.lift l).entry.ringNode ≠ e.ringNode ∨ (s.lift l).entry.encoderScale ≠ e.encoderScale
            ∨ (s.lift l).entry.countSense ≠ e.countSense ∨ (s.lift l).entry.shaftTop ≠ e.shaftTop) →
          c.pos.anchored = false ∧ c.pos.lastCount = none ∧ c.pos.doubt = true)
      ∧ (∀ k : Lift, k ≠ l → (s.storeLift l e).lift k = s.lift k)
      ∧ (s.storeLift l e).queue = s.queue ∧ (s.storeLift l e).outstanding = s.outstanding
      ∧ (s.storeLift l e).orders = s.orders ∧ (s.storeLift l e).link.notices = s.link.notices

/-- WRITE_ENTRY_LANDINGS (R2, R39, R40, R3): the checks in order, the whole list replaced, and the unanchoring of a lift
in service whose list changes. That an identical list changes nothing is log 15, and that data without a count word is
INVALID is log 28. -/
def Obligations.LandingsWriteIsDecided : Prop :=
  ∀ (s : State) (t : TimeTag) (i : Byte) (ws : List Word), Serves s → ws.length ≤ 15 →
    (liftOfNumber i.toNat = none → exec (.writeEntryLandings t i ws) s = .next (answered (taken s t) (reply 3 0x21 [])))
    ∧ ∀ l, liftOfNumber i.toNat = some l →
      (¬ TakesWrites (s.lift l).state →
        exec (.writeEntryLandings t i ws) s = .next (answered (taken s t) (reply 5 0x21 [])))
      ∧ (TakesWrites (s.lift l).state → LandingsInvalid (s.lift l).entry.shaftTop (data s .landings i ws) →
        exec (.writeEntryLandings t i ws) s = .next (answered (taken s t) (reply 6 0x21 [])))
      ∧ (TakesWrites (s.lift l).state → ¬ LandingsInvalid (s.lift l).entry.shaftTop (data s .landings i ws) →
        ∀ ls, ls = (List.range (w (data s .landings i ws) 0)).map (landingWritten (data s .landings i ws)) →
          exec (.writeEntryLandings t i ws) s =
            .next (answered
              ((taken s t).setLift l
                (if (s.lift l).state = .excluded ∨ (s.lift l).landings = ls then { s.lift l with landings := ls }
                 else { s.lift l with landings := ls, plan := none,
                                      pos := { (s.lift l).pos with anchored := false, doubt := true } }))
              (reply 0 0x21 [])))

/-- WRITE_ENTRY_FAULT_CLASS (R29, R159): RANGE, then INVALID, else the one entry is replaced and nothing else. -/
def Obligations.FaultClassWriteIsDecided : Prop :=
  ∀ (s : State) (t : TimeTag) (i : Byte) (ws : List Word), Serves s → ws.length ≤ 15 →
    (64 ≤ i.toNat → exec (.writeEntryFaultClass t i ws) s = .next (answered (taken s t) (reply 3 0x22 [])))
    ∧ ∀ h : i.toNat < 64,
      ((data s .faultClass i ws = [] ∨ w (data s .faultClass i ws) 0 % 4 = 3
          ∨ 1 < w (data s .faultClass i ws) 0 / 256 % 4) →
        exec (.writeEntryFaultClass t i ws) s = .next (answered (taken s t) (reply 6 0x22 [])))
      ∧ ∀ e : FaultEntry, data s .faultClass i ws ≠ [] → w (data s .faultClass i ws) 0 % 4 = e.cls.code →
        w (data s .faultClass i ws) 0 / 256 % 4 = (if e.immediate then 1 else 0) →
        exec (.writeEntryFaultClass t i ws) s =
          .next (answered { taken s t with faultTable := s.faultTable.set i.toNat e h } (reply 0 0x22 []))

/-- WRITE_ENTRY_SCAN (R127): RANGE, then BUSY while a swap is pending, then INVALID; an accepted write changes the bank
that is not active and nothing else. -/
def Obligations.ScanWriteIsDecided : Prop :=
  ∀ (s : State) (t : TimeTag) (i : Byte) (ws : List Word), Serves s → ws.length ≤ 15 →
    (64 < i.toNat → exec (.writeEntryScan t i ws) s = .next (answered (taken s t) (reply 3 0x23 [])))
    ∧ (i.toNat ≤ 64 → s.scan.swapPending = true →
        exec (.writeEntryScan t i ws) s = .next (answered (taken s t) (reply 2 0x23 [])))
    ∧ (i.toNat = 64 → s.scan.swapPending = false →
        ((data s .scan i ws = [] ∨ 64 < w (data s .scan i ws) 0) →
          exec (.writeEntryScan t i ws) s = .next (answered (taken s t) (reply 6 0x23 [])))
        ∧ (data s .scan i ws ≠ [] → w (data s .scan i ws) 0 ≤ 64 →
          ∃ u, exec (.writeEntryScan t i ws) s = .next (answered u (reply 0 0x23 []))
            ∧ u = { taken s t with scan := u.scan } ∧ (u.scan.bank u.scan.active.other).length = w (data s .scan i ws) 0
            ∧ (u.scan.bank u.scan.active.other).places = (s.scan.bank s.scan.active.other).places
            ∧ u.scan.bank u.scan.active = s.scan.bank s.scan.active
            ∧ u.scan = { s.scan with bankA := u.scan.bankA, bankB := u.scan.bankB }))
    ∧ (∀ h : i.toNat < 64, s.scan.swapPending = false →
        ((data s .scan i ws).length < 2 ∨ 4 < w (data s .scan i ws) 0 / 8192
            ∨ w (data s .scan i ws) 0 / 2048 % 4 = 3 →
          exec (.writeEntryScan t i ws) s = .next (answered (taken s t) (reply 6 0x23 [])))
        ∧ (2 ≤ (data s .scan i ws).length → w (data s .scan i ws) 0 / 8192 ≤ 4 →
            w (data s .scan i ws) 0 / 2048 % 4 ≠ 3 →
          ∃ u d, exec (.writeEntryScan t i ws) s =
              .next (answered u (reply (if 3 < w (data s .scan i ws) 0 / 256 % 8 then 1 else 0) 0x23 []))
            ∧ u = { taken s t with scan := u.scan }
            ∧ (u.scan.bank u.scan.active.other).places = (s.scan.bank s.scan.active.other).places.set i.toNat d h
            ∧ d.kind.code = w (data s .scan i ws) 0 / 8192 ∧ d.lane.code = w (data s .scan i ws) 0 / 2048 % 4
            ∧ d.retry = near 0 3 (w (data s .scan i ws) 0 / 256 % 8)
            ∧ d.switch = (w (data s .scan i ws) 0 / 128 % 2 == 1) ∧ d.care.code = w (data s .scan i ws) 0 % 16
            ∧ d.lift = w (data s .scan i ws) 1 / 256 ∧ d.gap = w (data s .scan i ws) 1 % 256
            ∧ (u.scan.bank u.scan.active.other).length = (s.scan.bank s.scan.active.other).length
            ∧ u.scan.bank u.scan.active = s.scan.bank s.scan.active
            ∧ u.scan = { s.scan with bankA := u.scan.bankA, bankB := u.scan.bankB }))

/-- WRITE_ENTRY_RECIPE (R90, R159): RANGE, then IN-USE while a rescuing lift runs from the bank that is not active, then
INVALID; an accepted write replaces one record of that bank and nothing else. Then which words are a step record, and
which record they are; that the message is read for every order kind, not ANNOUNCE alone, is log 17. -/
def Obligations.RecipeWriteIsDecided : Prop :=
  (∀ (s : State) (t : TimeTag) (i : Byte) (ws : List Word), Serves s → ws.length ≤ 15 →
    (95 < i.toNat → exec (.writeEntryRecipe t i ws) s = .next (answered (taken s t) (reply 3 0x24 [])))
    ∧ ∀ h : i.toNat < 96,
      ((∃ l : Lift, ∃ r ∈ (s.lift l).rescue, r.bank ≠ s.recipes.active) →
        exec (.writeEntryRecipe t i ws) s = .next (answered (taken s t) (reply 5 0x24 [])))
      ∧ ((∀ l : Lift, ∀ r ∈ (s.lift l).rescue, r.bank = s.recipes.active) →
          (decodeStep (data s .recipe i ws) = none →
            exec (.writeEntryRecipe t i ws) s = .next (answered (taken s t) (reply 6 0x24 [])))
          ∧ ∀ r, decodeStep (data s .recipe i ws) = some r →
            exec (.writeEntryRecipe t i ws) s =
              .next (answered
                { taken s t with recipes :=
                    (match s.recipes.active with
                      | .bank0 => { s.recipes with bank1 := s.recipes.bank1.set i.toNat r h }
                      | .bank1 => { s.recipes with bank0 := s.recipes.bank0.set i.toNat r h }) }
                (reply 0 0x24 []))))
  ∧ ∀ ws : List Word,
    ((decodeStep ws).isSome ↔
      4 ≤ ws.length ∧ w ws 3 / 256 ≤ 95 ∧ w ws 3 % 256 ≤ 95 ∧ w ws 0 / 4096 ≤ 6
        ∧ (w ws 0 / 4096 = 0 → w ws 1 ≤ 2) ∧ (w ws 0 / 4096 = 1 → w ws 1 ≤ 5)
        ∧ (w ws 0 / 4096 = 2 → w ws 1 / 4096 ≤ 6 ∧ w ws 1 / 4096 ≠ 2) ∧ (w ws 0 / 4096 = 5 → w ws 1 ≤ 95))
    ∧ ∀ r, decodeStep ws = some r →
        r.action.code = w ws 0 / 4096 ∧ r.count = w ws 0 / 256 % 16 ∧ r.notify = (w ws 0 % 2 == 1)
          ∧ r.timeout = w ws 2 ∧ r.chainDone = w ws 3 / 256 ∧ r.chainFail = w ws 3 % 256
          ∧ (r.action ≠ .creep → r.action ≠ .pause → r.action ≠ .ret → (∀ k m, r.action ≠ .order k m) →
              r.action.parameter = w ws 1)
          ∧ ∀ k m, r.action = .order k m → k.code = w ws 1 / 4096 ∧ m = w ws 1 % 256

/-- WRITE_ENTRY_PARAMETERS (R161): RANGE, INVALID for no data, the node checks, else the value or its nearer bound is stored,
what it brings about at once follows (R75, R76, R87, R135; at the wait for a cycle log 34), and the write is answered.
With the view stale and no wait for a cycle, nothing else changes. Then the parameters and ranges by number, and the
effects of a stored value. -/
def Obligations.ParameterWriteIsDecided : Prop :=
  (∀ (s : State) (t : TimeTag) (i : Byte) (ws : List Word), Serves s → ws.length ≤ 15 →
    (18 < i.toNat → exec (.writeEntryParameters t i ws) s = .next (answered (taken s t) (reply 3 0x25 [])))
    ∧ (i.toNat ≤ 18 → data s .parameters i ws = [] →
        exec (.writeEntryParameters t i ws) s = .next (answered (taken s t) (reply 6 0x25 [])))
    ∧ ∀ v rest, data s .parameters i ws = v :: rest →
      (17 ≤ i.toNat → i.toNat ≤ 18 →
        (v = 0 ∨ 63 ≤ v.toNat →
          exec (.writeEntryParameters t i ws) s = .next (answered (taken s t) (reply 3 0x25 [])))
        ∧ (v ≠ 0 → v.toNat ≤ 62 →
            (v.toNat = (if i.toNat = 17 then s.params.hazardNode else s.params.powerNode)
                ∨ ∃ l : Lift, (s.lift l).entry.ringNode = v.toNat) →
          exec (.writeEntryParameters t i ws) s = .next (answered (taken s t) (reply 6 0x25 []))))
      ∧ ∀ lo hi, paramRanges[i.toNat]? = some (lo, hi) →
        (i.toNat < 17 ∨ (v ≠ 0 ∧ v.toNat ≤ 62 ∧ (∀ l : Lift, (s.lift l).entry.ringNode ≠ v.toNat)
            ∧ v.toNat ≠ (if i.toNat = 17 then s.params.hazardNode else s.params.powerNode))) →
        ∀ x st, x = near lo hi v.toNat → st = (if x = v.toNat then 0 else 1) →
        (exec (.writeEntryParameters t i ws) s =
          .next (((({ taken s t with params := s.params.store i.toNat x } : State).paramStored i.toNat
            (s.params.values.getD i.toNat 0) x t).reply st 0x25 []).finish t))
        ∧ (s.reservoir.stale = true → s.scan.phase ≠ .cycleWait →
          exec (.writeEntryParameters t i ws) s =
            .next (answered { taken s t with params := s.params.store i.toNat x } (reply st 0x25 []))))
  ∧ ParametersAreNumbered ∧ ParametersActAtOnce

/-- READ_ENTRY and READ_CONTEXT (R160, R163): answered from the state as it stands, with at most 15 words, and no state
changes; a short request is INVALID, an index outside the table RANGE, a part above 4 INVALID, a lift number outside
1..24 RANGE. The order of INVALID before RANGE is the model's choice (log 16). The words of each entry and of each part
of a context follow; what an absent marker or target reads as, the order of the return stack's entries and of the words
of the offset are the model's choices (logs 18, 35, 40). -/
def Obligations.ReadsChangeNothing : Prop :=
  (∀ (s : State) (t : TimeTag) (i : Byte) (tb : Table) (later : List Word), Serves s → later.length ≤ 15 →
    (later = [] → exec (.readEntry t tb i later) s = .next (answered (taken s t) (reply 6 (0x30 + Table.code tb) []))
      ∧ exec (.readContext t i later) s = .next (answered (taken s t) (reply 6 0x50 [])))
    ∧ ∀ v rest, later = v :: rest →
      ((∀ ws, s.entryWords tb i.toNat (v.toNat / 2 % 2 == 1) = some ws →
          exec (.readEntry t tb i later) s =
            .next (answered (taken s t)
              (reply 0 (0x30 + Table.code tb) (if v.toNat % 2 = 0 then ws.take 15 else (ws.drop 15).take 15))))
        ∧ (s.entryWords tb i.toNat (v.toNat / 2 % 2 == 1) = none →
          exec (.readEntry t tb i later) s = .next (answered (taken s t) (reply 3 (0x30 + Table.code tb) [])))
        ∧ (4 < v.toNat → exec (.readContext t i later) s = .next (answered (taken s t) (reply 6 0x50 [])))
        ∧ (v.toNat ≤ 4 → liftOfNumber i.toNat = none →
          exec (.readContext t i later) s = .next (answered (taken s t) (reply 3 0x50 [])))
        ∧ ∀ l, v.toNat ≤ 4 → liftOfNumber i.toNat = some l →
          (s.contextWords l v.toNat t).length ≤ 15
            ∧ exec (.readContext t i later) s =
              .next (answered (taken s t) (reply 0 0x50 (s.contextWords l v.toNat t)))))
  ∧ EntriesAreRead ∧ ContextsAreRead

/-- What the entries of the tables read as is what writes them (R159): the words of a scan descriptor, a step record, a
Fault Class Table entry, a Lift Table entry and a Landing List decode to the entry they were read from. That a step record
of any order kind keeps its message is log 17. -/
def Obligations.EntryWordsDecodeToTheEntry : Prop :=
  (∀ d : Descriptor, d.lift ≤ 255 → d.gap ≤ 255 → d.retry ≤ 3 → decodeDescriptor d.words = some d)
    ∧ (∀ r : StepRecord, r.count ≤ 15 → r.timeout ≤ 65535 → r.chainDone ≤ 95 → r.chainFail ≤ 95 →
        (∀ k m, r.action = .order k m → m ≤ 255) → (∀ n, r.action = .call n → n ≤ 95) → decodeStep r.words = some r)
    ∧ (∀ e : FaultEntry, decodeFaultEntry e.words = some e)
    ∧ (∀ ws : List Word, decodeLiftEntry ws = some (liftWritten ws) → decodeLiftEntry (liftWritten ws).words
        = some (liftWritten ws))
    ∧ (∀ (top : Nat) (ws : List Word) (ls : List Landing), decodeLandingList top ws = some ls →
        decodeLandingList top (landingWords ls) = some ls)

/-- SWAP_SCAN, SWAP_RECIPE, SWAP_BOTH (R91, R128, R162) in every state of the Scan Engine, and the scan banks that are
valid. With the Scan Engine not running the swap raises BANK SWAPPED, a cycle starts (R129), and the answer is DONE. -/
def Obligations.SwapsTakeEffect : Prop :=
  (∀ (s : State) (t : TimeTag), Serves s →
    (exec (.swapRecipe t) s =
      .next (answered (raised { taken s t with recipes := { s.recipes with active := s.recipes.active.other } } 0 0x40)
        (reply 0 0x40 [])))
    ∧ (s.scan.swapPending = true → exec (.swapScan t) s = .next (answered (taken s t) (reply 2 0x40 []))
        ∧ exec (.swapBoth t) s = .next (answered (taken s t) (reply 2 0x40 [])))
    ∧ (s.scan.swapPending = false → (s.scan.bank s.scan.active.other).valid = false →
        exec (.swapScan t) s = .next (answered (taken s t) (reply 6 0x40 []))
        ∧ exec (.swapBoth t) s = .next (answered (taken s t) (reply 6 0x40 [])))
    ∧ (s.scan.swapPending = false → (s.scan.bank s.scan.active.other).valid = true → s.scan.running = true →
        s.scan.phase ≠ .cycleWait →
        exec (.swapScan t) s =
          .next (answered { taken s t with scan := { s.scan with swapPending := true } } (reply 0 0x40 []))
        ∧ exec (.swapBoth t) s =
          .next (answered
            (raised { taken s t with recipes := { s.recipes with active := s.recipes.active.other },
                                     scan := { s.scan with swapPending := true } } 0 0x40) (reply 0 0x40 [])))
    ∧ (s.scan.swapPending = false → (s.scan.bank s.scan.active.other).valid = true → s.scan.running = true →
        s.scan.phase = .cycleWait →
        exec (.swapScan t) s =
          .next (answered
            (raised { taken s t with scan := { s.scan with active := s.scan.active.other } } 0 0x40)
            (reply 0 0x40 []))
        ∧ ∃ u, exec (.swapBoth t) s = .next (answered u (reply 0 0x40 []))
          ∧ u = { taken s t with recipes := { s.recipes with active := s.recipes.active.other },
                                 scan := { s.scan with active := s.scan.active.other },
                                 link := { (taken s t).link with notices := u.link.notices } }
          ∧ u.link.notices = (raised s 0 0x40).link.notices)
    ∧ (s.scan.swapPending = false → (s.scan.bank s.scan.active.other).valid = true → s.scan.running = false →
        exec (.swapScan t) s =
          .next ((((raised { taken s t with scan := { s.scan with active := s.scan.active.other } } 0 0x40).startCycle
            t).reply 0 0x40 []).finish t)
        ∧ exec (.swapBoth t) s =
          .next ((((raised { taken s t with recipes := { s.recipes with active := s.recipes.active.other },
                                            scan := { s.scan with active := s.scan.active.other } } 0 0x40).startCycle
            t).reply 0 0x40 []).finish t)
        ∧ (∃ u, exec (.swapScan t) s = .next u ∧ u.scan.active = s.scan.active.other ∧ u.scan.running = true
          ∧ u.scan.startTime = some t ∧ u.recipes = s.recipes)
        ∧ ∃ u, exec (.swapBoth t) s = .next u ∧ u.scan.active = s.scan.active.other ∧ u.scan.running = true
          ∧ u.scan.startTime = some t ∧ u.recipes = { s.recipes with active := s.recipes.active.other }))
  ∧ ∀ b : ScanBank, b.valid = true ↔
    (1 ≤ b.length ∧ b.length ≤ 64) ∧ (∃ i : Fin 64, i.val < b.length ∧ (b.places.get i).kind = .orderSlot)
      ∧ (∃ i : Fin 64, i.val < b.length ∧ (b.places.get i).kind = .pollPower)
      ∧ ∀ i : Fin 64, i.val < b.length → (b.places.get i).kind = .pollLift →
          1 ≤ (b.places.get i).lift ∧ (b.places.get i).lift ≤ 24

/-- LIFT CONTROL (R21): the checks in order for the five actions, the refusals of the acceptance table, and INVALID for
an action word that names none or is missing (the missing one before RANGE is the model's choice, log 16). -/
def Obligations.LiftControlIsDecided : Prop :=
  ∀ (s : State) (t : TimeTag) (i : Byte) (a : Action), Serves s → ∀ c : Instr,
    (c = match a with
      | .hold => .hold t i
      | .release => .release t i
      | .abort => .abort t i
      | .forceManual => .forceManual t i
      | .clear => .clear t i) →
    (liftOfNumber i.toNat = none → exec c s = .next (answered (taken s t) (reply 3 0x60 [])))
    ∧ (∀ l, liftOfNumber i.toNat = some l →
        ((s.lift l).state = .excluded ∨ (a = .hold ∧ (s.lift l).state = .rescuing)
            ∨ (a = .forceManual ∧ (s.lift l).state = .rescuing) ∨ (a = .abort ∧ (s.lift l).state ≠ .rescuing)
            ∨ (a = .clear ∧ (s.lift l).state ≠ .released ∧ (s.lift l).state ≠ .manual)) →
        exec c s = .next (answered (taken s t) (reply 4 0x60 [])))
    ∧ (∀ v rest, rest.length ≤ 14 → v = 0 ∨ 5 < v.toNat →
        exec (.liftControlInvalidAction t i (v :: rest)) s =
          .next (answered (taken s t) (reply (if (liftOfNumber i.toNat).isSome then 6 else 3) 0x60 [])))
    ∧ exec (.liftControlInvalidAction t i []) s = .next (answered (taken s t) (reply 6 0x60 []))

/-- HOLD, RELEASE, FORCE_MANUAL and CLEAR (R12, R18, R22, R23) where they act on the lift's context alone: outside
QUEUED, and for RELEASE outside STALLED. Everything else of the part is unchanged. -/
def Obligations.ControlsActOnTheLift : Prop :=
  ∀ (s : State) (t : TimeTag) (i : Byte) (l : Lift), Serves s → liftOfNumber i.toNat = some l →
    (s.lift l).state ≠ .excluded → (s.lift l).state ≠ .queued →
    ((s.lift l).state ≠ .rescuing →
      exec (.hold t i) s =
        .next (answered ((taken s t).setLift l { s.lift l with hold := true }) (reply 0 0x60 [])))
    ∧ ((s.lift l).state ≠ .stalled →
      exec (.release t i) s =
        .next (answered ((taken s t).setLift l { s.lift l with hold := false }) (reply 0 0x60 [])))
    ∧ ((s.lift l).state ≠ .rescuing → (s.lift l).state ≠ .manual →
      exec (.forceManual t i) s =
        .next (answered
          (raised ((taken s t).setLift l
            { s.lift l with state := .manual, manualReason := some .operator, queueData := none, rescue := none,
                            beforeOffline := none }) (l.val + 1) 1) (reply 0 0x60 [])))
    ∧ ((s.lift l).state = .manual →
      exec (.forceManual t i) s =
        .next (answered
          ((taken s t).setLift l
            { s.lift l with manualReason := some .operator, queueData := none, rescue := none, beforeOffline := none })
          (reply 0 0x60 [])))
    ∧ ((s.lift l).state = .manual ∨ (s.lift l).state = .released →
      exec (.clear t i) s =
        .next (answered (raised ((taken s t).setLift l (cleared (s.lift l))) (l.val + 1) 1) (reply 0 0x60 [])))

/-- HOLD and FORCE MANUAL of a QUEUED lift, and RELEASE of a STALLED one (R22, R23), answered DONE: the lift leaves
the queue with its queue data, a held one never waits in QUEUED; a released one is evaluated (R11): without a trapping
verdict it recovers, with NO-AUTO it goes to staff, and otherwise it is planned and is QUEUED or, with an infeasible
plan, MANUAL. That each calls one evaluation, made after it, is held in the model's own field (log 11). -/
def Obligations.ControlsOfWaitingLifts : Prop :=
  (∀ (s : State) (t : TimeTag) (i : Byte) (l : Lift), Serves s → liftOfNumber i.toNat = some l →
    ((s.lift l).state = .queued →
      exec (.hold t i) s = .next ((((taken s t).holdLift l t).reply 0 0x60 []).finish t)
      ∧ exec (.forceManual t i) s = .next ((((taken s t).act l .forceManual t).reply 0 0x60 []).finish t))
    ∧ ((s.lift l).state = .stalled →
      exec (.release t i) s = .next ((((taken s t).releaseLift l t).reply 0 0x60 []).finish t)))
  ∧ (∀ (s : State) (l : Lift) (now : TimeTag), s.Coherent →
    ((s.lift l).state = .queued →
      (∃ u, u = s.holdLift l now ∧ l ∉ u.queue ∧ (u.lift l).hold = true ∧ (u.lift l).queueData = none
        ∧ (u.lift l).state ≠ .queued ∧ u.admissionDue = true ∧ (∀ k : Lift, k ≠ l → u.lift k = s.lift k)
        ∧ (∀ r ∈ (s.lift l).lastReport, r.verdict.trapping = true → r.verdict.cls ≠ .stallNoAuto →
            (u.lift l).state = .stalled ∧ (u.lift l).plan.isSome))
      ∧ ∃ u, u = s.act l .forceManual now ∧ l ∉ u.queue ∧ (u.lift l).state = .manual
        ∧ (u.lift l).manualReason = some .operator ∧ (u.lift l).queueData = none ∧ (u.lift l).plan = (s.lift l).plan
        ∧ u.admissionDue = true ∧ ∀ k : Lift, k ≠ l → u.lift k = s.lift k)
    ∧ ((s.lift l).state = .stalled →
      ∃ u, u = s.releaseLift l now ∧ (u.lift l).hold = false ∧ (u.lift l).state ≠ .stalled
        ∧ (∀ k : Lift, k ≠ l → u.lift k = s.lift k)
        ∧ ((u.lift l).state = .queued → l ∈ u.queue ∧ (u.lift l).planFeasible = true ∧ u.admissionDue = true
            ∧ (u.lift l).queueData = some { entryTime := now, bypass := 0 })
        ∧ u = (s.setLift l { s.lift l with hold := false }).evaluateStalled l now
        ∧ ∀ r p, (s.lift l).lastReport = some r → p = planFree (planInput s l now) →
          (r.verdict.trapping = false → (u.lift l).state = .normal)
          ∧ (r.verdict.trapping = true → r.verdict.cls = .stallNoAuto →
              (u.lift l).state = .manual ∧ (u.lift l).manualReason = some .noAutoFault)
          ∧ (r.verdict.trapping = true → r.verdict.cls ≠ .stallNoAuto → (u.lift l).plan = some p
              ∧ (p.feasible = true → (u.lift l).state = .queued)
              ∧ (p.feasible = false → (u.lift l).state = .manual))))
  ∧ StalledIsEvaluated

/-- ABORT taken at once (R107, R108): outside a CREEP step, with the car stopped, or with no landing ahead of a moving
creep, the abort-pending flag is set, the creep reservation is released when the running step is the first CREEP, the
part's STOP AND HOLD takes the slot, the return stack is emptied and the abort recipe start is entered. That the
record keeps the figure of the released reservation is log 36, and that a lift without a last report counts as stopped
is log 31. -/
def Obligations.AbortIsTakenAtOnce : Prop :=
  ∀ (s : State) (t : TimeTag) (i : Byte) (l : Lift) (r : RescueRecord), Serves s → liftOfNumber i.toNat = some l →
    (s.lift l).state = .rescuing → (s.lift l).rescue = some r → r.abortPending = false →
    (s.inCreep l = false ∨ (s.lift l).moving = false
      ∨ nextLanding (s.lift l).landings (s.lift l).creepDirection (s.lift l).pos.position = none) →
    exec (.abort t i) s =
      .next ((((abortTaken (taken s t) l r).startStep l (s.lift l).entry.abortStart t).reply 0 0x60 []).finish t)

/-- ABORT deferred and ABORT repeated (R107, R108): in a moving CREEP step with a landing ahead the flags are set and a
renewal toward the nearest landing ahead is posted; where a STOP-class order is pending, which turns the renewal away, the
step ends in fail with the abort deferred in it (R103). An ABORT while one is pending changes nothing. -/
def Obligations.AbortIsDeferredOrRepeated : Prop :=
  ∀ (s : State) (t : TimeTag) (i : Byte) (l : Lift) (r : RescueRecord) (sr : StepRecord), Serves s →
    liftOfNumber i.toNat = some l → (s.lift l).state = .rescuing → (s.lift l).rescue = some r →
    s.runningStep l = some sr →
    (r.abortPending = true → exec (.abort t i) s = .next (answered (taken s t) (reply 0 0x60 [])))
    ∧ ∀ (k : CreepWork) (n : Nat), r.abortPending = false → sr.action = .creep → (s.lift l).moving = true →
      r.working.creep = some k →
      nextLanding (s.lift l).landings (s.lift l).creepDirection (s.lift l).pos.position = some n →
      ∀ v, v = (taken s t).setLift l { s.lift l with rescue := some (deferred r k n) } →
      ((∀ o ∈ s.slot l, o.kind.isStop = false) →
        exec (.abort t i) s =
          .next (answered
            (v.setSlot l
              (some { kind := .creep (s.lift l).creepDirection (s.lift l).entry.rescueSpeed n s.params.creepHoldTime,
                      poster := .entry r.budget, sends := if sr.count = 0 then 1 else sr.count, tag := none }))
            (reply 0 0x60 [])))
      ∧ ((∃ o ∈ s.slot l, o.kind.isStop = true) →
        exec (.abort t i) s = .next (((v.endStep l false t).reply 0 0x60 []).finish t))

/-- EXTEND_STEP (R106): a request without a value word is INVALID, before any other check (log 16); else it is
accepted only in RESCUING with a running CREEP step, and writes the reload value and nothing else. Then the CREEP
step: its entry (R85, R102; that the record of an ended step keeps the figure of the released reservation is log 36),
the reports it takes (R104), the renewal of its order (R103), and its new target after a hazard replan, which any
other step leaves as it is (R54, R105). That a stop at a plan's target ordered beyond the original distance ends the
step done, by test 1 of R104, is log 44. -/
def Obligations.ExtendStepWritesTheReload : Prop :=
  (∀ (s : State) (t : TimeTag) (i : Byte), Serves s →
    exec (.extendStep t i []) s = .next (answered (taken s t) (reply 6 0x70 [])))
  ∧ (∀ (s : State) (t : TimeTag) (i : Byte) (v : Word) (rest : List Word), Serves s → rest.length ≤ 14 →
    (liftOfNumber i.toNat = none → exec (.extendStep t i (v :: rest)) s = .next (answered (taken s t) (reply 3 0x70 [])))
    ∧ ∀ l, liftOfNumber i.toNat = some l →
      ((s.lift l).state ≠ .rescuing ∨ s.inCreep l = false →
        exec (.extendStep t i (v :: rest)) s = .next (answered (taken s t) (reply 4 0x70 [])))
      ∧ ∀ r k, (s.lift l).state = .rescuing → s.inCreep l = true → (s.lift l).rescue = some r →
        r.working.creep = some k →
        exec (.extendStep t i (v :: rest)) s =
          .next (answered
            ((taken s t).setLift l
              { s.lift l with rescue := some (reloaded r k (if v = 0 then 1 else v.toNat)) })
            (reply (if v = 0 then 1 else 0) 0x70 [])))
  ∧ CreepIsEntered ∧ CreepReportsAreTested ∧ CreepReportsAct ∧ CreepIsRenewed ∧ CreepIsRetargeted

/-- RESTART (R136, R164): answered DONE; the Scan Engine takes no further descriptor, and ALL STOP (R120) goes out on lane A
and then on lane B, at once when no exchange is in flight. Otherwise it goes out when the exchange has ended, with a valid
reply or without: the lane it was made on is brought up to date, and its outcome is discarded. -/
def Obligations.RestartStopsTheScan : Prop :=
  (∀ (s : State) (t : TimeTag), Serves s →
    exec (.restart t) s =
      .next (answered { taken s t with scan := { s.scan with phase := .stopped },
                                       restart := if s.exchange.isSome then .quieting else .allStop,
                                       allStop := if s.exchange.isSome then s.allStop else allStopSends }
        (reply 0 0xF0 [])))
  ∧ ∀ (s : State) (t : TimeTag) (x : Exchange), s.Settled → s.restart = .quieting → s.exchange = some x →
    ∀ ended : Bool → State,
      (∀ ok, ended ok = { (s.atTime t).closeExchange x ok with restart := .allStop, allStop := allStopSends }) →
    (∀ k r, Meets x k r t → exec (replyOf k t r) s = .next (ended true).transmit)
    ∧ ∀ sent window, x.waiting = some (sent, window) → window ≤ (t - sent).toNat →
      exec (.replyWindowClose t) s = .next (ended false).transmit

/-- ALL_STOP_SEND_END (R24, R49, R73, R77, R78, R115, R126, R138, R141, R142, R146, R152, R153, R158, R164): the runtime
state at its RESTART values, the tables kept, the cycle restarted with counter 0 or not by the active bank's validity. The
management replies stand, and RESTARTED waits alone in the notice list, or is the frame a free transmitter takes when no
reply waits. That ISOLATED and the frame being sent are kept is log 29. Without an ALL STOP going out, only the time moves
(the model's choice, log 2). -/
def Obligations.RestartClearsTheRuntimeState : Prop :=
  ∀ (s : State) (t : TimeTag),
    (s.restart = .allStop → ∃ u, exec (.allStopSendEnd t) s = .next u
      ∧ u.restart = .idle ∧ SameTables { s with prefixHeld := none } u ∧ u.time = t ∧ u.hazard = 0
      ∧ u.reservoir = { level := 0, feedCount := 1, state := .fault, reportTime := none, stale := true }
      ∧ u.outstanding = 0 ∧ u.queue = [] ∧ u.link.cmdReplies = [] ∧ u.link.copies = [] ∧ u.orders.passQueue = []
      ∧ (∀ e ∈ u.link.notices, e = ⟨0, 128⟩) ∧ u.allStop = []
      ∧ (∀ l : Lift, u.lift l = fresh (s.lift l).entry (s.lift l).landings
            (if (s.lift l).entry.inService then .normal else .excluded)
          ∧ u.slot l = none ∧ u.tagCounter l = 0 ∧ u.lastCopy l = none)
      ∧ u.laneA = { status := .good, missCount := 0, probe := .idle } ∧ u.laneB = u.laneA
      ∧ u.orders.stopPointer = 0 ∧ u.orders.ordPointer = 0
      ∧ u.link.lastArrival = s.link.lastArrival ∧ u.link.isolated = s.link.isolated
      ∧ u.scan.swapPending = false ∧ u.scan.creepSeen = false ∧ u.scan.active = s.scan.active
      ∧ u.scan.cycleCounter = 0
      ∧ ((s.scan.bank s.scan.active).valid = true → u.scan.running = true ∧ u.scan.startTime = some t)
      ∧ ((s.scan.bank s.scan.active).valid = false →
          u.scan.running = false ∧ u.scan.startTime = none ∧ u.scan.current = none ∧ u.exchange = none)
      ∧ (∀ f, s.link.transmitting = some f →
          u.link.transmitting = some f ∧ u.link.mgmtReplies = s.link.mgmtReplies ∧ u.link.notices = [⟨0, 128⟩])
      ∧ (∀ f fs, s.link.transmitting = none → s.link.mgmtReplies = f :: fs →
          u.link.transmitting = some f.words ∧ u.link.mgmtReplies = fs ∧ u.link.notices = [⟨0, 128⟩])
      ∧ (s.link.transmitting = none → s.link.mgmtReplies = [] →
          u.link.mgmtReplies = []
            ∧ (s.link.isolated = true → u.link.transmitting = none ∧ u.link.notices = [⟨0, 128⟩])
            ∧ (s.link.isolated = false → u.link.notices = [] ∧ u.link.transmitting = some (Frame.words
                { kind := 12, dest := 0, source := 0, tag := 0,
                  payload := [15, 128, 0, 0, 0, 0, BitVec.ofNat 16 (t.toNat / 65536), BitVec.ofNat 16 t.toNat] }))))
    ∧ (s.restart ≠ .allStop → s.Settled → s.LinkServed →
        exec (.allStopSendEnd t) s = .next { s with time := t })

/-- UNKNOWN_REQUEST and SWAP_INVALID_SELECTOR (R156): UNKNOWN for a kind or table code the table does not give, INVALID
for a selector that names no bank; nothing but the prefix holder changes. -/
def Obligations.UnknownRequestsAreRefused : Prop :=
  ∀ (s : State) (t : TimeTag), Serves s →
    (∀ v rest, rest.length ≤ 15 → knownKind (v.toNat / 256) = false →
      exec (.unknownRequest t (v :: rest)) s = .next (answered (taken s t) (reply 7 (v.toNat / 256) [])))
    ∧ (∀ sel : Byte, sel ≠ 1 → sel ≠ 2 → sel ≠ 3 →
      exec (.swapInvalidSelector t sel) s = .next (answered (taken s t) (reply 6 0x40 [])))

/-! ## The station link -/

/-- MANAGEMENT_REQUEST_DISCARD and LINK_FRAME_DISCARD (R149, R150): a request to another node, or to node 0 with the
FIFO full, only restarts the silence timer, and so does a valid frame of a kind that is not routed; words that make no
valid frame have no effect at all. Which words such a row may carry is the model's choice (log 4). -/
def Obligations.DiscardedLinkFrames : Prop :=
  ∀ (s : State) (t : TimeTag), s.Settled →
    (∀ (d : BitVec 6) (p : List Word), p.length ≤ 16 → d ≠ 0 ∨ 4 ≤ s.link.mgmtReplies.length →
      exec (.managementRequestDiscard t d p) s = .next (arrived s t).transmit)
    ∧ (∀ ws whole, Frame.ofWords ws whole = none → exec (.linkFrameDiscard t ws whole) s = .next { s with time := t })
    ∧ (∀ ws whole f, Frame.ofWords ws whole = some f → f.kind ≠ 10 → f.kind ≠ 8 →
      exec (.linkFrameDiscard t ws whole) s = .next (arrived s t).transmit)

/-- REMOTE_COMMAND (R146, R148, R152): the gate in its order. A reply made by the part joins the command reply FIFO,
or is dropped when that holds 4. Then the head of the pass-through queue judged again by an ORDER SLOT that finds no
order (R142, R147). That all replies of one event meet the FIFO before a free transmitter takes the first is log 43. -/
def Obligations.RemoteCommandsPassTheGate : Prop :=
  (∀ (s : State) (t : TimeTag) (d : BitVec 6) (p : List Word), s.Settled → p.length ≤ 16 →
    ∀ made : Nat → State, (made = fun st =>
      if s.link.cmdReplies.length < 4 then
        { arrived s t with link := { (arrived s t).link with
            cmdReplies := s.link.cmdReplies ++ [{ kind := 9, dest := d, source := 0, tag := 0,
                                                  payload := [BitVec.ofNat 16 st] }] } }
      else arrived s t) →
    (d = 0 ∨ d = 63 → exec (.remoteCommand t d p) s = .next (made 3).transmit)
    ∧ (d ≠ 0 → d ≠ 63 →
      ((∃ l : Lift, (s.lift l).entry.ringNode = d.toNat
          ∧ ((s.lift l).state = .queued ∨ (s.lift l).state = .rescuing)) →
        exec (.remoteCommand t d p) s = .next (made 1).transmit)
      ∧ ((∀ l : Lift, (s.lift l).entry.ringNode = d.toNat →
            (s.lift l).state ≠ .queued ∧ (s.lift l).state ≠ .rescuing) →
          (4 ≤ s.orders.passQueue.length → exec (.remoteCommand t d p) s = .next (made 2).transmit)
          ∧ (s.orders.passQueue.length < 4 →
            exec (.remoteCommand t d p) s =
              .next ({ arrived s t with orders := { s.orders with passQueue := s.orders.passQueue ++ [⟨d, p⟩] } }
                : State).transmit))))
  ∧ SlotsWithoutOrdersPassCommands

/-- TRANSMIT_END and the arbitration (R152): the four sources in their order, the notices passed over while ISOLATED,
the chosen frame out of its source. Before that, the notice pending list (R154): a reason joins the entry that stands
for its number, which keeps its place, or starts a new entry at the tail. Then the content of a RESCUE NOTICE, built as
its transmission begins (R155). -/
def Obligations.TransmitEndChoosesTheNextFrame : Prop :=
  (∀ (n : Nat) (m : Word) (es : List NoticeEntry),
    ((∀ e ∈ es, e.number ≠ n) → raiseIn n m es = es ++ [⟨n, m⟩])
    ∧ (∀ as e bs, es = as ++ e :: bs → e.number = n → (∀ a ∈ as, a.number ≠ n) →
        raiseIn n m es = as ++ { e with reasons := e.reasons ||| m } :: bs)
    ∧ ((es.map (·.number)).Nodup → ((raiseIn n m es).map (·.number)).Nodup))
  ∧ (∀ (s : State) (t : TimeTag), s.Settled →
    exec (.transmitEnd t) s = .next
      (match s.link.mgmtReplies, s.link.cmdReplies, (if s.link.isolated then [] else s.link.notices), s.link.copies with
        | f :: fs, _, _, _ => { s with time := t, link := { s.link with transmitting := some f.words, mgmtReplies := fs } }
        | [], f :: fs, _, _ => { s with time := t, link := { s.link with transmitting := some f.words, cmdReplies := fs } }
        | [], [], e :: es, _ =>
          { s with time := t, link := { s.link with transmitting := some (({ s with time := t } : State).buildNotice e).words,
                                                    notices := es } }
        | [], [], [], f :: fs =>
          { s with time := t, link := { s.link with transmitting := some f.words, copies := fs } }
        | [], [], [], [] => { s with time := t, link := { s.link with transmitting := none } }))
  ∧ NoticesAreBuilt

/-- SILENCE_EXPIRY (R151): reached, it sets ISOLATED, empties the copy FIFO and removes every last-copy record; before
that it has no effect (the model's choice, log 2). -/
def Obligations.SilenceExpiryIsolates : Prop :=
  ∀ (s : State) (t : TimeTag), s.Settled → s.LinkServed →
    (s.link.isolated = false → s.params.linkSilenceTime * 1000 ≤ (t - s.link.lastArrival).toNat →
      exec (.silenceExpiry t) s =
        .next { s with time := t, link := { s.link with isolated := true, copies := [],
                                                        lastCopy := Vector.replicate 24 none } })
    ∧ (s.link.isolated = true ∨ (t - s.link.lastArrival).toNat < s.params.linkSilenceTime * 1000 →
      exec (.silenceExpiry t) s = .next { s with time := t })

/-! ## The supervisory ring -/

/-- EXCHANGE_SEND_END (R113): the send end fixes the reply window as it then stands; a second send end of one exchange
changes nothing (the model's choice, log 2). -/
def Obligations.SendEndOpensTheWindow : Prop :=
  ∀ (s : State) (t : TimeTag) (x : Exchange), s.Settled → s.LinkServed → s.exchange = some x →
    exec (.exchangeSendEnd t) s =
      .next { s with time := t,
                     exchange := some { x with waiting := if x.waiting.isSome then x.waiting
                                                          else some (t, s.params.replyWindow) } }

/-- STATUS_REPORT (R5, R26, R30 to R32, R37): a valid reply to a POLL LIFT that no confirmation follows replaces the
lift's last report, its position, occupancy and off-marker-since, sets its unanswered count to 0, and touches no other
lift's report, no table, no parameter, neither the Hazard Map nor the reservoir view. A reply the care mask marks is
held for its confirmation poll, asked on the other lane (R132), and a valid reply to that poll is handed on in its
place. Then what a report handed on does: the copy filter (R153), the order of R5, the debounce (R9, R10), reports in
STALLED and QUEUED (R11, R13), in RESCUING, RELEASED and MANUAL (R15, R17, R18), and the return from OFFLINE (R20).
That a copy goes up before the notices of the same report is log 5, and that the evaluation, the lane record and the
next descriptor follow in this order at the end of the exchange (R113, R115, R130) is log 7. -/
def Obligations.StatusReportIsTaken : Prop :=
  (∀ (s : State) (t : TimeTag) (x : Exchange) (r : Reply) (start : TimeTag) (gap : Nat) (d : Descriptor) (lane : Lane)
      (n : Nat) (l : Lift),
    Answers s x .status r t → s.scan.phase = .working start gap (.poll d lane n) → d.kind = .pollLift →
    liftOfNumber d.lift = some l → (s.lift l).state ≠ .excluded →
    ∀ rep, rep = decodeReport (s.lift l).landings.length r.payload →
      (careHit s.faultTable d.care rep = false →
        (exec (.statusReport t r) s =
          .next (exchangeOver ((s.atTime t).takeReport l x.dest r.payload rep t) x true start gap t))
        ∧ ((s.lift l).entry.ringNode = x.dest →
          ∃ u, exec (.statusReport t r) s = .next u ∧ SameTables s u ∧ u.hazard = s.hazard ∧ u.reservoir = s.reservoir
            ∧ (u.lift l).unanswered = 0 ∧ (u.lift l).occupancy = occupancyOf s.params.massPerPerson rep.load
            ∧ (u.lift l).pos = track s.params.maxCounts (s.lift l).entry (s.lift l).landings (s.lift l).pos rep
            ∧ (u.lift l).offMarkerSince = offMarkerUpdate t (s.lift l).offMarkerSince rep
            ∧ (u.lift l).lastReport = some ⟨rep, t,
                drawVerdict (faultEntry s.faultTable rep.fault) t (offMarkerUpdate t (s.lift l).offMarkerSince rep)
                  s.params.offMarkerDwell rep⟩
            ∧ ∀ k : Lift, k ≠ l → SameReport (s.lift k) (u.lift k)))
      ∧ (careHit s.faultTable d.care rep = true → ∀ v, v = (s.atTime t).closeExchange x true →
          exec (.statusReport t r) s =
            .next ({ v with
              exchange := some (pollExchange v (otherLane x.lane) (s.lift l).entry.ringNode 1 .status)
              scan := { v.scan with phase := .working start gap (.confirm d
                { source := x.dest, payload := r.payload, arrival := t, report := rep }) } }.finish t)))
  ∧ (∀ (s : State) (t : TimeTag) (x : Exchange) (r : Reply) (start : TimeTag) (gap : Nat) (d : Descriptor)
      (first : FirstReply) (l : Lift),
    Answers s x .status r t → s.scan.phase = .working start gap (.confirm d first) → liftOfNumber d.lift = some l →
    exec (.statusReport t r) s =
      .next (exchangeOver ((s.atTime t).takeReport l x.dest r.payload
        (decodeReport (s.lift l).landings.length r.payload) t) x true start gap t))
  ∧ ReportsAreTaken ∧ OccupancyFollowsTheLoad ∧ CopiesAreFiltered ∧ ReportsAreDebounced ∧ WaitingLiftsTakeReports
  ∧ RescuedLiftsTakeReports ∧ OfflineLiftsReturn

/-- POWER_REPORT (R74): a valid reply from the power unit node replaces the reservoir view, with the feed count and
state as R74 maps them, and touches no lift's report, no table and no hazard zone. RESERVOIR LOW is raised when the level
comes below the floor, or is found there after staleness (R76), and one evaluation is called. That the evaluation, the lane
record and the next descriptor follow in this order at the end of the exchange (R113, R115, R130) is log 7. -/
def Obligations.PowerReportReplacesTheView : Prop :=
  (∀ (s : State) (t : TimeTag) (x : Exchange) (r : Reply) (start : TimeTag) (gap : Nat) (d : Descriptor) (lane : Lane)
      (n : Nat),
    Answers s x .power r t → s.scan.phase = .working start gap (.poll d lane n) → d.kind = .pollPower →
    (x.dest = s.params.powerNode →
      (∃ u, exec (.powerReport t r) s = .next u ∧ SameTables s u ∧ u.hazard = s.hazard
        ∧ (∀ k : Lift, SameReport (s.lift k) (u.lift k)) ∧ u.reservoir.level = w r.payload 0
        ∧ u.reservoir.reportTime = some t ∧ u.reservoir.stale = false
        ∧ u.reservoir.feedCount = near 1 4 (w r.payload 1 % 8)
        ∧ u.reservoir.state = PowerState.ofCode (w r.payload 1 / 256 % 8))
      ∧ exec (.powerReport t r) s =
        .next (exchangeOver (((s.atTime t).takePower r.payload t).settle t) x true start gap t))
    ∧ (x.dest ≠ s.params.powerNode →
      (∃ u, exec (.powerReport t r) s = .next u ∧ u.reservoir = s.reservoir ∧ u.hazard = s.hazard ∧ SameTables s u)
      ∧ exec (.powerReport t r) s = .next (exchangeOver ((s.atTime t).settle t) x true start gap t)))
  ∧ PowerStatesAreMapped ∧ PowerReportsAreTaken

/-- HAZARD_REPORT (R50): a valid reply from the hazard panel node replaces the usability of all zones, with zone 0
always usable; it touches neither the reservoir view nor a table nor a lift's report. The changed zones replan the lifts
they touch (R52 to R54), lift 1 first (log 38), and an evaluation is called when any was replanned (log 19). That the
evaluation, the lane record and the next descriptor follow in this order at the end of the exchange (R113, R115, R130) is
log 7. -/
def Obligations.HazardReportReplacesTheMap : Prop :=
  (∀ (s : State) (t : TimeTag) (x : Exchange) (r : Reply) (start : TimeTag) (gap : Nat) (d : Descriptor) (lane : Lane)
      (n : Nat),
    Answers s x .hazard r t → s.scan.phase = .working start gap (.poll d lane n) → d.kind = .pollHazard →
    (x.dest = s.params.hazardNode →
      (∃ u, exec (.hazardReport t r) s = .next u ∧ SameTables s u ∧ u.reservoir = s.reservoir
        ∧ (∀ k : Lift, SameReport (s.lift k) (u.lift k)) ∧ u.hazard.getLsbD 0 = false
        ∧ (∀ z, 1 ≤ z → z ≤ 15 → u.hazard.getLsbD z = (wordAt r.payload 0).getLsbD z)
        ∧ (∀ z, 16 ≤ z → z ≤ 31 → u.hazard.getLsbD z = (wordAt r.payload 1).getLsbD (z - 16)))
      ∧ ∀ zones changed v u, zones = decodeZones r.payload → changed = (zones ^^^ s.hazard) &&& 0xFFFFFFFE#32 →
        v = { s with time := t, hazard := zones } →
        u = allLifts.foldl (fun v l => v.hazardReplan changed t l) v →
        ((∃ l : Lift, v.replanRaised changed l = true) →
          exec (.hazardReport t r) s =
            .next (exchangeOver (({ u with admissionDue := true } : State).settle t) x true start gap t))
        ∧ ((∀ l : Lift, v.replanRaised changed l = false) →
          exec (.hazardReport t r) s = .next (exchangeOver (u.settle t) x true start gap t)))
    ∧ (x.dest ≠ s.params.hazardNode →
      ∃ u, exec (.hazardReport t r) s = .next u ∧ u.hazard = s.hazard ∧ u.reservoir = s.reservoir ∧ SameTables s u))
  ∧ HazardsReplan

/-- ORDER_ECHO (R144): with the gap of the slot's descriptor still running, a matching echo empties the slot; for an
order of the part nothing else of the lift changes, and an echo with another tag uses up a send. For any poster, what an
echo and a silent window bring about, and to whom it is told (R98, R144, R145). Then the posting of orders (R139), the
choice of an ORDER SLOT (R142), and the sending of the chosen order with its tag (R134, R141, R143). That the poster of a
replaced order is told nothing is log 32, and that the evaluation, the lane record and the next descriptor follow in this
order at the end of the exchange (R113, R115, R130) is log 7. -/
def Obligations.EchoEmptiesTheSlot : Prop :=
  (∀ (s : State) (t : TimeTag) (x : Exchange) (r : Reply) (start : TimeTag) (gap : Nat) (l : Lift) (tag : BitVec 4)
      (o : Order),
    Answers s x .echo r t → s.Settled → s.scan.phase = .working start gap (.order l tag) →
    (t - start).toNat < gap → s.slot l = some o → o.tag = some tag → o.poster = .part →
    (r.tag = tag →
      exec (.orderEcho t r) s =
        .next (((((s.atTime t).setSlot l none).closeExchange x true).setPhase (.gapWait start gap)).transmit))
    ∧ (r.tag ≠ tag → 2 ≤ o.sends →
      exec (.orderEcho t r) s =
        .next (((((s.atTime t).setSlot l (some { o with sends := o.sends - 1 })).closeExchange x true).setPhase
          (.gapWait start gap)).transmit)))
  ∧ (∀ (s : State) (t : TimeTag) (x : Exchange) (start : TimeTag) (gap : Nat) (l : Lift) (tag : BitVec 4),
    s.restart = .idle → s.exchange = some x → s.scan.phase = .working start gap (.order l tag) →
    (∀ r, Meets x .echo r t →
      exec (.orderEcho t r) s =
        .next (exchangeOver (((s.atTime t).orderOutcome l tag (.echo r.tag (decide (32768 ≤ w r.payload 0))) t).settle t)
          x true start gap t))
    ∧ ∀ sent window, x.waiting = some (sent, window) → window ≤ (t - sent).toNat →
      exec (.replyWindowClose t) s =
        .next (exchangeOver (((s.atTime t).orderOutcome l tag .silent t).settle t) x false start gap t))
  ∧ OrderOutcomesAct ∧ OutcomesAreDelivered ∧ PostingsTakeTheSlot ∧ OrdersAreChosenInTurn ∧ ChosenOrdersAreSent

/-- COMMAND_REPLY (R147, R148, R149): with the gap still running, the node's reply joins the command reply FIFO with its
source and its payload as received. -/
def Obligations.CommandReplyIsForwarded : Prop :=
  ∀ (s : State) (t : TimeTag) (x : Exchange) (r : Reply) (start : TimeTag) (gap : Nat) (dest : BitVec 6),
    Answers s x .command r t → s.Settled → s.scan.phase = .working start gap (.command dest) →
    (t - start).toNat < gap → s.link.cmdReplies.length < 4 →
    exec (.commandReply t r) s =
      .next (((({ s with time := t, link := { s.link with
            cmdReplies := s.link.cmdReplies ++ [{ kind := 9, dest := 0, source := r.source, tag := 0,
                                                  payload := r.payload }] } } : State).closeExchange x true).setPhase
        (.gapWait start gap)).transmit)

/-- The end of an exchange at the Ring Interface (R115, R116, R118): the miss count and status of the lane it was made
on, the notice of a change, both probe phases IDLE, and the other lane's record kept. Then the lane an exchange is made
on (R117), for every pair of lane records. That both probe phases are IDLE from the end of the exchange is log 26. -/
def Obligations.LanesAreKeptAndChosen : Prop :=
  (∀ (s : State) (x : Exchange) (valid : Bool), ∀ u, u = s.closeExchange x valid →
    ∀ before after other otherAfter : LaneRecord,
      before = s.laneRecord x.lane → after = u.laneRecord x.lane → other = s.laneRecord (otherLane x.lane) →
      otherAfter = u.laneRecord (otherLane x.lane) →
    u.exchange = none ∧ after.probe = .idle ∧ otherAfter = { other with probe := .idle }
      ∧ (valid = true → after.status = .good ∧ after.missCount = 0)
      ∧ (valid = false → before.status = .good → before.missCount < 7 →
          after.status = .good ∧ after.missCount = before.missCount + 1)
      ∧ (valid = false → before.status = .good → 7 ≤ before.missCount →
          after.status = .degraded ∧ after.missCount = 8)
      ∧ (valid = false → before.status = .degraded → after.status = .degraded ∧ after.missCount = 8)
      ∧ u.link = (if before.status = after.status then s.link
          else (raised s 0 (match x.lane, after.status with
            | .a, .degraded => 4
            | .b, .degraded => 8
            | .a, .good => 16
            | .b, .good => 32)).link)
      ∧ u.lifts = s.lifts ∧ u.scan = s.scan ∧ u.orders = s.orders ∧ u.time = s.time)
  ∧ ∀ (s : State) (asked : Lane),
    (s.laneA.probe = .due → s.chooseLane asked = .a)
    ∧ (s.laneA.probe = .idle → s.laneB.probe = .due → s.chooseLane asked = .b)
    ∧ (s.laneA.probe = .idle → s.laneB.probe = .idle →
        ((s.laneRecord asked).status = .good → s.chooseLane asked = asked)
        ∧ ((s.laneRecord asked).status = .degraded → (s.laneRecord (otherLane asked)).status = .good →
            s.chooseLane asked = otherLane asked)
        ∧ ((s.laneRecord asked).status = .degraded → (s.laneRecord (otherLane asked)).status = .degraded →
            s.chooseLane asked = asked))

/-- REPLY_WINDOW_CLOSE (R113, R131): a try of a poll that ended without a valid reply is followed by a further try
while tries remain, on the lane R131 and R117 name; before the window has passed nothing happens (the model's choice,
log 2), and the lane a switched retry asks for is the one other than the lane asked before (log 27). With no try left
a POLL LIFT is one unanswered poll (R19), a POLL POWER or POLL HAZARD hands on nothing; a failed confirmation hands on
the first reply, with its own arrival as the present time (R132, log 8); a poll abandoned when its lift left service
hands on nothing, answered or not (R131, R137, log 41); a remote command is answered NO ANSWER (R148). That the
evaluation, the lane record and the next descriptor follow in this order at the end of the exchange (R113, R115, R130)
is log 7. -/
def Obligations.MissedPollIsRetried : Prop :=
  (∀ (s : State) (t : TimeTag) (x : Exchange) (start sent : TimeTag) (gap window n : Nat) (d : Descriptor) (lane : Lane),
    s.Settled → s.LinkServed → s.exchange = some x → x.waiting = some (sent, window) → s.restart = .idle →
    s.scan.phase = .working start gap (.poll d lane (n + 1)) → s.pollExcluded d = false ∨ d.kind ≠ .pollLift →
    ((t - sent).toNat < window → exec (.replyWindowClose t) s = .next { s with time := t })
    ∧ (window ≤ (t - sent).toNat →
      ∃ u v, exec (.replyWindowClose t) s = .next u ∧ v = (s.atTime t).closeExchange x false
        ∧ u.exchange = some { lane := v.chooseLane (if d.switch then otherLane lane else lane),
                              dest := (s.pollOf d).1.dest.toNat, expects := (s.pollOf d).2,
                              sent := (s.pollOf d).1.words, waiting := none }
        ∧ u.scan.phase = .working start gap (.poll d (if d.switch then otherLane lane else lane) n)
        ∧ u.lifts = s.lifts ∧ u.orders = s.orders ∧ u.reservoir = s.reservoir ∧ u.hazard = s.hazard
        ∧ u.queue = s.queue ∧ SameTables s u))
  ∧ (∀ (s : State) (t : TimeTag) (x : Exchange) (start : TimeTag) (gap : Nat) (job : Job),
    s.restart = .idle → s.exchange = some x → s.scan.phase = .working start gap job →
    (∀ sent window, x.waiting = some (sent, window) → window ≤ (t - sent).toNat →
      (∀ d lane l, job = .poll d lane 0 → d.kind = .pollLift → liftOfNumber d.lift = some l →
          (s.lift l).state ≠ .excluded →
        exec (.replyWindowClose t) s =
          .next (exchangeOver (((s.atTime t).unansweredPoll l t).settle t) x false start gap t))
      ∧ (∀ d lane, job = .poll d lane 0 → d.kind = .pollPower ∨ d.kind = .pollHazard →
        exec (.replyWindowClose t) s = .next (exchangeOver (s.atTime t) x false start gap t))
      ∧ (∀ d first l, job = .confirm d first → liftOfNumber d.lift = some l →
        exec (.replyWindowClose t) s =
          .next (exchangeOver ((s.atTime t).takeReport l first.source first.payload first.report first.arrival) x false
            start gap t))
      ∧ (job = .abandoned → exec (.replyWindowClose t) s = .next (exchangeOver (s.atTime t) x false start gap t))
      ∧ ∀ dest v, job = .command dest →
        v = (if s.link.cmdReplies.length < 4 then
              { s.atTime t with link := { s.link with
                  cmdReplies := s.link.cmdReplies ++ [{ kind := 9, dest := dest, source := 0, tag := 0, payload := [3] }] } }
             else s.atTime t) →
        exec (.replyWindowClose t) s = .next (exchangeOver v x false start gap t))
    ∧ ∀ k r, job = .abandoned → Meets x k r t →
      exec (replyOf k t r) s = .next (exchangeOver (s.atTime t) x true start gap t))
  ∧ UnansweredPollsAreCounted

/-- RING_FRAME_DISCARD (R113): outside an exchange, on the other lane, before the send end, of a kind not expected, or
no frame at all: nothing but the time changes. Which words such a row may carry is the model's choice (log 4). -/
def Obligations.DiscardedRingFrames : Prop :=
  ∀ (s : State) (t : TimeTag) (lane : Lane) (ws : List Word) (whole : Bool), s.Settled → s.LinkServed →
    (s.exchange = none ∨ Frame.ofWords ws whole = none
      ∨ (∃ x, s.exchange = some x ∧ (x.lane ≠ lane ∨ x.waiting = none
          ∨ ∀ f, Frame.ofWords ws whole = some f → f.kind ≠ x.expects.frameKind ∨ f.source.toNat ≠ x.dest))) →
    exec (.ringFrameDiscard t lane ws whole) s = .next { s with time := t }

/-! ## Expiries -/

/-- DESCRIPTOR_GAP_EXPIRY and CYCLE_START (R129, R130, R135): before the gap, or the minimum cycle period, has passed
nothing happens (the model's choice, log 2); after the gap the next descriptor is taken, here a PAUSE, which holds the
cycle for its own gap; after the period a cycle runs from the present time, the probe phases are set (R116), and no
table, reservoir view or hazard zone changes. Then what a descriptor taken does (R130, R131), how descriptors follow
one another, what a cycle start does, with the CREEP orders renewed from lift 1 upward (R129, log 38) before
descriptor 0 is taken (log 6), and what a cycle end does: swap, counter, CYCLE SLOW (R135). -/
def Obligations.GapAndCycleExpiries : Prop :=
  (∀ (s : State) (t start : TimeTag) (gap : Nat), s.Settled → s.LinkServed → s.scan.phase = .gapWait start gap →
    ((t - start).toNat < gap → exec (.descriptorGapExpiry t) s = .next { s with time := t })
    ∧ (gap ≤ (t - start).toNat → ∀ (i : Nat) (d : Descriptor), s.scan.current = some i →
        (s.scan.bank s.scan.active).descriptors[i + 1]? = some d → d.kind = .pause → 1 ≤ d.gap →
        exec (.descriptorGapExpiry t) s =
          .next { s with time := t, scan := { s.scan with current := some (i + 1), phase := .gapWait t d.gap } })
    ∧ (gap ≤ (t - start).toNat → ∀ i, s.scan.current = some i →
        exec (.descriptorGapExpiry t) s = .next (((s.atTime t).advance (i + 1) t).finish t)))
  ∧ (∀ (s : State) (t began : TimeTag), s.Settled → s.LinkServed → s.scan.phase = .cycleWait →
    s.scan.startTime = some began →
    ((t - began).toNat < s.params.minCyclePeriod → exec (.cycleStart t) s = .next { s with time := t })
    ∧ (s.params.minCyclePeriod ≤ (t - began).toNat →
        ∃ u, exec (.cycleStart t) s = .next u ∧ u.scan.running = true ∧ u.scan.startTime = some t ∧ SameTables s u
          ∧ u.reservoir = s.reservoir ∧ u.hazard = s.hazard ∧ (∀ k : Lift, SameReport (s.lift k) (u.lift k))
          ∧ ((∃ l : Lift, s.inCreep l = true) → u.scan.creepSeen = true)
          ∧ u.laneA = { s.laneA with probe := if s.scan.cycleCounter.toNat % 16 = 0 ∧ s.laneA.status = .degraded
                                                  ∧ s.laneB.status = .good then .due else .idle }
          ∧ u.laneB = { s.laneB with probe := if s.scan.cycleCounter.toNat % 16 = 0 ∧ s.laneB.status = .degraded
                                                  ∧ s.laneA.status = .good then .due else .idle }
          ∧ u = ((s.atTime t).startCycle t).finish t))
  ∧ DescriptorsAreTaken ∧ DescriptorsFollow ∧ CyclesBegin ∧ CyclesEnd

/-- STEP_TIMER_EXPIRY (R93, R95): before its time, or with no timer running, nothing happens (the model's choice, log
2); at its time a running PAUSE ends done and any other running step, an ORDER or a CREEP too, in fail. Where a PAUSE
or WAIT is followed by a PAUSE or WAIT, the lift waits in the step entered next, numbered as the next entry, with its
own timer; the step raised STEP when it ended done with notify. Then how any step ends (R94; that the record keeps the
figure of a released creep reservation is log 36), a WAIT counts reports (R96), each kind is entered (R93, R97, R99 to
R101), the order an ORDER step posts (R97; that a marker naming no landing of a list shortened since finds none is log
37), and entries follow one another within one event, which is the model's reading of its bound (log 25). -/
def Obligations.StepTimerEndsTheStep : Prop :=
  (∀ (s : State) (t : TimeTag) (l : Lift), s.Settled → s.LinkServed →
    (s.stepTimer l = none → exec (.stepTimerExpiry t l) s = .next { s with time := t })
    ∧ ∀ (r : RescueRecord) (tm : StepTimer) (sr nx : StepRecord), (s.lift l).rescue = some r →
      r.working.timer = some tm → s.stepRecord r.bank r.step = sr →
      ((t - tm.loadedAt).toNat < tm.ds * 100 → exec (.stepTimerExpiry t l) s = .next { s with time := t })
      ∧ (tm.ds * 100 ≤ (t - tm.loadedAt).toNat →
          exec (.stepTimerExpiry t l) s = .next (((s.atTime t).endStep l (decide (sr.action = .pause)) t).finish t))
      ∧ (tm.ds * 100 ≤ (t - tm.loadedAt).toNat → r.budget < 32 → r.working.creep = none →
          ((sr.action = .pause) ∨ ∃ c, sr.action = .wait c) →
          s.stepRecord r.bank (if sr.action = .pause then sr.chainDone else sr.chainFail) = nx →
          ((nx.action = .pause) ∨ ∃ c, nx.action = .wait c) →
          ∃ u v, exec (.stepTimerExpiry t l) s = .next u.transmit
            ∧ v = ({ s with time := t } : State).setLift l
              { s.lift l with rescue := some { r with
                  step := if sr.action = .pause then sr.chainDone else sr.chainFail, budget := r.budget + 1,
                  working := { repeats := 0, creep := none,
                               timer := some { loadedAt := t, ds := if nx.timeout = 0 then 1 else nx.timeout } } } }
            ∧ u = if sr.action = .pause ∧ sr.notify = true then raised v (l.val + 1) 2 else v))
  ∧ StepsEndByTheirRules ∧ WaitsCountReports ∧ StepsAreEntered ∧ StepOrdersAreFormed ∧ EntriesFollowOneAnother

/-- POWER_STALE_EXPIRY (R75): reached with a report time and the flag clear, it sets the flag and raises POWER STALE;
otherwise nothing happens (the model's choice, log 2), and no expiry falls after a reset. -/
def Obligations.PowerStaleExpirySetsTheFlag : Prop :=
  ∀ (s : State) (t : TimeTag), s.Settled → s.LinkServed →
    (∀ at', s.reservoir.reportTime = some at' → s.reservoir.stale = false →
      s.params.powerStaleTime * 1000 ≤ (t - at').toNat →
      exec (.powerStaleExpiry t) s =
        .next (raised { s with time := t, reservoir := { s.reservoir with stale := true } } 0 2).transmit)
    ∧ ((s.reservoir.reportTime = none ∨ s.reservoir.stale = true
          ∨ ∃ at', s.reservoir.reportTime = some at' ∧ (t - at').toNat < s.params.powerStaleTime * 1000) →
      exec (.powerStaleExpiry t) s = .next { s with time := t })

/-! ## Verdicts, positions, plans -/

/-- The report conditions that a care mask names (R27); when a report is trapping, with the class and immediacy of its
verdict (R31, R32); and off-marker-since (R30), from which the time never exceeds 600 000 ms. -/
def Obligations.ReportsAreJudged : Prop :=
  (∀ (table : Vector FaultEntry 64) (m : CareMask) (r : Report) (h : r.fault < 64),
    careHit table m r = true ↔
      (m.faultPresent = true ∧ ((table.get ⟨r.fault, h⟩).cls = .stall ∨ (table.get ⟨r.fault, h⟩).cls = .stallNoAuto))
        ∨ (m.mainsLost = true ∧ r.mainsLost = true) ∨ (m.doorsJammed = true ∧ r.doors = .jammed)
        ∨ (m.safetyOpen = true ∧ r.chainOpen = true))
  ∧ (∀ (e : FaultEntry) (t : TimeTag) (since : Option TimeTag) (dwell : Nat) (r : Report),
    ∀ stands byClass byDwell : Prop,
      (stands ↔ r.motion = .stopped ∧ ¬ (r.doors = .opened ∧ r.marker.isSome)) →
      (byClass ↔ e.cls = .stall ∨ e.cls = .stallNoAuto) →
      (byDwell ↔ ∃ o, since = some o ∧ dwell * 1000 ≤ (t - o).toNat) →
      ((drawVerdict e t since dwell r).trapping = true ↔ stands ∧ (byClass ∨ byDwell))
      ∧ (stands ∧ byClass → drawVerdict e t since dwell r = ⟨true, e.cls, e.immediate⟩)
      ∧ (stands ∧ ¬ byClass ∧ byDwell → drawVerdict e t since dwell r = ⟨true, .stall, false⟩)
      ∧ (¬ (stands ∧ (byClass ∨ byDwell)) → drawVerdict e t since dwell r = ⟨false, e.cls, false⟩))
  ∧ ∀ (t : TimeTag) (old : Option TimeTag) (r : Report),
    (r.motion ≠ .stopped ∨ r.marker.isSome → offMarkerUpdate t old r = none)
    ∧ (r.motion = .stopped → r.marker = none →
        (old = none → offMarkerUpdate t old r = some t)
        ∧ (∀ o, old = some o → (t - o).toNat ≤ 600000 → offMarkerUpdate t old r = some o)
        ∧ (∀ o, old = some o → 600000 < (t - o).toNat → offMarkerUpdate t old r = some (t - 600000)))
    ∧ ∀ o, offMarkerUpdate t old r = some o → (t - o).toNat ≤ 600000

/-- The Position Tracker keeps the position in the shaft and the offset in the bound of R41 (R42 to R46), for a Landing
List that lies in the shaft. And every step keeps every car in its shaft: the position and the landings at or below the
shaft top, the landings in ascending order (R38, R39, R46). -/
def Obligations.PositionStaysInTheShaft : Prop :=
  (∀ (maxCounts : Nat) (e : LiftEntry) (ls : List Landing) (p : Position) (r : Report),
    (∀ d ∈ ls, d.height ≤ e.shaftTop) → p.position ≤ e.shaftTop → p.anchorHeight ≤ e.shaftTop →
    p.offset.natAbs < (e.shaftTop + 1) * 10000 →
    ∀ q, q = track maxCounts e ls p r →
      q.position ≤ e.shaftTop ∧ q.anchorHeight ≤ e.shaftTop ∧ q.offset.natAbs < (e.shaftTop + 1) * 10000
        ∧ q.lastCount = some r.encoder ∧ (q.anchored = false → q.doubt = true))
  ∧ ∀ s t : State, s.CarsInShaft → step s = .next t → t.CarsInShaft

/-- One report applied to the position (R42 to R45, R47): the marker re-anchors whatever the encoder shows, an
implausible delta moves nothing and sets doubt, a plausible one is added exactly and truncated toward zero. The encoder
delta is congruent to the difference of the counts and lies in the signed 16-bit range, turned by the count sense. -/
def Obligations.ReportMovesThePosition : Prop :=
  (∀ (maxCounts : Nat) (e : LiftEntry) (ls : List Landing) (p : Position) (r : Report),
    (∀ m d, r.marker = some m → ls[m]? = some d →
      track maxCounts e ls p r = { position := d.height, anchorHeight := d.height, offset := 0,
                                   lastCount := some r.encoder, anchored := true, doubt := false })
    ∧ (r.marker = none → p.lastCount = none →
      track maxCounts e ls p r = { p with lastCount := some r.encoder, doubt := p.doubt || !p.anchored })
    ∧ ∀ last delta, r.marker = none → p.lastCount = some last → delta = encoderDelta e.countSense r.encoder last →
      (maxCounts < delta.natAbs →
        track maxCounts e ls p r = { p with lastCount := some r.encoder, doubt := true })
      ∧ (delta.natAbs ≤ maxCounts → ∀ offset raw : Int, offset = p.offset + delta * e.encoderScale →
          raw = p.anchorHeight + Int.tdiv offset 10000 → 0 ≤ raw → raw ≤ e.shaftTop →
        track maxCounts e ls p r = { p with lastCount := some r.encoder, offset := offset, position := raw.toNat,
                                            doubt := p.doubt || !p.anchored }))
  ∧ ∀ new last : Nat, new < 65536 → last < 65536 →
    ∃ d : Int, encoderDelta .upIncreases new last = d ∧ encoderDelta .downIncreases new last = -d
      ∧ -32768 ≤ d ∧ d ≤ 32767 ∧ (d - ((new : Int) - last)) % 65536 = 0

/-- A free run (R60, R62, R64, R66): with doubt set it plans in MARKER mode without a target over the shaft span;
otherwise a feasible plan aims at a usable landing of the list, and no feasible plan costs 65535 hJ or more. Travel
time and creep cost are quotients rounded up, and a creep cost above 65534 makes the plan infeasible with the sentinel
65535. Then the trapped minutes (R67) and the merit (R68) a run works with, and what a run writes: the trapped minutes
(R67), the plan, and notice reason PLAN (R70). That each run uses up a free value is log 12. -/
def Obligations.FeasiblePlansAreUsableAndCosted : Prop :=
  (∀ i : PlanInput, ∀ p, p = planFree i →
    (i.doubt = true → p.mode = .marker ∧ p.target = none ∧ (p.feasible = true → p.distance = shaftSpan i.landings))
    ∧ (i.doubt = false → p.mode ≠ .marker
        ∧ (p.feasible = true → ∃ t d, p.target = some t ∧ i.landings[t]? = some d ∧ usable i.zones d = true))
    ∧ (p.feasible = true → p.totalCost < 65535 ∧ p.totalCost = p.creepCost + p.doorCost ∧ p.reason = none
        ∧ p.doorCost = i.entry.doorCycleCost)
    ∧ (p.feasible = false → p.reason.isSome) ∧ p.merit = i.merit)
  ∧ (∀ (e : LiftEntry) (mode : Mode) (dir : Direction) (target : Option Nat) (distance power merit : Nat),
    1 ≤ e.rescueSpeed → ∀ p, p = costed e mode dir target distance power merit →
    p.distance = distance ∧ distance * 100 ≤ p.travelTime * e.rescueSpeed
      ∧ p.travelTime * e.rescueSpeed < distance * 100 + e.rescueSpeed
      ∧ ∀ cost, p.travelTime * power ≤ cost * 1000 → cost * 1000 < p.travelTime * power + 1000 →
        (cost ≤ 65534 → p.creepCost = cost ∧ (p.feasible = true ↔ cost + e.doorCycleCost < 65535)
          ∧ p.totalCost = min 65535 (cost + e.doorCycleCost))
        ∧ (65534 < cost → p.creepCost = 65535 ∧ p.totalCost = 65535 ∧ p.feasible = false
          ∧ p.reason = some .costOverRange))
  ∧ (∀ (now t : TimeTag) (held : Nat), trappedAt now none held = 0
    ∧ trappedAt now (some t) held = max held (min 255 ((now - t).toNat / 60000)))
  ∧ (∀ (p : Params) (e : LiftEntry) (zones : BitVec 32) (ls : List Landing) (occupancy : Option Nat) (trapped h : Nat),
    ((∃ d ∈ ls, d.zone ≠ 0 ∧ zones.getLsbD d.zone = true) → h = p.hazardBonus) →
    ((∀ d ∈ ls, d.zone = 0 ∨ zones.getLsbD d.zone = false) → h = 0) →
    meritOf p e zones ls occupancy trapped =
      min 65535 ((match occupancy with
        | none => p.unknownOccupancy
        | some n => n) * p.occupancyWeight + trapped * p.timeWeight + h + e.kindBonus))
  ∧ (∀ (s : State) (l : Lift) (now : TimeTag), (planInput s l now).merit =
      meritOf s.params (s.lift l).entry s.hazard (s.lift l).landings (s.lift l).occupancy
        (trappedAt now (s.lift l).stallSince (s.lift l).trappedMinutes))
  ∧ PlansAreWritten

/-- GRAVITY and ASSISTED targets of a free run with doubt clear, and of a directed run. A usable landing at the marker is
taken where the car stands (R61). Otherwise, with no marker or one that names an unusable landing, a heavy or light car
aims at the nearest usable landing beyond it in the gravity direction; with none it falls back on the nearest usable
landing the other way, driven ASSISTED; a balanced car is driven to the nearest usable landing of all, the lower of two at one
distance; where an assisted drive has no landing or no assist power, the plan is infeasible with NO USABLE LANDING (R62).
A directed run keeps its mode and direction and aims at the nearest usable landing beyond (R63); the nearest landing
ahead is that of R105 and R108. -/
def Obligations.TargetsAreTheNearest : Prop :=
  ∀ i : PlanInput, i.landings.Pairwise (fun a b => a.height < b.height) →
    (∀ p, i.doubt = false → p = planFree i →
      (∀ m, i.marker = some m → usableAt i.zones i.landings m = true →
        p.mode = .gravity ∧ p.direction = .down ∧ p.target = some m ∧ p.distance = 0)
      ∧ ((∀ m, i.marker = some m → usableAt i.zones i.landings m = false) →
        (∀ pull back : Direction, (imbalance i.entry i.load = .heavy ∧ pull = .down ∧ back = .up)
            ∨ (imbalance i.entry i.load = .light ∧ pull = .up ∧ back = .down) →
          ((∃ d ∈ i.landings, usable i.zones d = true ∧ Ahead pull i.position d.height) →
            p.mode = .gravity ∧ p.direction = pull
              ∧ ∃ n d, Aims i p n d ∧ Nearest i.landings i.position
                  (fun d => usable i.zones d = true ∧ Ahead pull i.position d.height) d)
          ∧ ((∀ d ∈ i.landings, usable i.zones d = true → ¬ Ahead pull i.position d.height) →
            p.mode = .assisted ∧ p.direction = back
              ∧ (i.entry.assistPower ≠ 0 → (∃ d ∈ i.landings, usable i.zones d = true) →
                  ∃ n d, Aims i p n d ∧ Nearest i.landings i.position (fun d => usable i.zones d = true) d)
              ∧ (i.entry.assistPower = 0 ∨ (∀ d ∈ i.landings, usable i.zones d = false) → NoLanding p)))
        ∧ (imbalance i.entry i.load = .balanced → p.mode = .assisted
          ∧ (i.entry.assistPower ≠ 0 → (∃ d ∈ i.landings, usable i.zones d = true) →
              ∃ n d, Aims i p n d ∧ (p.direction = .up ↔ i.position < d.height)
                ∧ Nearest i.landings i.position (fun d => usable i.zones d = true) d)
          ∧ (i.entry.assistPower = 0 ∨ (∀ d ∈ i.landings, usable i.zones d = false) → NoLanding p))))
    ∧ ∀ (mode : Mode) (dir : Direction) (q : Plan), q = planDirected i mode dir →
      q.mode = mode ∧ q.direction = dir
      ∧ ((∃ d ∈ i.landings, usable i.zones d = true ∧ Ahead dir i.position d.height) →
          ∃ n d, Aims i q n d ∧ Nearest i.landings i.position
            (fun d => usable i.zones d = true ∧ Ahead dir i.position d.height) d)
      ∧ ((∀ d ∈ i.landings, usable i.zones d = true → ¬ Ahead dir i.position d.height) → NoLanding q)
      ∧ (nextLanding i.landings dir i.position = none ↔ ∀ d ∈ i.landings, ¬ Ahead dir i.position d.height)
      ∧ ∀ n, nextLanding i.landings dir i.position = some n →
        ∃ d, i.landings[n]? = some d
          ∧ Nearest i.landings i.position (fun d => Ahead dir i.position d.height) d

/-! ## Queue and admission -/

/-- The queue stays in merit order when a lift enters it or its merit changes (R78, R79), whatever the entry times; and
every step from a coherent state keeps it in merit order. -/
def Obligations.QueueStaysInMeritOrder : Prop :=
  (∀ (s : State) (l : Lift), s.queue.Nodup →
    (s.queue.filter (· ≠ l)).Pairwise (fun a b => (s.lift b).merit ≤ (s.lift a).merit) →
    (s.enqueue l).queue.Pairwise (fun a b => (s.lift b).merit ≤ (s.lift a).merit)
      ∧ (s.enqueue l).queue.Nodup ∧ ∀ k : Lift, k ∈ (s.enqueue l).queue ↔ k = l ∨ k ∈ s.queue)
  ∧ ∀ s t : State, s.Coherent → s.MeritOrdered → step s = .next t → t.MeritOrdered

/-- The gate (R81): with the view stale, the unit in FAULT, as many lifts rescuing as the lower of the concurrency
limit and the feed count, or an empty queue, an evaluation changes nothing. With the gate open, an evaluation makes
the grant of its walk and evaluates again from there (R82, R83), and a walk without a grant ends it; the evaluation
owed is the model's own field (log 11), and the bound on the grants is never used up (log 25). The walk (R82): the
lift granted fits the headroom, everything ahead of it neither fits nor has reached the bypass guard; a walk without a
grant met an unaffordable entry at the guard or the end of the queue. -/
def Obligations.WalkGrantsTheFirstThatFits : Prop :=
  (∀ (s : State) (now : TimeTag),
    s.reservoir.stale = true ∨ s.reservoir.state = .fault
        ∨ min s.params.concurrencyLimit s.reservoir.feedCount ≤ (allLifts.filter fun l => (s.lift l).rescue.isSome).length
        ∨ s.queue = [] →
      s.evaluateAdmission now = { s with admissionDue := false })
  ∧ (∀ (s : State) (now : TimeTag), s.reservoir.stale = false → s.reservoir.state ≠ .fault →
    (allLifts.filter fun l => (s.lift l).rescue.isSome).length < min s.params.concurrencyLimit s.reservoir.feedCount →
    s.queue ≠ [] →
      (∀ l passed, s.walk s.queue [] = some (l, passed) →
        s.evaluateAdmission now = (s.grant l passed now).evaluateAdmission now)
      ∧ (s.walk s.queue [] = none → s.evaluateAdmission now = { s with admissionDue := false }))
  ∧ ∀ (s : State) (q : List Lift), ∀ fits : Lift → Prop,
    (fits = fun l => 0 ≤ (s.reservoir.level : Int) - s.params.reserveFloor - s.outstanding
      ∧ ((s.lift l).totalCost : Int) ≤ (s.reservoir.level : Int) - s.params.reserveFloor - s.outstanding) →
    (∀ l passed, s.walk q [] = some (l, passed) → ∃ behind, q = passed ++ l :: behind ∧ fits l
      ∧ ∀ k ∈ passed, ¬ fits k ∧ (s.lift k).bypass < s.params.bypassGuard)
    ∧ (s.walk q [] = none →
        (∀ k ∈ q, ¬ fits k)
        ∨ ∃ ahead k behind, q = ahead ++ k :: behind ∧ ¬ fits k ∧ s.params.bypassGuard ≤ (s.lift k).bypass
            ∧ ∀ j ∈ ahead, ¬ fits j)

/-- A grant (R14, R77, R82, R84): the lift leaves the queue for RESCUING with the record of R14, both reservations are added,
the lifts passed over have their bypass counts raised, and what is reserved stays within the level less the floor; then the
execution starts at the start step of the plan's mode. Then how an execution ends (R16, R86). -/
def Obligations.GrantReservesAndStarts : Prop :=
  (∀ (s : State) (l : Lift) (passed : List Lift) (p : Plan), (s.lift l).plan = some p → l ∉ passed → passed.Nodup →
    (s.lift l).state = .queued → ∀ u, u = s.beginRescue l passed →
    u.outstanding = s.outstanding + p.creepCost + p.doorCost ∧ (u.lift l).state = .rescuing ∧ l ∉ u.queue
      ∧ (u.lift l).queueData = none ∧ (u.lift l).plan = some p
      ∧ (u.lift l).rescue = some
        { bank := s.recipes.active,
          step := if p.mode = .gravity then (s.lift l).entry.gravityStart else (s.lift l).entry.assistedStart,
          budget := 0, stack := [], creepReservation := p.creepCost, doorReservation := p.doorCost,
          creepReleased := false, abortPending := false, attempt := (s.lift l).attempt, originalDistance := p.distance,
          working := Working.empty }
      ∧ (∀ k ∈ passed, ∀ q, (s.lift k).queueData = some q →
          (u.lift k).queueData = some { q with bypass := min 15 (q.bypass + 1) })
      ∧ (∀ k : Lift, k ≠ l → k ∉ passed → u.lift k = s.lift k)
      ∧ (s.fits l = true → p.totalCost = p.creepCost + p.doorCost →
          (u.outstanding : Int) ≤ (s.reservoir.level : Int) - s.params.reserveFloor)
      ∧ ∀ now, s.grant l passed now =
          u.startStep l (if p.mode = .gravity then (s.lift l).entry.gravityStart else (s.lift l).entry.assistedStart) now)
  ∧ ExecutionsEnd

/-! ## Frames -/

/-- Decode and encode agree: the words of a frame, with their check word, are read back as that frame (R111), and the
payload of a STATUS REPORT as that report, with every field at every value it can hold (R26). -/
def Obligations.FramesAndReportsReadBack : Prop :=
  (∀ f : Frame, f.payload.length ≤ 16 → Frame.ofWords f.words true = some f)
  ∧ ∀ (landings : Nat) (r : Report), landings ≤ 12 → r.fault ≤ 63 → r.encoder ≤ 65535 →
    (∀ m ∈ r.marker, m < landings) → (∀ kg ∈ r.load, kg ≤ 2500) → decodeReport landings (encodeReport r) = r

/-! ## Invariants of every step -/

/-- At reset the lift contexts are coherent, the queue empty, the queues bounded, the parameters in range, the ring and
the link at rest. -/
def Obligations.ResetIsSafe : Prop := State.reset.Safe

/-- Every step keeps the coherence of lift contexts and queue (R4, R14, R22, R78): a rescue record exactly in RESCUING,
queue data and a place in the queue exactly in QUEUED, no held lift in either, EXCLUDED exactly out of service. -/
def Obligations.StepKeepsLiftsCoherent : Prop :=
  ∀ s t : State, s.Coherent → step s = .next t → t.Coherent

/-- Every step keeps the outstanding reservation equal to the sum of what the running executions hold (R77). -/
def Obligations.StepKeepsReservationsBalanced : Prop :=
  ∀ s t : State, s.Coherent → s.Balanced → step s = .next t → t.Balanced

/-- Every step keeps the FIFOs of the station link and the pass-through queue within their places (R146, R152), and the
notice pending list at one entry for each number (R154). -/
def Obligations.StepKeepsQueuesBounded : Prop :=
  ∀ s t : State, step s = .next t → (s.QueuesBounded → t.QueuesBounded) ∧ (s.NoticesListed → t.NoticesListed)

/-- After every step no evaluation is owing, and the transmitter does not idle while a source may send (R80, R152). The
evaluation owed is a field of the model's own (log 11), and that the transmitter is offered a frame at the end of each
command is log 5. -/
def Obligations.StepLeavesNothingOwing : Prop :=
  ∀ s t : State, s.Settled → s.LinkServed → step s = .next t → t.Settled ∧ t.LinkServed

/-- Every step keeps the exchange in flight and the Scan Engine's phase in agreement: no exchange is begun during a
RESTART sequence, an engine that does not run takes no descriptor (R113, R126, R165), and ALL STOP is being sent, on lane A
and then on lane B, exactly in step 2 of that sequence, with no exchange in flight (R120, R136, R164). -/
def Obligations.StepKeepsTheRingCoherent : Prop :=
  ∀ s t : State, s.RingCoherent → step s = .next t → t.RingCoherent

/-- Every step keeps the station parameters in their ranges (R161). -/
def Obligations.StepKeepsParametersInRange : Prop :=
  ∀ s t : State, s.params.InRange → step s = .next t → t.params.InRange

/-- No execution uses more than 32 entries or holds more than two return indices after any step (R93, R100). -/
def Obligations.StepKeepsExecutionsBounded : Prop :=
  ∀ s t : State, s.StepsBounded → step s = .next t → t.StepsBounded

/-- No ring event and no expiry changes a loaded table, a station parameter or the held prefix (R24, R161): only
management requests, RESTART's clear and the reset pin do. -/
def Obligations.RingEventsKeepTheTables : Prop :=
  ∀ (c : Instr) (s u : State), requestOf c = none → c ≠ .powerOnReset → (∀ t, c ≠ .allStopSendEnd t) →
    (∀ t d p, c ≠ .managementRequestDiscard t d p) → (∀ t ws b, c ≠ .linkFrameDiscard t ws b) →
    exec c s = .next u → SameTables s u
end

