-- ==== Sys2Proof/Laws/State.lean ====
section
/-! SUPPORT. One lemma for each field of the state under each plain update: what an update leaves alone, and what it
sets. -/

namespace Sys2Proof.Machine

/-! ### setLift -/

@[simp] theorem setLift_time (s : State) (l : Lift) (c : LiftContext) : (s.setLift l c).time = s.time := rfl
@[simp] theorem setLift_laneA (s : State) (l : Lift) (c : LiftContext) : (s.setLift l c).laneA = s.laneA := rfl
@[simp] theorem setLift_laneB (s : State) (l : Lift) (c : LiftContext) : (s.setLift l c).laneB = s.laneB := rfl
@[simp] theorem setLift_exchange (s : State) (l : Lift) (c : LiftContext) : (s.setLift l c).exchange = s.exchange := rfl
@[simp] theorem setLift_allStop (s : State) (l : Lift) (c : LiftContext) : (s.setLift l c).allStop = s.allStop := rfl
@[simp] theorem setLift_scan (s : State) (l : Lift) (c : LiftContext) : (s.setLift l c).scan = s.scan := rfl
@[simp] theorem setLift_faultTable (s : State) (l : Lift) (c : LiftContext) : (s.setLift l c).faultTable = s.faultTable := rfl
@[simp] theorem setLift_hazard (s : State) (l : Lift) (c : LiftContext) : (s.setLift l c).hazard = s.hazard := rfl
@[simp] theorem setLift_reservoir (s : State) (l : Lift) (c : LiftContext) : (s.setLift l c).reservoir = s.reservoir := rfl
@[simp] theorem setLift_outstanding (s : State) (l : Lift) (c : LiftContext) : (s.setLift l c).outstanding = s.outstanding := rfl
@[simp] theorem setLift_queue (s : State) (l : Lift) (c : LiftContext) : (s.setLift l c).queue = s.queue := rfl
@[simp] theorem setLift_recipes (s : State) (l : Lift) (c : LiftContext) : (s.setLift l c).recipes = s.recipes := rfl
@[simp] theorem setLift_orders (s : State) (l : Lift) (c : LiftContext) : (s.setLift l c).orders = s.orders := rfl
@[simp] theorem setLift_link (s : State) (l : Lift) (c : LiftContext) : (s.setLift l c).link = s.link := rfl
@[simp] theorem setLift_prefixHeld (s : State) (l : Lift) (c : LiftContext) : (s.setLift l c).prefixHeld = s.prefixHeld := rfl
@[simp] theorem setLift_params (s : State) (l : Lift) (c : LiftContext) : (s.setLift l c).params = s.params := rfl
@[simp] theorem setLift_restart (s : State) (l : Lift) (c : LiftContext) : (s.setLift l c).restart = s.restart := rfl
@[simp] theorem setLift_admissionDue (s : State) (l : Lift) (c : LiftContext) : (s.setLift l c).admissionDue = s.admissionDue := rfl
@[simp] theorem setLift_freeIndex (s : State) (l : Lift) (c : LiftContext) : (s.setLift l c).freeIndex = s.freeIndex := rfl
@[simp] theorem setLift_pending (s : State) (l : Lift) (c : LiftContext) : (s.setLift l c).pending = s.pending := rfl

/-! ### modLift -/

@[simp] theorem modLift_time (s : State) (l : Lift) (f : LiftContext → LiftContext) : (s.modLift l f).time = s.time := rfl
@[simp] theorem modLift_laneA (s : State) (l : Lift) (f : LiftContext → LiftContext) : (s.modLift l f).laneA = s.laneA := rfl
@[simp] theorem modLift_laneB (s : State) (l : Lift) (f : LiftContext → LiftContext) : (s.modLift l f).laneB = s.laneB := rfl
@[simp] theorem modLift_exchange (s : State) (l : Lift) (f : LiftContext → LiftContext) : (s.modLift l f).exchange = s.exchange := rfl
@[simp] theorem modLift_allStop (s : State) (l : Lift) (f : LiftContext → LiftContext) : (s.modLift l f).allStop = s.allStop := rfl
@[simp] theorem modLift_scan (s : State) (l : Lift) (f : LiftContext → LiftContext) : (s.modLift l f).scan = s.scan := rfl
@[simp] theorem modLift_faultTable (s : State) (l : Lift) (f : LiftContext → LiftContext) : (s.modLift l f).faultTable = s.faultTable := rfl
@[simp] theorem modLift_hazard (s : State) (l : Lift) (f : LiftContext → LiftContext) : (s.modLift l f).hazard = s.hazard := rfl
@[simp] theorem modLift_reservoir (s : State) (l : Lift) (f : LiftContext → LiftContext) : (s.modLift l f).reservoir = s.reservoir := rfl
@[simp] theorem modLift_outstanding (s : State) (l : Lift) (f : LiftContext → LiftContext) : (s.modLift l f).outstanding = s.outstanding := rfl
@[simp] theorem modLift_queue (s : State) (l : Lift) (f : LiftContext → LiftContext) : (s.modLift l f).queue = s.queue := rfl
@[simp] theorem modLift_recipes (s : State) (l : Lift) (f : LiftContext → LiftContext) : (s.modLift l f).recipes = s.recipes := rfl
@[simp] theorem modLift_orders (s : State) (l : Lift) (f : LiftContext → LiftContext) : (s.modLift l f).orders = s.orders := rfl
@[simp] theorem modLift_link (s : State) (l : Lift) (f : LiftContext → LiftContext) : (s.modLift l f).link = s.link := rfl
@[simp] theorem modLift_prefixHeld (s : State) (l : Lift) (f : LiftContext → LiftContext) : (s.modLift l f).prefixHeld = s.prefixHeld := rfl
@[simp] theorem modLift_params (s : State) (l : Lift) (f : LiftContext → LiftContext) : (s.modLift l f).params = s.params := rfl
@[simp] theorem modLift_restart (s : State) (l : Lift) (f : LiftContext → LiftContext) : (s.modLift l f).restart = s.restart := rfl
@[simp] theorem modLift_admissionDue (s : State) (l : Lift) (f : LiftContext → LiftContext) : (s.modLift l f).admissionDue = s.admissionDue := rfl
@[simp] theorem modLift_freeIndex (s : State) (l : Lift) (f : LiftContext → LiftContext) : (s.modLift l f).freeIndex = s.freeIndex := rfl
@[simp] theorem modLift_pending (s : State) (l : Lift) (f : LiftContext → LiftContext) : (s.modLift l f).pending = s.pending := rfl

/-! ### setSlot -/

@[simp] theorem setSlot_time (s : State) (l : Lift) (o : Option Order) : (s.setSlot l o).time = s.time := rfl
@[simp] theorem setSlot_laneA (s : State) (l : Lift) (o : Option Order) : (s.setSlot l o).laneA = s.laneA := rfl
@[simp] theorem setSlot_laneB (s : State) (l : Lift) (o : Option Order) : (s.setSlot l o).laneB = s.laneB := rfl
@[simp] theorem setSlot_exchange (s : State) (l : Lift) (o : Option Order) : (s.setSlot l o).exchange = s.exchange := rfl
@[simp] theorem setSlot_allStop (s : State) (l : Lift) (o : Option Order) : (s.setSlot l o).allStop = s.allStop := rfl
@[simp] theorem setSlot_scan (s : State) (l : Lift) (o : Option Order) : (s.setSlot l o).scan = s.scan := rfl
@[simp] theorem setSlot_faultTable (s : State) (l : Lift) (o : Option Order) : (s.setSlot l o).faultTable = s.faultTable := rfl
@[simp] theorem setSlot_lifts (s : State) (l : Lift) (o : Option Order) : (s.setSlot l o).lifts = s.lifts := rfl
@[simp] theorem setSlot_hazard (s : State) (l : Lift) (o : Option Order) : (s.setSlot l o).hazard = s.hazard := rfl
@[simp] theorem setSlot_reservoir (s : State) (l : Lift) (o : Option Order) : (s.setSlot l o).reservoir = s.reservoir := rfl
@[simp] theorem setSlot_outstanding (s : State) (l : Lift) (o : Option Order) : (s.setSlot l o).outstanding = s.outstanding := rfl
@[simp] theorem setSlot_queue (s : State) (l : Lift) (o : Option Order) : (s.setSlot l o).queue = s.queue := rfl
@[simp] theorem setSlot_recipes (s : State) (l : Lift) (o : Option Order) : (s.setSlot l o).recipes = s.recipes := rfl
@[simp] theorem setSlot_link (s : State) (l : Lift) (o : Option Order) : (s.setSlot l o).link = s.link := rfl
@[simp] theorem setSlot_prefixHeld (s : State) (l : Lift) (o : Option Order) : (s.setSlot l o).prefixHeld = s.prefixHeld := rfl
@[simp] theorem setSlot_params (s : State) (l : Lift) (o : Option Order) : (s.setSlot l o).params = s.params := rfl
@[simp] theorem setSlot_restart (s : State) (l : Lift) (o : Option Order) : (s.setSlot l o).restart = s.restart := rfl
@[simp] theorem setSlot_admissionDue (s : State) (l : Lift) (o : Option Order) : (s.setSlot l o).admissionDue = s.admissionDue := rfl
@[simp] theorem setSlot_freeIndex (s : State) (l : Lift) (o : Option Order) : (s.setSlot l o).freeIndex = s.freeIndex := rfl
@[simp] theorem setSlot_pending (s : State) (l : Lift) (o : Option Order) : (s.setSlot l o).pending = s.pending := rfl

/-! ### setLastCopy -/

@[simp] theorem setLastCopy_time (s : State) (l : Lift) (r : Option ReportFields) : (s.setLastCopy l r).time = s.time := rfl
@[simp] theorem setLastCopy_laneA (s : State) (l : Lift) (r : Option ReportFields) : (s.setLastCopy l r).laneA = s.laneA := rfl
@[simp] theorem setLastCopy_laneB (s : State) (l : Lift) (r : Option ReportFields) : (s.setLastCopy l r).laneB = s.laneB := rfl
@[simp] theorem setLastCopy_exchange (s : State) (l : Lift) (r : Option ReportFields) : (s.setLastCopy l r).exchange = s.exchange := rfl
@[simp] theorem setLastCopy_allStop (s : State) (l : Lift) (r : Option ReportFields) : (s.setLastCopy l r).allStop = s.allStop := rfl
@[simp] theorem setLastCopy_scan (s : State) (l : Lift) (r : Option ReportFields) : (s.setLastCopy l r).scan = s.scan := rfl
@[simp] theorem setLastCopy_faultTable (s : State) (l : Lift) (r : Option ReportFields) : (s.setLastCopy l r).faultTable = s.faultTable := rfl
@[simp] theorem setLastCopy_lifts (s : State) (l : Lift) (r : Option ReportFields) : (s.setLastCopy l r).lifts = s.lifts := rfl
@[simp] theorem setLastCopy_hazard (s : State) (l : Lift) (r : Option ReportFields) : (s.setLastCopy l r).hazard = s.hazard := rfl
@[simp] theorem setLastCopy_reservoir (s : State) (l : Lift) (r : Option ReportFields) : (s.setLastCopy l r).reservoir = s.reservoir := rfl
@[simp] theorem setLastCopy_outstanding (s : State) (l : Lift) (r : Option ReportFields) : (s.setLastCopy l r).outstanding = s.outstanding := rfl
@[simp] theorem setLastCopy_queue (s : State) (l : Lift) (r : Option ReportFields) : (s.setLastCopy l r).queue = s.queue := rfl
@[simp] theorem setLastCopy_recipes (s : State) (l : Lift) (r : Option ReportFields) : (s.setLastCopy l r).recipes = s.recipes := rfl
@[simp] theorem setLastCopy_orders (s : State) (l : Lift) (r : Option ReportFields) : (s.setLastCopy l r).orders = s.orders := rfl
@[simp] theorem setLastCopy_prefixHeld (s : State) (l : Lift) (r : Option ReportFields) : (s.setLastCopy l r).prefixHeld = s.prefixHeld := rfl
@[simp] theorem setLastCopy_params (s : State) (l : Lift) (r : Option ReportFields) : (s.setLastCopy l r).params = s.params := rfl
@[simp] theorem setLastCopy_restart (s : State) (l : Lift) (r : Option ReportFields) : (s.setLastCopy l r).restart = s.restart := rfl
@[simp] theorem setLastCopy_admissionDue (s : State) (l : Lift) (r : Option ReportFields) : (s.setLastCopy l r).admissionDue = s.admissionDue := rfl
@[simp] theorem setLastCopy_freeIndex (s : State) (l : Lift) (r : Option ReportFields) : (s.setLastCopy l r).freeIndex = s.freeIndex := rfl
@[simp] theorem setLastCopy_pending (s : State) (l : Lift) (r : Option ReportFields) : (s.setLastCopy l r).pending = s.pending := rfl

/-! ### atTime -/

@[simp] theorem atTime_laneA (s : State) (t : TimeTag) : (s.atTime t).laneA = s.laneA := rfl
@[simp] theorem atTime_laneB (s : State) (t : TimeTag) : (s.atTime t).laneB = s.laneB := rfl
@[simp] theorem atTime_exchange (s : State) (t : TimeTag) : (s.atTime t).exchange = s.exchange := rfl
@[simp] theorem atTime_allStop (s : State) (t : TimeTag) : (s.atTime t).allStop = s.allStop := rfl
@[simp] theorem atTime_scan (s : State) (t : TimeTag) : (s.atTime t).scan = s.scan := rfl
@[simp] theorem atTime_faultTable (s : State) (t : TimeTag) : (s.atTime t).faultTable = s.faultTable := rfl
@[simp] theorem atTime_lifts (s : State) (t : TimeTag) : (s.atTime t).lifts = s.lifts := rfl
@[simp] theorem atTime_hazard (s : State) (t : TimeTag) : (s.atTime t).hazard = s.hazard := rfl
@[simp] theorem atTime_reservoir (s : State) (t : TimeTag) : (s.atTime t).reservoir = s.reservoir := rfl
@[simp] theorem atTime_outstanding (s : State) (t : TimeTag) : (s.atTime t).outstanding = s.outstanding := rfl
@[simp] theorem atTime_queue (s : State) (t : TimeTag) : (s.atTime t).queue = s.queue := rfl
@[simp] theorem atTime_recipes (s : State) (t : TimeTag) : (s.atTime t).recipes = s.recipes := rfl
@[simp] theorem atTime_orders (s : State) (t : TimeTag) : (s.atTime t).orders = s.orders := rfl
@[simp] theorem atTime_link (s : State) (t : TimeTag) : (s.atTime t).link = s.link := rfl
@[simp] theorem atTime_prefixHeld (s : State) (t : TimeTag) : (s.atTime t).prefixHeld = s.prefixHeld := rfl
@[simp] theorem atTime_params (s : State) (t : TimeTag) : (s.atTime t).params = s.params := rfl
@[simp] theorem atTime_restart (s : State) (t : TimeTag) : (s.atTime t).restart = s.restart := rfl
@[simp] theorem atTime_admissionDue (s : State) (t : TimeTag) : (s.atTime t).admissionDue = s.admissionDue := rfl
@[simp] theorem atTime_freeIndex (s : State) (t : TimeTag) : (s.atTime t).freeIndex = s.freeIndex := rfl
@[simp] theorem atTime_pending (s : State) (t : TimeTag) : (s.atTime t).pending = s.pending := rfl

/-! ### callAdmission -/

@[simp] theorem callAdmission_time (s : State) : (s.callAdmission).time = s.time := rfl
@[simp] theorem callAdmission_laneA (s : State) : (s.callAdmission).laneA = s.laneA := rfl
@[simp] theorem callAdmission_laneB (s : State) : (s.callAdmission).laneB = s.laneB := rfl
@[simp] theorem callAdmission_exchange (s : State) : (s.callAdmission).exchange = s.exchange := rfl
@[simp] theorem callAdmission_allStop (s : State) : (s.callAdmission).allStop = s.allStop := rfl
@[simp] theorem callAdmission_scan (s : State) : (s.callAdmission).scan = s.scan := rfl
@[simp] theorem callAdmission_faultTable (s : State) : (s.callAdmission).faultTable = s.faultTable := rfl
@[simp] theorem callAdmission_lifts (s : State) : (s.callAdmission).lifts = s.lifts := rfl
@[simp] theorem callAdmission_hazard (s : State) : (s.callAdmission).hazard = s.hazard := rfl
@[simp] theorem callAdmission_reservoir (s : State) : (s.callAdmission).reservoir = s.reservoir := rfl
@[simp] theorem callAdmission_outstanding (s : State) : (s.callAdmission).outstanding = s.outstanding := rfl
@[simp] theorem callAdmission_queue (s : State) : (s.callAdmission).queue = s.queue := rfl
@[simp] theorem callAdmission_recipes (s : State) : (s.callAdmission).recipes = s.recipes := rfl
@[simp] theorem callAdmission_orders (s : State) : (s.callAdmission).orders = s.orders := rfl
@[simp] theorem callAdmission_link (s : State) : (s.callAdmission).link = s.link := rfl
@[simp] theorem callAdmission_prefixHeld (s : State) : (s.callAdmission).prefixHeld = s.prefixHeld := rfl
@[simp] theorem callAdmission_params (s : State) : (s.callAdmission).params = s.params := rfl
@[simp] theorem callAdmission_restart (s : State) : (s.callAdmission).restart = s.restart := rfl
@[simp] theorem callAdmission_freeIndex (s : State) : (s.callAdmission).freeIndex = s.freeIndex := rfl
@[simp] theorem callAdmission_pending (s : State) : (s.callAdmission).pending = s.pending := rfl

/-! ### raise -/

@[simp] theorem raise_time (s : State) (n : Nat) (m : Word) : (s.raise n m).time = s.time := rfl
@[simp] theorem raise_laneA (s : State) (n : Nat) (m : Word) : (s.raise n m).laneA = s.laneA := rfl
@[simp] theorem raise_laneB (s : State) (n : Nat) (m : Word) : (s.raise n m).laneB = s.laneB := rfl
@[simp] theorem raise_exchange (s : State) (n : Nat) (m : Word) : (s.raise n m).exchange = s.exchange := rfl
@[simp] theorem raise_allStop (s : State) (n : Nat) (m : Word) : (s.raise n m).allStop = s.allStop := rfl
@[simp] theorem raise_scan (s : State) (n : Nat) (m : Word) : (s.raise n m).scan = s.scan := rfl
@[simp] theorem raise_faultTable (s : State) (n : Nat) (m : Word) : (s.raise n m).faultTable = s.faultTable := rfl
@[simp] theorem raise_lifts (s : State) (n : Nat) (m : Word) : (s.raise n m).lifts = s.lifts := rfl
@[simp] theorem raise_hazard (s : State) (n : Nat) (m : Word) : (s.raise n m).hazard = s.hazard := rfl
@[simp] theorem raise_reservoir (s : State) (n : Nat) (m : Word) : (s.raise n m).reservoir = s.reservoir := rfl
@[simp] theorem raise_outstanding (s : State) (n : Nat) (m : Word) : (s.raise n m).outstanding = s.outstanding := rfl
@[simp] theorem raise_queue (s : State) (n : Nat) (m : Word) : (s.raise n m).queue = s.queue := rfl
@[simp] theorem raise_recipes (s : State) (n : Nat) (m : Word) : (s.raise n m).recipes = s.recipes := rfl
@[simp] theorem raise_orders (s : State) (n : Nat) (m : Word) : (s.raise n m).orders = s.orders := rfl
@[simp] theorem raise_prefixHeld (s : State) (n : Nat) (m : Word) : (s.raise n m).prefixHeld = s.prefixHeld := rfl
@[simp] theorem raise_params (s : State) (n : Nat) (m : Word) : (s.raise n m).params = s.params := rfl
@[simp] theorem raise_restart (s : State) (n : Nat) (m : Word) : (s.raise n m).restart = s.restart := rfl
@[simp] theorem raise_admissionDue (s : State) (n : Nat) (m : Word) : (s.raise n m).admissionDue = s.admissionDue := rfl
@[simp] theorem raise_freeIndex (s : State) (n : Nat) (m : Word) : (s.raise n m).freeIndex = s.freeIndex := rfl
@[simp] theorem raise_pending (s : State) (n : Nat) (m : Word) : (s.raise n m).pending = s.pending := rfl

/-! ### raiseLift -/

@[simp] theorem raiseLift_time (s : State) (l : Lift) (r : LiftReason) : (s.raiseLift l r).time = s.time := rfl
@[simp] theorem raiseLift_laneA (s : State) (l : Lift) (r : LiftReason) : (s.raiseLift l r).laneA = s.laneA := rfl
@[simp] theorem raiseLift_laneB (s : State) (l : Lift) (r : LiftReason) : (s.raiseLift l r).laneB = s.laneB := rfl
@[simp] theorem raiseLift_exchange (s : State) (l : Lift) (r : LiftReason) : (s.raiseLift l r).exchange = s.exchange := rfl
@[simp] theorem raiseLift_allStop (s : State) (l : Lift) (r : LiftReason) : (s.raiseLift l r).allStop = s.allStop := rfl
@[simp] theorem raiseLift_scan (s : State) (l : Lift) (r : LiftReason) : (s.raiseLift l r).scan = s.scan := rfl
@[simp] theorem raiseLift_faultTable (s : State) (l : Lift) (r : LiftReason) : (s.raiseLift l r).faultTable = s.faultTable := rfl
@[simp] theorem raiseLift_lifts (s : State) (l : Lift) (r : LiftReason) : (s.raiseLift l r).lifts = s.lifts := rfl
@[simp] theorem raiseLift_hazard (s : State) (l : Lift) (r : LiftReason) : (s.raiseLift l r).hazard = s.hazard := rfl
@[simp] theorem raiseLift_reservoir (s : State) (l : Lift) (r : LiftReason) : (s.raiseLift l r).reservoir = s.reservoir := rfl
@[simp] theorem raiseLift_outstanding (s : State) (l : Lift) (r : LiftReason) : (s.raiseLift l r).outstanding = s.outstanding := rfl
@[simp] theorem raiseLift_queue (s : State) (l : Lift) (r : LiftReason) : (s.raiseLift l r).queue = s.queue := rfl
@[simp] theorem raiseLift_recipes (s : State) (l : Lift) (r : LiftReason) : (s.raiseLift l r).recipes = s.recipes := rfl
@[simp] theorem raiseLift_orders (s : State) (l : Lift) (r : LiftReason) : (s.raiseLift l r).orders = s.orders := rfl
@[simp] theorem raiseLift_prefixHeld (s : State) (l : Lift) (r : LiftReason) : (s.raiseLift l r).prefixHeld = s.prefixHeld := rfl
@[simp] theorem raiseLift_params (s : State) (l : Lift) (r : LiftReason) : (s.raiseLift l r).params = s.params := rfl
@[simp] theorem raiseLift_restart (s : State) (l : Lift) (r : LiftReason) : (s.raiseLift l r).restart = s.restart := rfl
@[simp] theorem raiseLift_admissionDue (s : State) (l : Lift) (r : LiftReason) : (s.raiseLift l r).admissionDue = s.admissionDue := rfl
@[simp] theorem raiseLift_freeIndex (s : State) (l : Lift) (r : LiftReason) : (s.raiseLift l r).freeIndex = s.freeIndex := rfl
@[simp] theorem raiseLift_pending (s : State) (l : Lift) (r : LiftReason) : (s.raiseLift l r).pending = s.pending := rfl

/-! ### raiseStation -/

@[simp] theorem raiseStation_time (s : State) (r : StationReason) : (s.raiseStation r).time = s.time := rfl
@[simp] theorem raiseStation_laneA (s : State) (r : StationReason) : (s.raiseStation r).laneA = s.laneA := rfl
@[simp] theorem raiseStation_laneB (s : State) (r : StationReason) : (s.raiseStation r).laneB = s.laneB := rfl
@[simp] theorem raiseStation_exchange (s : State) (r : StationReason) : (s.raiseStation r).exchange = s.exchange := rfl
@[simp] theorem raiseStation_allStop (s : State) (r : StationReason) : (s.raiseStation r).allStop = s.allStop := rfl
@[simp] theorem raiseStation_scan (s : State) (r : StationReason) : (s.raiseStation r).scan = s.scan := rfl
@[simp] theorem raiseStation_faultTable (s : State) (r : StationReason) : (s.raiseStation r).faultTable = s.faultTable := rfl
@[simp] theorem raiseStation_lifts (s : State) (r : StationReason) : (s.raiseStation r).lifts = s.lifts := rfl
@[simp] theorem raiseStation_hazard (s : State) (r : StationReason) : (s.raiseStation r).hazard = s.hazard := rfl
@[simp] theorem raiseStation_reservoir (s : State) (r : StationReason) : (s.raiseStation r).reservoir = s.reservoir := rfl
@[simp] theorem raiseStation_outstanding (s : State) (r : StationReason) : (s.raiseStation r).outstanding = s.outstanding := rfl
@[simp] theorem raiseStation_queue (s : State) (r : StationReason) : (s.raiseStation r).queue = s.queue := rfl
@[simp] theorem raiseStation_recipes (s : State) (r : StationReason) : (s.raiseStation r).recipes = s.recipes := rfl
@[simp] theorem raiseStation_orders (s : State) (r : StationReason) : (s.raiseStation r).orders = s.orders := rfl
@[simp] theorem raiseStation_prefixHeld (s : State) (r : StationReason) : (s.raiseStation r).prefixHeld = s.prefixHeld := rfl
@[simp] theorem raiseStation_params (s : State) (r : StationReason) : (s.raiseStation r).params = s.params := rfl
@[simp] theorem raiseStation_restart (s : State) (r : StationReason) : (s.raiseStation r).restart = s.restart := rfl
@[simp] theorem raiseStation_admissionDue (s : State) (r : StationReason) : (s.raiseStation r).admissionDue = s.admissionDue := rfl
@[simp] theorem raiseStation_freeIndex (s : State) (r : StationReason) : (s.raiseStation r).freeIndex = s.freeIndex := rfl
@[simp] theorem raiseStation_pending (s : State) (r : StationReason) : (s.raiseStation r).pending = s.pending := rfl

/-! ### reply -/

@[simp] theorem reply_time (s : State) (st code : Nat) (ws : List Word) : (s.reply st code ws).time = s.time := rfl
@[simp] theorem reply_laneA (s : State) (st code : Nat) (ws : List Word) : (s.reply st code ws).laneA = s.laneA := rfl
@[simp] theorem reply_laneB (s : State) (st code : Nat) (ws : List Word) : (s.reply st code ws).laneB = s.laneB := rfl
@[simp] theorem reply_exchange (s : State) (st code : Nat) (ws : List Word) : (s.reply st code ws).exchange = s.exchange := rfl
@[simp] theorem reply_allStop (s : State) (st code : Nat) (ws : List Word) : (s.reply st code ws).allStop = s.allStop := rfl
@[simp] theorem reply_scan (s : State) (st code : Nat) (ws : List Word) : (s.reply st code ws).scan = s.scan := rfl
@[simp] theorem reply_faultTable (s : State) (st code : Nat) (ws : List Word) : (s.reply st code ws).faultTable = s.faultTable := rfl
@[simp] theorem reply_lifts (s : State) (st code : Nat) (ws : List Word) : (s.reply st code ws).lifts = s.lifts := rfl
@[simp] theorem reply_hazard (s : State) (st code : Nat) (ws : List Word) : (s.reply st code ws).hazard = s.hazard := rfl
@[simp] theorem reply_reservoir (s : State) (st code : Nat) (ws : List Word) : (s.reply st code ws).reservoir = s.reservoir := rfl
@[simp] theorem reply_outstanding (s : State) (st code : Nat) (ws : List Word) : (s.reply st code ws).outstanding = s.outstanding := rfl
@[simp] theorem reply_queue (s : State) (st code : Nat) (ws : List Word) : (s.reply st code ws).queue = s.queue := rfl
@[simp] theorem reply_recipes (s : State) (st code : Nat) (ws : List Word) : (s.reply st code ws).recipes = s.recipes := rfl
@[simp] theorem reply_orders (s : State) (st code : Nat) (ws : List Word) : (s.reply st code ws).orders = s.orders := rfl
@[simp] theorem reply_prefixHeld (s : State) (st code : Nat) (ws : List Word) : (s.reply st code ws).prefixHeld = s.prefixHeld := rfl
@[simp] theorem reply_params (s : State) (st code : Nat) (ws : List Word) : (s.reply st code ws).params = s.params := rfl
@[simp] theorem reply_restart (s : State) (st code : Nat) (ws : List Word) : (s.reply st code ws).restart = s.restart := rfl
@[simp] theorem reply_admissionDue (s : State) (st code : Nat) (ws : List Word) : (s.reply st code ws).admissionDue = s.admissionDue := rfl
@[simp] theorem reply_freeIndex (s : State) (st code : Nat) (ws : List Word) : (s.reply st code ws).freeIndex = s.freeIndex := rfl
@[simp] theorem reply_pending (s : State) (st code : Nat) (ws : List Word) : (s.reply st code ws).pending = s.pending := rfl

/-! ### arrive -/

@[simp] theorem arrive_time (s : State) (t : TimeTag) : (s.arrive t).time = s.time := rfl
@[simp] theorem arrive_laneA (s : State) (t : TimeTag) : (s.arrive t).laneA = s.laneA := rfl
@[simp] theorem arrive_laneB (s : State) (t : TimeTag) : (s.arrive t).laneB = s.laneB := rfl
@[simp] theorem arrive_exchange (s : State) (t : TimeTag) : (s.arrive t).exchange = s.exchange := rfl
@[simp] theorem arrive_allStop (s : State) (t : TimeTag) : (s.arrive t).allStop = s.allStop := rfl
@[simp] theorem arrive_scan (s : State) (t : TimeTag) : (s.arrive t).scan = s.scan := rfl
@[simp] theorem arrive_faultTable (s : State) (t : TimeTag) : (s.arrive t).faultTable = s.faultTable := rfl
@[simp] theorem arrive_lifts (s : State) (t : TimeTag) : (s.arrive t).lifts = s.lifts := rfl
@[simp] theorem arrive_hazard (s : State) (t : TimeTag) : (s.arrive t).hazard = s.hazard := rfl
@[simp] theorem arrive_reservoir (s : State) (t : TimeTag) : (s.arrive t).reservoir = s.reservoir := rfl
@[simp] theorem arrive_outstanding (s : State) (t : TimeTag) : (s.arrive t).outstanding = s.outstanding := rfl
@[simp] theorem arrive_queue (s : State) (t : TimeTag) : (s.arrive t).queue = s.queue := rfl
@[simp] theorem arrive_recipes (s : State) (t : TimeTag) : (s.arrive t).recipes = s.recipes := rfl
@[simp] theorem arrive_orders (s : State) (t : TimeTag) : (s.arrive t).orders = s.orders := rfl
@[simp] theorem arrive_prefixHeld (s : State) (t : TimeTag) : (s.arrive t).prefixHeld = s.prefixHeld := rfl
@[simp] theorem arrive_params (s : State) (t : TimeTag) : (s.arrive t).params = s.params := rfl
@[simp] theorem arrive_restart (s : State) (t : TimeTag) : (s.arrive t).restart = s.restart := rfl
@[simp] theorem arrive_admissionDue (s : State) (t : TimeTag) : (s.arrive t).admissionDue = s.admissionDue := rfl
@[simp] theorem arrive_freeIndex (s : State) (t : TimeTag) : (s.arrive t).freeIndex = s.freeIndex := rfl
@[simp] theorem arrive_pending (s : State) (t : TimeTag) : (s.arrive t).pending = s.pending := rfl

/-! ### endTransmission -/

@[simp] theorem endTransmission_time (s : State) : (s.endTransmission).time = s.time := rfl
@[simp] theorem endTransmission_laneA (s : State) : (s.endTransmission).laneA = s.laneA := rfl
@[simp] theorem endTransmission_laneB (s : State) : (s.endTransmission).laneB = s.laneB := rfl
@[simp] theorem endTransmission_exchange (s : State) : (s.endTransmission).exchange = s.exchange := rfl
@[simp] theorem endTransmission_allStop (s : State) : (s.endTransmission).allStop = s.allStop := rfl
@[simp] theorem endTransmission_scan (s : State) : (s.endTransmission).scan = s.scan := rfl
@[simp] theorem endTransmission_faultTable (s : State) : (s.endTransmission).faultTable = s.faultTable := rfl
@[simp] theorem endTransmission_lifts (s : State) : (s.endTransmission).lifts = s.lifts := rfl
@[simp] theorem endTransmission_hazard (s : State) : (s.endTransmission).hazard = s.hazard := rfl
@[simp] theorem endTransmission_reservoir (s : State) : (s.endTransmission).reservoir = s.reservoir := rfl
@[simp] theorem endTransmission_outstanding (s : State) : (s.endTransmission).outstanding = s.outstanding := rfl
@[simp] theorem endTransmission_queue (s : State) : (s.endTransmission).queue = s.queue := rfl
@[simp] theorem endTransmission_recipes (s : State) : (s.endTransmission).recipes = s.recipes := rfl
@[simp] theorem endTransmission_orders (s : State) : (s.endTransmission).orders = s.orders := rfl
@[simp] theorem endTransmission_prefixHeld (s : State) : (s.endTransmission).prefixHeld = s.prefixHeld := rfl
@[simp] theorem endTransmission_params (s : State) : (s.endTransmission).params = s.params := rfl
@[simp] theorem endTransmission_restart (s : State) : (s.endTransmission).restart = s.restart := rfl
@[simp] theorem endTransmission_admissionDue (s : State) : (s.endTransmission).admissionDue = s.admissionDue := rfl
@[simp] theorem endTransmission_freeIndex (s : State) : (s.endTransmission).freeIndex = s.freeIndex := rfl
@[simp] theorem endTransmission_pending (s : State) : (s.endTransmission).pending = s.pending := rfl

/-! ### setPhase -/

@[simp] theorem setPhase_time (s : State) (p : ScanPhase) : (s.setPhase p).time = s.time := rfl
@[simp] theorem setPhase_laneA (s : State) (p : ScanPhase) : (s.setPhase p).laneA = s.laneA := rfl
@[simp] theorem setPhase_laneB (s : State) (p : ScanPhase) : (s.setPhase p).laneB = s.laneB := rfl
@[simp] theorem setPhase_exchange (s : State) (p : ScanPhase) : (s.setPhase p).exchange = s.exchange := rfl
@[simp] theorem setPhase_allStop (s : State) (p : ScanPhase) : (s.setPhase p).allStop = s.allStop := rfl
@[simp] theorem setPhase_faultTable (s : State) (p : ScanPhase) : (s.setPhase p).faultTable = s.faultTable := rfl
@[simp] theorem setPhase_lifts (s : State) (p : ScanPhase) : (s.setPhase p).lifts = s.lifts := rfl
@[simp] theorem setPhase_hazard (s : State) (p : ScanPhase) : (s.setPhase p).hazard = s.hazard := rfl
@[simp] theorem setPhase_reservoir (s : State) (p : ScanPhase) : (s.setPhase p).reservoir = s.reservoir := rfl
@[simp] theorem setPhase_outstanding (s : State) (p : ScanPhase) : (s.setPhase p).outstanding = s.outstanding := rfl
@[simp] theorem setPhase_queue (s : State) (p : ScanPhase) : (s.setPhase p).queue = s.queue := rfl
@[simp] theorem setPhase_recipes (s : State) (p : ScanPhase) : (s.setPhase p).recipes = s.recipes := rfl
@[simp] theorem setPhase_orders (s : State) (p : ScanPhase) : (s.setPhase p).orders = s.orders := rfl
@[simp] theorem setPhase_link (s : State) (p : ScanPhase) : (s.setPhase p).link = s.link := rfl
@[simp] theorem setPhase_prefixHeld (s : State) (p : ScanPhase) : (s.setPhase p).prefixHeld = s.prefixHeld := rfl
@[simp] theorem setPhase_params (s : State) (p : ScanPhase) : (s.setPhase p).params = s.params := rfl
@[simp] theorem setPhase_restart (s : State) (p : ScanPhase) : (s.setPhase p).restart = s.restart := rfl
@[simp] theorem setPhase_admissionDue (s : State) (p : ScanPhase) : (s.setPhase p).admissionDue = s.admissionDue := rfl
@[simp] theorem setPhase_freeIndex (s : State) (p : ScanPhase) : (s.setPhase p).freeIndex = s.freeIndex := rfl
@[simp] theorem setPhase_pending (s : State) (p : ScanPhase) : (s.setPhase p).pending = s.pending := rfl

/-! ### setPassQueue -/

@[simp] theorem setPassQueue_time (s : State) (q : List RemoteCommand) : (s.setPassQueue q).time = s.time := rfl
@[simp] theorem setPassQueue_laneA (s : State) (q : List RemoteCommand) : (s.setPassQueue q).laneA = s.laneA := rfl
@[simp] theorem setPassQueue_laneB (s : State) (q : List RemoteCommand) : (s.setPassQueue q).laneB = s.laneB := rfl
@[simp] theorem setPassQueue_exchange (s : State) (q : List RemoteCommand) : (s.setPassQueue q).exchange = s.exchange := rfl
@[simp] theorem setPassQueue_allStop (s : State) (q : List RemoteCommand) : (s.setPassQueue q).allStop = s.allStop := rfl
@[simp] theorem setPassQueue_scan (s : State) (q : List RemoteCommand) : (s.setPassQueue q).scan = s.scan := rfl
@[simp] theorem setPassQueue_faultTable (s : State) (q : List RemoteCommand) : (s.setPassQueue q).faultTable = s.faultTable := rfl
@[simp] theorem setPassQueue_lifts (s : State) (q : List RemoteCommand) : (s.setPassQueue q).lifts = s.lifts := rfl
@[simp] theorem setPassQueue_hazard (s : State) (q : List RemoteCommand) : (s.setPassQueue q).hazard = s.hazard := rfl
@[simp] theorem setPassQueue_reservoir (s : State) (q : List RemoteCommand) : (s.setPassQueue q).reservoir = s.reservoir := rfl
@[simp] theorem setPassQueue_outstanding (s : State) (q : List RemoteCommand) : (s.setPassQueue q).outstanding = s.outstanding := rfl
@[simp] theorem setPassQueue_queue (s : State) (q : List RemoteCommand) : (s.setPassQueue q).queue = s.queue := rfl
@[simp] theorem setPassQueue_recipes (s : State) (q : List RemoteCommand) : (s.setPassQueue q).recipes = s.recipes := rfl
@[simp] theorem setPassQueue_link (s : State) (q : List RemoteCommand) : (s.setPassQueue q).link = s.link := rfl
@[simp] theorem setPassQueue_prefixHeld (s : State) (q : List RemoteCommand) : (s.setPassQueue q).prefixHeld = s.prefixHeld := rfl
@[simp] theorem setPassQueue_params (s : State) (q : List RemoteCommand) : (s.setPassQueue q).params = s.params := rfl
@[simp] theorem setPassQueue_restart (s : State) (q : List RemoteCommand) : (s.setPassQueue q).restart = s.restart := rfl
@[simp] theorem setPassQueue_admissionDue (s : State) (q : List RemoteCommand) : (s.setPassQueue q).admissionDue = s.admissionDue := rfl
@[simp] theorem setPassQueue_freeIndex (s : State) (q : List RemoteCommand) : (s.setPassQueue q).freeIndex = s.freeIndex := rfl
@[simp] theorem setPassQueue_pending (s : State) (q : List RemoteCommand) : (s.setPassQueue q).pending = s.pending := rfl

/-! ### postPartStop -/

@[simp] theorem postPartStop_time (s : State) (l : Lift) : (s.postPartStop l).time = s.time := rfl
@[simp] theorem postPartStop_laneA (s : State) (l : Lift) : (s.postPartStop l).laneA = s.laneA := rfl
@[simp] theorem postPartStop_laneB (s : State) (l : Lift) : (s.postPartStop l).laneB = s.laneB := rfl
@[simp] theorem postPartStop_exchange (s : State) (l : Lift) : (s.postPartStop l).exchange = s.exchange := rfl
@[simp] theorem postPartStop_allStop (s : State) (l : Lift) : (s.postPartStop l).allStop = s.allStop := rfl
@[simp] theorem postPartStop_scan (s : State) (l : Lift) : (s.postPartStop l).scan = s.scan := rfl
@[simp] theorem postPartStop_faultTable (s : State) (l : Lift) : (s.postPartStop l).faultTable = s.faultTable := rfl
@[simp] theorem postPartStop_lifts (s : State) (l : Lift) : (s.postPartStop l).lifts = s.lifts := rfl
@[simp] theorem postPartStop_hazard (s : State) (l : Lift) : (s.postPartStop l).hazard = s.hazard := rfl
@[simp] theorem postPartStop_reservoir (s : State) (l : Lift) : (s.postPartStop l).reservoir = s.reservoir := rfl
@[simp] theorem postPartStop_outstanding (s : State) (l : Lift) : (s.postPartStop l).outstanding = s.outstanding := rfl
@[simp] theorem postPartStop_queue (s : State) (l : Lift) : (s.postPartStop l).queue = s.queue := rfl
@[simp] theorem postPartStop_recipes (s : State) (l : Lift) : (s.postPartStop l).recipes = s.recipes := rfl
@[simp] theorem postPartStop_link (s : State) (l : Lift) : (s.postPartStop l).link = s.link := rfl
@[simp] theorem postPartStop_prefixHeld (s : State) (l : Lift) : (s.postPartStop l).prefixHeld = s.prefixHeld := rfl
@[simp] theorem postPartStop_params (s : State) (l : Lift) : (s.postPartStop l).params = s.params := rfl
@[simp] theorem postPartStop_restart (s : State) (l : Lift) : (s.postPartStop l).restart = s.restart := rfl
@[simp] theorem postPartStop_admissionDue (s : State) (l : Lift) : (s.postPartStop l).admissionDue = s.admissionDue := rfl
@[simp] theorem postPartStop_freeIndex (s : State) (l : Lift) : (s.postPartStop l).freeIndex = s.freeIndex := rfl
@[simp] theorem postPartStop_pending (s : State) (l : Lift) : (s.postPartStop l).pending = s.pending := rfl

/-! ### consume -/

@[simp] theorem consume_time (s : State) (r : Request) : (s.consume r).time = s.time := rfl
@[simp] theorem consume_laneA (s : State) (r : Request) : (s.consume r).laneA = s.laneA := rfl
@[simp] theorem consume_laneB (s : State) (r : Request) : (s.consume r).laneB = s.laneB := rfl
@[simp] theorem consume_exchange (s : State) (r : Request) : (s.consume r).exchange = s.exchange := rfl
@[simp] theorem consume_allStop (s : State) (r : Request) : (s.consume r).allStop = s.allStop := rfl
@[simp] theorem consume_scan (s : State) (r : Request) : (s.consume r).scan = s.scan := rfl
@[simp] theorem consume_faultTable (s : State) (r : Request) : (s.consume r).faultTable = s.faultTable := rfl
@[simp] theorem consume_lifts (s : State) (r : Request) : (s.consume r).lifts = s.lifts := rfl
@[simp] theorem consume_hazard (s : State) (r : Request) : (s.consume r).hazard = s.hazard := rfl
@[simp] theorem consume_reservoir (s : State) (r : Request) : (s.consume r).reservoir = s.reservoir := rfl
@[simp] theorem consume_outstanding (s : State) (r : Request) : (s.consume r).outstanding = s.outstanding := rfl
@[simp] theorem consume_queue (s : State) (r : Request) : (s.consume r).queue = s.queue := rfl
@[simp] theorem consume_recipes (s : State) (r : Request) : (s.consume r).recipes = s.recipes := rfl
@[simp] theorem consume_orders (s : State) (r : Request) : (s.consume r).orders = s.orders := rfl
@[simp] theorem consume_link (s : State) (r : Request) : (s.consume r).link = s.link := rfl
@[simp] theorem consume_params (s : State) (r : Request) : (s.consume r).params = s.params := rfl
@[simp] theorem consume_restart (s : State) (r : Request) : (s.consume r).restart = s.restart := rfl
@[simp] theorem consume_admissionDue (s : State) (r : Request) : (s.consume r).admissionDue = s.admissionDue := rfl
@[simp] theorem consume_pending (s : State) (r : Request) : (s.consume r).pending = s.pending := rfl

/-! ### Lift contexts read after an update -/

theorem vector_get_set {α : Type} {n : Nat} (v : Vector α n) (i j : Fin n) (x : α) :
    (v.set i.val x i.isLt).get j = if j = i then x else v.get j := by
  show (v.set i.val x i.isLt)[j.val] = if j = i then x else v[j.val]
  rw [Vector.getElem_set]
  simp only [Fin.ext_iff, eq_comm]

theorem lift_setLift (s : State) (l k : Lift) (c : LiftContext) :
    (s.setLift l c).lift k = if k = l then c else s.lift k := vector_get_set s.lifts l k c

@[simp] theorem lift_setLift_same (s : State) (l : Lift) (c : LiftContext) : (s.setLift l c).lift l = c := by
  simp [lift_setLift]

theorem lift_setLift_other (s : State) {l k : Lift} (c : LiftContext) (h : k ≠ l) : (s.setLift l c).lift k = s.lift k := by
  simp [lift_setLift, h]

theorem lift_modLift (s : State) (l k : Lift) (f : LiftContext → LiftContext) :
    (s.modLift l f).lift k = if k = l then f (s.lift l) else s.lift k := lift_setLift s l k _

@[simp] theorem lift_modLift_same (s : State) (l : Lift) (f : LiftContext → LiftContext) :
    (s.modLift l f).lift l = f (s.lift l) := lift_setLift_same s l _

@[simp] theorem lift_setSlot (s : State) (k : Lift) (o : Option Order) (l : Lift) : (s.setSlot k o).lift l = s.lift l := rfl
@[simp] theorem lift_setLastCopy (s : State) (k : Lift) (r : Option ReportFields) (l : Lift) : (s.setLastCopy k r).lift l = s.lift l := rfl
@[simp] theorem lift_atTime (s : State) (t : TimeTag) (l : Lift) : (s.atTime t).lift l = s.lift l := rfl
@[simp] theorem lift_callAdmission (s : State) (l : Lift) : (s.callAdmission).lift l = s.lift l := rfl
@[simp] theorem lift_raise (s : State) (n : Nat) (m : Word) (l : Lift) : (s.raise n m).lift l = s.lift l := rfl
@[simp] theorem lift_raiseLift (s : State) (k : Lift) (r : LiftReason) (l : Lift) : (s.raiseLift k r).lift l = s.lift l := rfl
@[simp] theorem lift_raiseStation (s : State) (r : StationReason) (l : Lift) : (s.raiseStation r).lift l = s.lift l := rfl
@[simp] theorem lift_reply (s : State) (st code : Nat) (ws : List Word) (l : Lift) : (s.reply st code ws).lift l = s.lift l := rfl
@[simp] theorem lift_arrive (s : State) (t : TimeTag) (l : Lift) : (s.arrive t).lift l = s.lift l := rfl
@[simp] theorem lift_endTransmission (s : State) (l : Lift) : (s.endTransmission).lift l = s.lift l := rfl
@[simp] theorem lift_setPhase (s : State) (p : ScanPhase) (l : Lift) : (s.setPhase p).lift l = s.lift l := rfl
@[simp] theorem lift_setPassQueue (s : State) (q : List RemoteCommand) (l : Lift) : (s.setPassQueue q).lift l = s.lift l := rfl
@[simp] theorem lift_postPartStop (s : State) (k : Lift) (l : Lift) : (s.postPartStop k).lift l = s.lift l := rfl
@[simp] theorem lift_consume (s : State) (r : Request) (l : Lift) : (s.consume r).lift l = s.lift l := rfl

/-! ### Order slots read after an update -/

theorem slot_setSlot (s : State) (l k : Lift) (o : Option Order) :
    (s.setSlot l o).slot k = if k = l then o else s.slot k := vector_get_set s.orders.slots l k o

@[simp] theorem slot_setSlot_same (s : State) (l : Lift) (o : Option Order) : (s.setSlot l o).slot l = o := by
  simp [slot_setSlot]

@[simp] theorem slot_setLift (s : State) (k : Lift) (c : LiftContext) (l : Lift) : (s.setLift k c).slot l = s.slot l := rfl
@[simp] theorem slot_modLift (s : State) (k : Lift) (f : LiftContext → LiftContext) (l : Lift) : (s.modLift k f).slot l = s.slot l := rfl
@[simp] theorem slot_setLastCopy (s : State) (k : Lift) (r : Option ReportFields) (l : Lift) : (s.setLastCopy k r).slot l = s.slot l := rfl
@[simp] theorem slot_atTime (s : State) (t : TimeTag) (l : Lift) : (s.atTime t).slot l = s.slot l := rfl
@[simp] theorem slot_callAdmission (s : State) (l : Lift) : (s.callAdmission).slot l = s.slot l := rfl
@[simp] theorem slot_raise (s : State) (n : Nat) (m : Word) (l : Lift) : (s.raise n m).slot l = s.slot l := rfl
@[simp] theorem slot_raiseLift (s : State) (k : Lift) (r : LiftReason) (l : Lift) : (s.raiseLift k r).slot l = s.slot l := rfl
@[simp] theorem slot_raiseStation (s : State) (r : StationReason) (l : Lift) : (s.raiseStation r).slot l = s.slot l := rfl
@[simp] theorem slot_reply (s : State) (st code : Nat) (ws : List Word) (l : Lift) : (s.reply st code ws).slot l = s.slot l := rfl
@[simp] theorem slot_arrive (s : State) (t : TimeTag) (l : Lift) : (s.arrive t).slot l = s.slot l := rfl
@[simp] theorem slot_endTransmission (s : State) (l : Lift) : (s.endTransmission).slot l = s.slot l := rfl
@[simp] theorem slot_setPhase (s : State) (p : ScanPhase) (l : Lift) : (s.setPhase p).slot l = s.slot l := rfl
@[simp] theorem slot_setPassQueue (s : State) (q : List RemoteCommand) (l : Lift) : (s.setPassQueue q).slot l = s.slot l := rfl
@[simp] theorem slot_consume (s : State) (r : Request) (l : Lift) : (s.consume r).slot l = s.slot l := rfl

/-! ### A poll abandoned -/

/-- Everything `abandon` can do: nothing, or it makes the job of the exchange in flight an abandoned poll. -/
theorem abandon_cases (p : ScanPhase) (l : Lift) :
    p.abandon l = p ∨ ∃ start gap job, p = .working start gap job ∧ p.abandon l = .working start gap .abandoned := by
  unfold ScanPhase.abandon
  split
  next start gap d asked left =>
    split
    · exact .inr ⟨start, gap, _, rfl, rfl⟩
    · exact .inl rfl
  next start gap d first =>
    split
    · exact .inr ⟨start, gap, _, rfl, rfl⟩
    · exact .inl rfl
  · exact .inl rfl

@[simp] theorem lift_abandonPoll (s : State) (k l : Lift) : (s.abandonPoll k).lift l = s.lift l := rfl
@[simp] theorem slot_abandonPoll (s : State) (k l : Lift) : (s.abandonPoll k).slot l = s.slot l := rfl

/-! ### What an update sets -/

@[simp] theorem atTime_time (s : State) (t : TimeTag) : (s.atTime t).time = t := rfl
@[simp] theorem callAdmission_admissionDue (s : State) : s.callAdmission.admissionDue = true := rfl
@[simp] theorem setPhase_phase (s : State) (p : ScanPhase) : (s.setPhase p).scan.phase = p := rfl
@[simp] theorem arrive_lastArrival (s : State) (t : TimeTag) : (s.arrive t).link.lastArrival = t := rfl
@[simp] theorem arrive_isolated (s : State) (t : TimeTag) : (s.arrive t).link.isolated = false := rfl
@[simp] theorem endTransmission_transmitting (s : State) : s.endTransmission.link.transmitting = none := rfl
@[simp] theorem reply_mgmtReplies (s : State) (st code : Nat) (ws : List Word) :
    (s.reply st code ws).link.mgmtReplies = s.link.mgmtReplies ++ [replyFrame st code ws] := rfl
@[simp] theorem raise_notices (s : State) (n : Nat) (m : Word) :
    (s.raise n m).link.notices = raiseIn n m s.link.notices := rfl
@[simp] theorem consume_prefixHeld (s : State) (r : Request) : (s.consume r).prefixHeld = none := rfl

end Sys2Proof.Machine
end

