-- ==== Sys2Proof/Laws/RescueFrame.lean ====
section
/-! SUPPORT. What the lift contexts' own machinery can touch: planning, queueing, rescue states, executions, grants. Each
operation changes at most the runtime fields of lift contexts, the queue, the outstanding reservation, order slots, the
notice pending list, creep seen and the model's own counters. -/

namespace Sys2Proof.Machine

/-- `u` differs from `s` in what the rescue machinery may touch only. -/
structure RescueFrame (s u : State) : Prop where
  time       : u.time = s.time
  laneA      : u.laneA = s.laneA
  laneB      : u.laneB = s.laneB
  exchange   : u.exchange = s.exchange
  allStop    : u.allStop = s.allStop
  scan       : u.scan = { s.scan with creepSeen := u.scan.creepSeen }
  faultTable : u.faultTable = s.faultTable
  hazard     : u.hazard = s.hazard
  reservoir  : u.reservoir = s.reservoir
  recipes    : u.recipes = s.recipes
  orders     : u.orders = { s.orders with slots := u.orders.slots }
  link       : u.link = { s.link with notices := u.link.notices }
  prefixHeld : u.prefixHeld = s.prefixHeld
  params     : u.params = s.params
  restart    : u.restart = s.restart
  pending    : u.pending = s.pending
  entry      : ∀ l : Lift, (u.lift l).entry = (s.lift l).entry
  landings   : ∀ l : Lift, (u.lift l).landings = (s.lift l).landings

namespace RescueFrame

theorem refl (s : State) : RescueFrame s s := by constructor <;> intros <;> rfl

theorem trans {s u v : State} (h : RescueFrame s u) (k : RescueFrame u v) : RescueFrame s v where
  time := k.time.trans h.time
  laneA := k.laneA.trans h.laneA
  laneB := k.laneB.trans h.laneB
  exchange := k.exchange.trans h.exchange
  allStop := k.allStop.trans h.allStop
  scan := by rw [k.scan, h.scan]
  faultTable := k.faultTable.trans h.faultTable
  hazard := k.hazard.trans h.hazard
  reservoir := k.reservoir.trans h.reservoir
  recipes := k.recipes.trans h.recipes
  orders := by rw [k.orders, h.orders]
  link := by rw [k.link, h.link]
  prefixHeld := k.prefixHeld.trans h.prefixHeld
  params := k.params.trans h.params
  restart := k.restart.trans h.restart
  pending := k.pending.trans h.pending
  entry l := (k.entry l).trans (h.entry l)
  landings l := (k.landings l).trans (h.landings l)

end RescueFrame

/-! ### Plain updates -/

/-- A change of one lift context that keeps its configuration. -/
theorem modLift_rescueFrame (s : State) (l : Lift) (f : LiftContext → LiftContext)
    (h : (f (s.lift l)).entry = (s.lift l).entry ∧ (f (s.lift l)).landings = (s.lift l).landings) :
    RescueFrame s (s.modLift l f) := by
  constructor <;> intros <;> first | rfl | (rw [lift_modLift]; split <;> simp_all)

theorem setSlot_rescueFrame (s : State) (l : Lift) (o : Option Order) : RescueFrame s (s.setSlot l o) := by
  constructor <;> intros <;> rfl

theorem raise_rescueFrame (s : State) (n : Nat) (m : Word) : RescueFrame s (s.raise n m) := by
  constructor <;> intros <;> rfl

theorem raiseLift_rescueFrame (s : State) (l : Lift) (r : LiftReason) : RescueFrame s (s.raiseLift l r) :=
  raise_rescueFrame s _ _

theorem callAdmission_rescueFrame (s : State) : RescueFrame s s.callAdmission := by constructor <;> intros <;> rfl

theorem queue_rescueFrame (s : State) (q : List Lift) : RescueFrame s { s with queue := q } := by
  constructor <;> intros <;> rfl

theorem outstanding_rescueFrame (s : State) (n : Nat) : RescueFrame s { s with outstanding := n } := by
  constructor <;> intros <;> rfl

theorem freeIndex_rescueFrame (s : State) (n : Nat) : RescueFrame s { s with freeIndex := n } := by
  constructor <;> intros <;> rfl

theorem creepSeen_rescueFrame (s : State) (b : Bool) :
    RescueFrame s { s with scan := { s.scan with creepSeen := b } } := by
  constructor <;> intros <;> rfl

theorem admissionDue_rescueFrame (s : State) (b : Bool) : RescueFrame s { s with admissionDue := b } := by
  constructor <;> intros <;> rfl

/-- A fold of steps that each keep the frame keeps it. -/
theorem foldl_rescueFrame {α : Type} (f : State → α → State) (h : ∀ s a, RescueFrame s (f s a)) (xs : List α)
    (s : State) : RescueFrame s (xs.foldl f s) := by
  induction xs generalizing s with
  | nil => exact .refl s
  | cons x xs ih => exact (h s x).trans (ih (f s x))

/-! ### Rescue states, queue, plans -/

theorem enter_rescueFrame (s : State) (l : Lift) (st : RescueState) : RescueFrame s (s.enter l st) := by
  unfold State.enter
  split
  · exact .refl s
  · exact (modLift_rescueFrame s l _ ⟨rfl, rfl⟩).trans (raiseLift_rescueFrame _ _ _)

theorem enqueue_rescueFrame (s : State) (l : Lift) : RescueFrame s (s.enqueue l) := queue_rescueFrame s _

theorem dequeue_rescueFrame (s : State) (l : Lift) : RescueFrame s (s.dequeue l) :=
  (modLift_rescueFrame s l _ ⟨rfl, rfl⟩).trans (queue_rescueFrame _ _)

theorem leaveQueue_rescueFrame (s : State) (l : Lift) : RescueFrame s (s.leaveQueue l) := by
  unfold State.leaveQueue
  split
  · exact (dequeue_rescueFrame s l).trans (callAdmission_rescueFrame _)
  · exact .refl s

theorem writePlan_rescueFrame (s : State) (l : Lift) (now : TimeTag) (p : Plan) :
    RescueFrame s (s.writePlan l now p) := by
  have h := (modLift_rescueFrame s l
    (fun c => { c with trappedMinutes := trappedAt now c.stallSince c.trappedMinutes, plan := some p })
    ⟨rfl, rfl⟩).trans (freeIndex_rescueFrame _ (s.freeIndex + 1))
  unfold State.writePlan
  dsimp only
  split
  · exact h.trans (raiseLift_rescueFrame _ _ _)
  · exact h

theorem runPlanner_rescueFrame (s : State) (l : Lift) (now : TimeTag) : RescueFrame s (s.runPlanner l now) :=
  writePlan_rescueFrame s l now _

theorem runDirected_rescueFrame (s : State) (l : Lift) (now : TimeTag) (m : Mode) (d : Direction) :
    RescueFrame s (s.runDirected l now m d) := writePlan_rescueFrame s l now _

theorem enterNormal_rescueFrame (s : State) (l : Lift) : RescueFrame s (s.enterNormal l) :=
  ((leaveQueue_rescueFrame s l).trans (modLift_rescueFrame _ l _ ⟨rfl, rfl⟩)).trans (enter_rescueFrame _ _ _)

theorem enterManual_rescueFrame (s : State) (l : Lift) (why : ManualReason) : RescueFrame s (s.enterManual l why) :=
  ((leaveQueue_rescueFrame s l).trans (modLift_rescueFrame _ l _ ⟨rfl, rfl⟩)).trans (enter_rescueFrame _ _ _)

theorem enterQueued_rescueFrame (s : State) (l : Lift) (now : TimeTag) : RescueFrame s (s.enterQueued l now) :=
  (((modLift_rescueFrame s l _ ⟨rfl, rfl⟩).trans (enter_rescueFrame _ _ _)).trans (enqueue_rescueFrame _ _)).trans
    (callAdmission_rescueFrame _)

theorem planStalled_rescueFrame (s : State) (l : Lift) (now : TimeTag) : RescueFrame s (s.planStalled l now) := by
  have h := runPlanner_rescueFrame s l now
  unfold State.planStalled
  dsimp only
  split
  · exact h
  · split
    · exact h.trans (enterQueued_rescueFrame _ _ _)
    · exact h.trans (enterManual_rescueFrame _ _ _)

theorem evaluateStalled_rescueFrame (s : State) (l : Lift) (now : TimeTag) :
    RescueFrame s (s.evaluateStalled l now) := by
  unfold State.evaluateStalled
  split
  · split
    · exact enterNormal_rescueFrame _ _
    · split
      · exact enterManual_rescueFrame _ _ _
      · exact planStalled_rescueFrame _ _ _
  · exact planStalled_rescueFrame _ _ _

theorem enterStalled_rescueFrame (s : State) (l : Lift) (now : TimeTag) : RescueFrame s (s.enterStalled l now) :=
  (enter_rescueFrame s l _).trans (evaluateStalled_rescueFrame _ _ _)

theorem replanQueued_rescueFrame (s : State) (l : Lift) (now : TimeTag) : RescueFrame s (s.replanQueued l now) := by
  have h := runPlanner_rescueFrame s l now
  unfold State.replanQueued
  dsimp only
  split
  · exact h.trans (enterManual_rescueFrame _ _ _)
  · split
    · exact h
    · exact (h.trans (enqueue_rescueFrame _ _)).trans (callAdmission_rescueFrame _)

theorem enterReleased_rescueFrame (s : State) (l : Lift) : RescueFrame s (s.enterReleased l) := by
  have h := (modLift_rescueFrame s l (fun c => { c with rescue := none }) ⟨rfl, rfl⟩).trans
    (enter_rescueFrame _ l .released)
  unfold State.enterReleased
  dsimp only
  split
  · exact h.trans (raiseLift_rescueFrame _ _ _)
  · exact h

/-! ### Executions -/

theorem post_rescueFrame (s : State) (l : Lift) (k : OrderKind) (p : Poster) (n : Nat) :
    RescueFrame s (s.post l k p n).1 := by
  unfold State.post
  split
  · split
    · exact .refl s
    · exact setSlot_rescueFrame _ _ _
  · exact setSlot_rescueFrame _ _ _

theorem postPartStop_rescueFrame (s : State) (l : Lift) : RescueFrame s (s.postPartStop l) := setSlot_rescueFrame _ _ _

theorem modRescue_rescueFrame (s : State) (l : Lift) (f : RescueRecord → RescueRecord) :
    RescueFrame s (s.modRescue l f) := modLift_rescueFrame s l _ ⟨rfl, rfl⟩

theorem modCreep_rescueFrame (s : State) (l : Lift) (f : CreepWork → CreepWork) :
    RescueFrame s (s.modCreep l f) := modRescue_rescueFrame s l _

theorem releaseCreep_rescueFrame (s : State) (l : Lift) : RescueFrame s (s.releaseCreep l) := by
  unfold State.releaseCreep
  split
  · split
    · exact .refl s
    · exact ((modRescue_rescueFrame s l _).trans (outstanding_rescueFrame _ _)).trans (callAdmission_rescueFrame _)
  · exact .refl s

theorem dropExecution_rescueFrame (s : State) (l : Lift) : RescueFrame s (s.dropExecution l) := by
  unfold State.dropExecution
  split
  next r _ =>
    have h := (modLift_rescueFrame s l (fun c => { c with rescue := none }) ⟨rfl, rfl⟩).trans
      (outstanding_rescueFrame _ (s.outstanding - r.held))
    dsimp only
    split
    · exact h.trans (setSlot_rescueFrame _ _ _)
    · exact h
  · exact .refl s

theorem endRetry_rescueFrame (s : State) (l : Lift) (now : TimeTag) : RescueFrame s (s.endRetry l now) := by
  unfold State.endRetry
  split
  · exact (modLift_rescueFrame s l _ ⟨rfl, rfl⟩).trans (enterStalled_rescueFrame _ _ _)
  · exact enterManual_rescueFrame _ _ _

theorem endExecution_rescueFrame (s : State) (l : Lift) (why : Ending) (now : TimeTag) :
    RescueFrame s (s.endExecution l why now) := by
  have h := dropExecution_rescueFrame s l
  unfold State.endExecution
  refine RescueFrame.trans ?_ (callAdmission_rescueFrame _)
  cases why with
  | reached outcome =>
    dsimp only
    split
    · split
      · exact h.trans (enterManual_rescueFrame _ _ _)
      · cases outcome
        · exact h.trans (enterReleased_rescueFrame _ _)
        · exact h.trans (endRetry_rescueFrame _ _ _)
        · exact h.trans (enterManual_rescueFrame _ _ _)
    · cases outcome
      · exact h.trans (enterReleased_rescueFrame _ _)
      · exact h.trans (endRetry_rescueFrame _ _ _)
      · exact h.trans (enterManual_rescueFrame _ _ _)
  | stepLimit => exact h.trans (enterManual_rescueFrame _ _ _)
  | safety => exact (h.trans (postPartStop_rescueFrame _ _)).trans (enterManual_rescueFrame _ _ _)
  | lostContact => exact (h.trans (setSlot_rescueFrame _ _ _)).trans (enterManual_rescueFrame _ _ _)

theorem withdrawOwn_rescueFrame (s : State) (l : Lift) : RescueFrame s (s.withdrawOwn l) := by
  unfold State.withdrawOwn
  split
  · split
    · exact setSlot_rescueFrame _ _ _
    · exact .refl s
  · exact .refl s

theorem closeStep_rescueFrame (s : State) (l : Lift) (sr : StepRecord) (ok : Bool) :
    RescueFrame s (s.closeStep l sr ok) := by
  unfold State.closeStep
  extract_lets a b c
  have h1 : RescueFrame s a := by
    unfold a
    split
    · exact withdrawOwn_rescueFrame s l
    · exact .refl s
  have h2 : RescueFrame a b := by
    unfold b
    split
    · exact releaseCreep_rescueFrame a l
    · exact .refl a
  have h3 : RescueFrame b c := by
    unfold c
    split
    · exact raiseLift_rescueFrame _ _ _
    · exact .refl b
  exact ((h1.trans h2).trans h3).trans (modRescue_rescueFrame _ _ _)

theorem leaveStep_rescueFrame (s : State) (l : Lift) (sr : StepRecord) (ok : Bool) :
    RescueFrame s (s.leaveStep l sr ok).1 := by
  have h := closeStep_rescueFrame s l sr ok
  unfold State.leaveStep
  dsimp only
  split
  · split
    · exact h.trans (modRescue_rescueFrame _ _ _)
    · exact h
  · simpa using h

theorem enterOrder_rescueFrame (s : State) (l : Lift) (sr : StepRecord) (k : StepOrder) (m : Nat) :
    RescueFrame s (s.enterOrder l sr k m).1 := by
  unfold State.enterOrder
  split
  · exact leaveStep_rescueFrame _ _ _ _
  · dsimp only
    split
    · exact post_rescueFrame _ _ _ _ _
    · exact (post_rescueFrame _ _ _ _ _).trans (leaveStep_rescueFrame _ _ _ _)

theorem enterCreep_rescueFrame (s : State) (l : Lift) (sr : StepRecord) (now : TimeTag) :
    RescueFrame s (s.enterCreep l sr now).1 := by
  unfold State.enterCreep
  have h := (creepSeen_rescueFrame s (s.scan.creepSeen || s.scan.running)).trans (runPlanner_rescueFrame _ l now)
  dsimp only
  split
  · exact h.trans (leaveStep_rescueFrame _ _ _ _)
  · exact h.trans (leaveStep_rescueFrame _ _ _ _)
  · split
    · exact (h.trans (post_rescueFrame _ _ _ _ _)).trans (modRescue_rescueFrame _ _ _)
    · exact (h.trans (post_rescueFrame _ _ _ _ _)).trans (leaveStep_rescueFrame _ _ _ _)

theorem enterCall_rescueFrame (s : State) (l : Lift) (sr : StepRecord) (r : RescueRecord) (t : Nat) :
    RescueFrame s (s.enterCall l sr r t).1 := by
  unfold State.enterCall
  split
  · exact (modRescue_rescueFrame _ _ _).trans (closeStep_rescueFrame _ _ _ _)
  · exact closeStep_rescueFrame _ _ _ _

theorem enterReturn_rescueFrame (s : State) (l : Lift) (sr : StepRecord) (r : RescueRecord) :
    RescueFrame s (s.enterReturn l sr r).1 := by
  unfold State.enterReturn
  split
  · exact (modRescue_rescueFrame _ _ _).trans (closeStep_rescueFrame _ _ _ _)
  · exact closeStep_rescueFrame _ _ _ _

theorem enterOnce_rescueFrame (s : State) (l : Lift) (i : Nat) (now : TimeTag) :
    RescueFrame s (s.enterOnce l i now).1 := by
  unfold State.enterOnce
  split
  · exact .refl s
  · split
    · exact endExecution_rescueFrame s l .stepLimit now
    · have h := modRescue_rescueFrame s l
      dsimp only
      split
      · exact h _
      · exact h _
      · exact (h _).trans (enterOrder_rescueFrame _ _ _ _ _)
      · exact (h _).trans (enterCreep_rescueFrame _ _ _ _)
      · exact (h _).trans (enterCall_rescueFrame _ _ _ _ _)
      · exact (h _).trans (enterReturn_rescueFrame _ _ _ _)
      · exact (h _).trans (endExecution_rescueFrame _ l (.reached _) now)

theorem runEntries_rescueFrame (n : Nat) (s : State) (l : Lift) (i : Nat) (now : TimeTag) :
    RescueFrame s (State.runEntries n s l i now) := by
  induction n generalizing s i with
  | zero => exact .refl s
  | succ n ih =>
    have h := enterOnce_rescueFrame s l i now
    unfold State.runEntries
    split
    next e => rw [e] at h; exact h
    next e => rw [e] at h; exact h.trans (ih _ _)

theorem startStep_rescueFrame (s : State) (l : Lift) (i : Nat) (now : TimeTag) :
    RescueFrame s (s.startStep l i now) := runEntries_rescueFrame _ s l i now

theorem endStep_rescueFrame (s : State) (l : Lift) (ok : Bool) (now : TimeTag) : RescueFrame s (s.endStep l ok now) := by
  unfold State.endStep
  split
  · exact (leaveStep_rescueFrame _ _ _ _).trans (startStep_rescueFrame _ _ _ _)
  · exact .refl s

theorem renewCreep_rescueFrame (s : State) (l : Lift) (now : TimeTag) : RescueFrame s (s.renewCreep l now) := by
  unfold State.renewCreep
  split
  · dsimp only
    split
    · exact post_rescueFrame _ _ _ _ _
    · exact (post_rescueFrame _ _ _ _ _).trans (endStep_rescueFrame _ _ _ _)
  · exact .refl s

theorem orderLanding_rescueFrame (s : State) (l : Lift) (i : Nat) (now : TimeTag) :
    RescueFrame s (s.orderLanding l i now) := (modCreep_rescueFrame _ _ _).trans (renewCreep_rescueFrame _ _ _)

theorem creepReport_rescueFrame (s : State) (l : Lift) (r : Report) (now : TimeTag) :
    RescueFrame s (s.creepReport l r now) := by
  unfold State.creepReport
  split
  · exact .refl s
  · split
    · exact endStep_rescueFrame _ _ _ _
    · extract_lets progress a inMarker
      have h : RescueFrame s a := modRescue_rescueFrame _ _ _
      clear_value a inMarker
      split
      · split
        · exact h.trans (orderLanding_rescueFrame _ _ _ _)
        · exact h
      · exact h

theorem stepReport_rescueFrame (s : State) (l : Lift) (r : Report) (now : TimeTag) :
    RescueFrame s (s.stepReport l r now) := by
  unfold State.stepReport
  split
  · exact .refl s
  · split
    · extract_lets repeats a
      have h : RescueFrame s a := modRescue_rescueFrame _ _ _
      clear_value a
      split
      · exact h.trans (endStep_rescueFrame _ _ _ _)
      · exact h
    · exact creepReport_rescueFrame _ _ _ _
    · exact .refl s

theorem replanRescuing_rescueFrame (s : State) (l : Lift) (now : TimeTag) :
    RescueFrame s (s.replanRescuing l now) := by
  unfold State.replanRescuing
  split
  next w p rr _ _ _ =>
    have h := runDirected_rescueFrame s l now p.mode p.direction
    dsimp only
    split <;> split <;>
      first
      | exact .refl s
      | (repeat' split) <;>
        first
        | exact h.trans (orderLanding_rescueFrame _ _ _ _)
        | exact h.trans (endStep_rescueFrame _ _ _ _)
  · exact .refl s

theorem deliver_rescueFrame (s : State) (l : Lift) (p : Poster) (a : Bool) (now : TimeTag) :
    RescueFrame s (s.deliver l p a now) := by
  unfold State.deliver
  repeat' split
  all_goals first | exact .refl s | exact endStep_rescueFrame _ _ _ _ | exact modCreep_rescueFrame _ _ _

theorem expireStep_rescueFrame (s : State) (l : Lift) (now : TimeTag) : RescueFrame s (s.expireStep l now) := by
  unfold State.expireStep
  repeat' split
  all_goals first | exact .refl s | exact endStep_rescueFrame _ _ _ _

theorem abortNow_rescueFrame (s : State) (l : Lift) (now : TimeTag) : RescueFrame s (s.abortNow l now) := by
  unfold State.abortNow
  have h := modRescue_rescueFrame s l fun r => { r with abortPending := true }
  generalize (s.modRescue l fun r => { r with abortPending := true }) = a at h
  dsimp only
  have k : RescueFrame a (if a.inCreep l then a.releaseCreep l else a) := by
    split
    · exact releaseCreep_rescueFrame _ _
    · exact .refl a
  exact (((h.trans k).trans (postPartStop_rescueFrame _ l)).trans (modRescue_rescueFrame _ l _)).trans
    (startStep_rescueFrame _ _ _ _)

theorem abortExecution_rescueFrame (s : State) (l : Lift) (now : TimeTag) :
    RescueFrame s (s.abortExecution l now) := by
  unfold State.abortExecution
  repeat' split
  all_goals
    first
    | exact .refl s
    | exact abortNow_rescueFrame _ _ _
    | exact ((modRescue_rescueFrame _ _ _).trans (modCreep_rescueFrame _ _ _)).trans (orderLanding_rescueFrame _ _ _ _)

/-! ### Admission -/

theorem raiseBypass_rescueFrame (s : State) (l : Lift) : RescueFrame s (s.raiseBypass l) :=
  modLift_rescueFrame s l _ ⟨rfl, rfl⟩

theorem beginRescue_rescueFrame (s : State) (l : Lift) (passed : List Lift) : RescueFrame s (s.beginRescue l passed) :=
  ((((dequeue_rescueFrame s l).trans (foldl_rescueFrame State.raiseBypass raiseBypass_rescueFrame passed _)).trans
    (modLift_rescueFrame _ l _ ⟨rfl, rfl⟩)).trans (outstanding_rescueFrame _ _)).trans (enter_rescueFrame _ _ _)

theorem grant_rescueFrame (s : State) (l : Lift) (passed : List Lift) (now : TimeTag) :
    RescueFrame s (s.grant l passed now) := (beginRescue_rescueFrame s l passed).trans (startStep_rescueFrame _ _ _ _)

theorem walks_rescueFrame (n : Nat) (s : State) (now : TimeTag) : RescueFrame s (State.walks n s now) := by
  induction n generalizing s with
  | zero => exact .refl s
  | succ n ih =>
    unfold State.walks
    split
    · split
      · exact (grant_rescueFrame _ _ _ _).trans (ih _)
      · exact .refl s
    · exact .refl s

/-- An admission evaluation touches what the rescue machinery may touch, and leaves no evaluation owing. -/
theorem evaluateAdmission_rescueFrame (s : State) (now : TimeTag) :
    RescueFrame s (s.evaluateAdmission now) ∧ (s.evaluateAdmission now).admissionDue = false :=
  ⟨(walks_rescueFrame _ s now).trans (admissionDue_rescueFrame _ _), rfl⟩

theorem settle_rescueFrame (s : State) (now : TimeTag) : RescueFrame s (s.settle now) := by
  unfold State.settle
  split
  · exact (evaluateAdmission_rescueFrame s now).1
  · exact .refl s

@[simp] theorem settle_admissionDue (s : State) (now : TimeTag) : (s.settle now).admissionDue = false := by
  unfold State.settle
  split
  · rfl
  · exact Bool.eq_false_iff.mpr ‹_›

theorem settle_of_not_due (s : State) (now : TimeTag) (h : s.admissionDue = false) : s.settle now = s := by
  simp [State.settle, h]

end Sys2Proof.Machine
end

