-- ==== Sys2Proof/Laws/Intake.lean ====
section
/-! SUPPORT. What a report, an unanswered poll and the replans of a hazard report can touch. -/

namespace Sys2Proof.Machine

theorem confirmStall_rescueFrame (s : State) (l : Lift) (now : TimeTag) : RescueFrame s (s.confirmStall l now) :=
  (modLift_rescueFrame s l _ ⟨rfl, rfl⟩).trans (enterStalled_rescueFrame _ _ _)

theorem debounce_rescueFrame (s : State) (l : Lift) (n : Nat) (now : TimeTag) : RescueFrame s (s.debounce l n now) := by
  have h := modLift_rescueFrame s l (fun c => { c with suspectCount := n }) ⟨rfl, rfl⟩
  unfold State.debounce
  dsimp only
  split
  · exact h.trans (confirmStall_rescueFrame _ _ _)
  · exact h.trans (enter_rescueFrame _ _ _)

theorem reportNormal_rescueFrame (s : State) (l : Lift) (v : Verdict) (now : TimeTag) :
    RescueFrame s (s.reportNormal l v now) := by
  unfold State.reportNormal
  split
  · exact debounce_rescueFrame _ _ _ _
  · exact .refl s

theorem reportSuspect_rescueFrame (s : State) (l : Lift) (v : Verdict) (now : TimeTag) :
    RescueFrame s (s.reportSuspect l v now) := by
  unfold State.reportSuspect
  split
  · exact debounce_rescueFrame _ _ _ _
  · exact enterNormal_rescueFrame _ _

theorem reportQueued_rescueFrame (s : State) (l : Lift) (v : Verdict) (now : TimeTag) :
    RescueFrame s (s.reportQueued l v now) := by
  unfold State.reportQueued
  split
  · exact enterNormal_rescueFrame _ _
  · split
    · exact enterManual_rescueFrame _ _ _
    · exact replanQueued_rescueFrame _ _ _

theorem reportRescuing_rescueFrame (s : State) (l : Lift) (v : Verdict) (r : Report) (now : TimeTag) :
    RescueFrame s (s.reportRescuing l v r now) := by
  unfold State.reportRescuing
  split
  · exact endExecution_rescueFrame _ _ _ _
  · exact stepReport_rescueFrame _ _ _ _

theorem reportReleased_rescueFrame (s : State) (l : Lift) (v : Verdict) (r : Report) (b : Option Nat) :
    RescueFrame s (s.reportReleased l v r b) := by
  unfold State.reportReleased
  extract_lets a
  have h : RescueFrame s a := by
    unfold a
    split
    · exact raiseLift_rescueFrame _ _ _
    · exact .refl s
  split
  · exact h.trans (enterNormal_rescueFrame _ _)
  · exact h

theorem reportManual_rescueFrame (s : State) (l : Lift) (v : Verdict) (r : Report) :
    RescueFrame s (s.reportManual l v r) := by
  unfold State.reportManual
  split
  · exact enterNormal_rescueFrame _ _
  · exact .refl s

theorem reportOffline_rescueFrame (s : State) (l : Lift) (v : Verdict) (r : Report) (b : Option Nat) (now : TimeTag) :
    RescueFrame s (s.reportOffline l v r b now) := by
  unfold State.reportOffline
  extract_lets was a
  have h : RescueFrame s a := modLift_rescueFrame _ _ _ ⟨rfl, rfl⟩
  clear_value was a
  split
  · exact (h.trans (enter_rescueFrame _ _ _)).trans (reportManual_rescueFrame _ _ _ _)
  · exact (h.trans (enter_rescueFrame _ _ _)).trans (reportReleased_rescueFrame _ _ _ _ _)
  · split
    · exact h.trans (enterStalled_rescueFrame _ _ _)
    · exact (h.trans (enterNormal_rescueFrame _ _)).trans (reportNormal_rescueFrame _ _ _ _)
  · split
    · exact h.trans (enterStalled_rescueFrame _ _ _)
    · exact (h.trans (enterNormal_rescueFrame _ _)).trans (reportNormal_rescueFrame _ _ _ _)
  · exact (h.trans (enterNormal_rescueFrame _ _)).trans (reportNormal_rescueFrame _ _ _ _)

theorem reportByState_rescueFrame (s : State) (l : Lift) (v : Verdict) (r : Report) (b : Option Nat) (now : TimeTag) :
    RescueFrame s (s.reportByState l v r b now) := by
  unfold State.reportByState
  split
  · exact .refl s
  · exact reportNormal_rescueFrame _ _ _ _
  · exact reportSuspect_rescueFrame _ _ _ _
  · exact evaluateStalled_rescueFrame _ _ _
  · exact reportQueued_rescueFrame _ _ _ _
  · exact reportRescuing_rescueFrame _ _ _ _ _
  · exact reportReleased_rescueFrame _ _ _ _ _
  · exact reportManual_rescueFrame _ _ _ _
  · exact reportOffline_rescueFrame _ _ _ _ _ _

theorem storeReport_rescueFrame (s : State) (l : Lift) (r : Report) (now : TimeTag) :
    RescueFrame s (s.storeReport l r now) := by
  unfold State.storeReport
  exact modLift_rescueFrame s l _ ⟨rfl, rfl⟩

/-- A report taken touches what the rescue machinery may touch, beyond the report copy it may queue and send. -/
theorem takeReport_rescueFrame (s : State) (l : Lift) (src : Nat) (p : List Word) (r : Report) (now : TimeTag) :
    RescueFrame (if s.discardsReport l src then s else (s.offerCopy l p r).transmit) (s.takeReport l src p r now) := by
  unfold State.takeReport
  split
  · exact .refl s
  · exact ((storeReport_rescueFrame _ _ _ _).trans (reportByState_rescueFrame _ _ _ _ _ _)).trans
      (settle_rescueFrame _ _)

theorem unansweredPoll_rescueFrame (s : State) (l : Lift) (now : TimeTag) :
    RescueFrame s (s.unansweredPoll l now) := by
  unfold State.unansweredPoll
  split
  · exact .refl s
  · extract_lets a
    have h : RescueFrame s a := modLift_rescueFrame _ _ _ ⟨rfl, rfl⟩
    split
    · exact h
    · split
      · exact h.trans (endExecution_rescueFrame _ _ _ _)
      · exact h
      · exact h
      · exact ((h.trans (leaveQueue_rescueFrame _ _)).trans (modLift_rescueFrame _ _ _ ⟨rfl, rfl⟩)).trans
          (enter_rescueFrame _ _ _)

theorem hazardReplan_rescueFrame (s : State) (z : BitVec 32) (now : TimeTag) (l : Lift) :
    RescueFrame s (s.hazardReplan z now l) := by
  unfold State.hazardReplan
  split
  · split
    · exact evaluateStalled_rescueFrame _ _ _
    · exact replanQueued_rescueFrame _ _ _
    · exact replanRescuing_rescueFrame _ _ _
    · exact .refl s
  · exact .refl s

/-- A hazard report replaces the map and touches what the rescue machinery may touch. -/
theorem takeHazard_rescueFrame (s : State) (p : List Word) (now : TimeTag) :
    RescueFrame { s with hazard := decodeZones p } (s.takeHazard p now) := by
  unfold State.takeHazard
  extract_lets zones changed a b
  have h : RescueFrame a b := foldl_rescueFrame _ (fun s l => hazardReplan_rescueFrame s changed now l) _ _
  split
  · exact h.trans (callAdmission_rescueFrame _)
  · exact h

end Sys2Proof.Machine
end

