-- ==== Sys2Proof/Laws/Link.lean ====
section
/-! SUPPORT. What the station link's operations can do. -/

namespace Sys2Proof.Machine

/-- Everything `transmit` can do: nothing while a frame is being sent or when no source has one, else one frame begins. -/
theorem transmit_cases (s : State) :
    (s.link.transmitting.isSome ∧ s.transmit = s)
    ∨ (s.link.transmitting = none ∧ s.nextUpward = none ∧ s.transmit = s)
    ∨ (∃ f p, s.link.transmitting = none ∧ s.nextUpward = some (f, p)
        ∧ s.transmit = { s with link := { p with transmitting := some f.words } }) := by
  unfold State.transmit
  split
  next w h => exact .inl ⟨by simp [h], rfl⟩
  next h =>
    split
    next f p e => exact .inr (.inr ⟨f, p, h, e, rfl⟩)
    next e => exact .inr (.inl ⟨h, e, rfl⟩)

/-- Everything `nextUpward` can choose, in the order of R152. -/
theorem nextUpward_cases (s : State) :
    (∃ f fs, s.link.mgmtReplies = f :: fs ∧ s.nextUpward = some (f, { s.link with mgmtReplies := fs }))
    ∨ (∃ f fs, s.link.mgmtReplies = [] ∧ s.link.cmdReplies = f :: fs
        ∧ s.nextUpward = some (f, { s.link with cmdReplies := fs }))
    ∨ (∃ e es, s.link.mgmtReplies = [] ∧ s.link.cmdReplies = [] ∧ s.link.isolated = false ∧ s.link.notices = e :: es
        ∧ s.nextUpward = some (s.buildNotice e, { s.link with notices := es }))
    ∨ (∃ f fs, s.link.mgmtReplies = [] ∧ s.link.cmdReplies = [] ∧ (s.link.isolated = true ∨ s.link.notices = [])
        ∧ s.link.copies = f :: fs ∧ s.nextUpward = some (f, { s.link with copies := fs }))
    ∨ (s.link.mgmtReplies = [] ∧ s.link.cmdReplies = [] ∧ (s.link.isolated = true ∨ s.link.notices = [])
        ∧ s.link.copies = [] ∧ s.nextUpward = none) := by
  unfold State.nextUpward
  rcases hm : s.link.mgmtReplies with _ | ⟨f, fs⟩ <;> rcases hc : s.link.cmdReplies with _ | ⟨g, gs⟩ <;>
    rcases hi : s.link.isolated <;> rcases hn : s.link.notices with _ | ⟨e, es⟩ <;>
    rcases hp : s.link.copies with _ | ⟨k, ks⟩ <;> simp_all

/-- A transmitter left free by `transmit` found nothing it may send. -/
theorem transmit_free (s : State) (h : s.transmit.link.transmitting = none) :
    s.transmit = s ∧ s.nextUpward = none := by
  rcases transmit_cases s with ⟨a, b⟩ | ⟨_, b, c⟩ | ⟨f, p, _, _, c⟩
  · rw [b] at h; simp [h] at a
  · exact ⟨c, b⟩
  · rw [c] at h; simp at h

/-- `transmit` touches the station link only. -/
theorem transmit_link_only (s : State) : s.transmit = { s with link := s.transmit.link } := by
  rcases transmit_cases s with ⟨_, b⟩ | ⟨_, _, c⟩ | ⟨f, p, _, _, c⟩
  · rw [b]
  · rw [c]
  · rw [c]

/-- The end of a command without an evaluation owing is the arbitration alone. -/
theorem finish_of_not_due (s : State) (now : TimeTag) (h : s.admissionDue = false) : s.finish now = s.transmit := by
  simp [State.finish, settle_of_not_due s now h]

/-- No evaluation is owing after the end of a command. -/
@[simp] theorem finish_admissionDue (s : State) (now : TimeTag) : (s.finish now).admissionDue = false := by
  have h := transmit_link_only (s.settle now)
  unfold State.finish
  rw [h]
  exact settle_admissionDue s now

/-- Everything a command reply offered to its FIFO can do (R152). -/
theorem commandReply_cases (s : State) (f : Frame) :
    (s.link.cmdReplies.length < Config.replyFifoSize
        ∧ s.commandReply f = { s with link := { s.link with cmdReplies := s.link.cmdReplies ++ [f] } })
    ∨ (Config.replyFifoSize ≤ s.link.cmdReplies.length ∧ s.commandReply f = s) := by
  unfold State.commandReply
  split
  · exact .inl ⟨‹_›, rfl⟩
  · exact .inr ⟨by omega, rfl⟩

/-- Everything a remote command can do on its arrival (R146). -/
theorem takeRemote_cases (s : State) (c : RemoteCommand) :
    ((c.dest = 0 ∨ c.dest = 63) ∧ s.takeRemote c = s.makeReply c.dest .noAnswer)
    ∨ (s.underRescue c.dest = true ∧ s.takeRemote c = s.makeReply c.dest .underRescue)
    ∨ (Config.passQueueSize ≤ s.orders.passQueue.length ∧ s.takeRemote c = s.makeReply c.dest .busy)
    ∨ (s.orders.passQueue.length < Config.passQueueSize
        ∧ s.takeRemote c = { s with orders := { s.orders with passQueue := s.orders.passQueue ++ [c] } }) := by
  unfold State.takeRemote
  split
  · exact .inl ⟨‹_›, rfl⟩
  · split
    · exact .inr (.inl ⟨‹_›, rfl⟩)
    · split
      · exact .inr (.inr (.inl ⟨‹_›, rfl⟩))
      · exact .inr (.inr (.inr ⟨by omega, rfl⟩))

/-- Everything a management request to node 0 can do: no arrival at all, a discard, or taken by the Agent. -/
theorem takeRequest_cases (s : State) (r : Request) (n : Nat) (t : TimeTag) :
    (Config.maxPayload < n ∧ s.takeRequest r n t = s.atTime t)
    ∨ (n ≤ Config.maxPayload ∧ Config.replyFifoSize ≤ s.link.mgmtReplies.length
        ∧ s.takeRequest r n t = ((s.atTime t).arrive t).finish t)
    ∨ (n ≤ Config.maxPayload ∧ s.link.mgmtReplies.length < Config.replyFifoSize
        ∧ s.takeRequest r n t = (((s.atTime t).arrive t).agentTakes r t).finish t) := by
  unfold State.takeRequest State.routeRequest
  have e : ((s.atTime t).arrive t).link.mgmtReplies = s.link.mgmtReplies := rfl
  dsimp only
  rw [e]
  split
  · exact .inl ⟨‹_›, rfl⟩
  · split
    · exact .inr (.inl ⟨by omega, ‹_›, rfl⟩)
    · exact .inr (.inr ⟨by omega, by omega, rfl⟩)

/-- Everything the Agent can do with a request it takes (R158, R165). -/
theorem agentTakes_cases (s : State) (r : Request) (now : TimeTag) :
    (s.restart ≠ .idle
        ∧ s.agentTakes r now = (s.consume r).reply 2 (r.code (Config.openKindCode s.freeIndex)) [])
    ∨ (s.restart = .idle
        ∧ s.agentTakes r now =
            ((s.consume r).serve r s.prefixHeld now).1.reply ((s.consume r).serve r s.prefixHeld now).2.status.code
              (r.code (Config.openKindCode s.freeIndex)) ((s.consume r).serve r s.prefixHeld now).2.words) := by
  by_cases h : s.restart = .idle
  · exact .inr ⟨h, by simp [State.agentTakes, h]⟩
  · exact .inl ⟨h, by simp [State.agentTakes, h, ReplyStatus.code]⟩

end Sys2Proof.Machine
end

