-- ==== Sys2Proof/Laws/PerInstr.lean ====
section
/-! SUPPORT. The family WellFormedLengths: a well-formed command carries a payload that a frame can hold. -/

namespace Sys2Proof.Laws.WellFormedLengths

/-- A well-formed command carries at most 16 payload words (R111). -/
def Statement (i : Instr) : Prop := i.wellFormed = true → i.carried ≤ 16

theorem powerOnReset : Statement (.powerOnReset) := fun _ => by simp [Instr.carried]
theorem identify (t : TimeTag) : Statement (.identify t) := fun _ => by simp [Instr.carried]
theorem storePrefix (t : TimeTag) (table : Table) (index : Byte) (words : List Word) : Statement (.storePrefix t table index words) := fun h => of_decide_eq_true h
theorem writeEntryLift (t : TimeTag) (index : Byte) (words : List Word) : Statement (.writeEntryLift t index words) := fun h => of_decide_eq_true h
theorem writeEntryLandings (t : TimeTag) (index : Byte) (words : List Word) : Statement (.writeEntryLandings t index words) := fun h => of_decide_eq_true h
theorem writeEntryFaultClass (t : TimeTag) (index : Byte) (words : List Word) : Statement (.writeEntryFaultClass t index words) := fun h => of_decide_eq_true h
theorem writeEntryScan (t : TimeTag) (index : Byte) (words : List Word) : Statement (.writeEntryScan t index words) := fun h => of_decide_eq_true h
theorem writeEntryRecipe (t : TimeTag) (index : Byte) (words : List Word) : Statement (.writeEntryRecipe t index words) := fun h => of_decide_eq_true h
theorem writeEntryParameters (t : TimeTag) (index : Byte) (words : List Word) : Statement (.writeEntryParameters t index words) := fun h => of_decide_eq_true h
theorem readEntry (t : TimeTag) (table : Table) (index : Byte) (later : List Word) : Statement (.readEntry t table index later) := fun h => of_decide_eq_true h
theorem swapScan (t : TimeTag) : Statement (.swapScan t) := fun _ => by simp [Instr.carried]
theorem swapRecipe (t : TimeTag) : Statement (.swapRecipe t) := fun _ => by simp [Instr.carried]
theorem swapBoth (t : TimeTag) : Statement (.swapBoth t) := fun _ => by simp [Instr.carried]
theorem readContext (t : TimeTag) (lift : Byte) (later : List Word) : Statement (.readContext t lift later) := fun h => of_decide_eq_true h
theorem hold (t : TimeTag) (lift : Byte) : Statement (.hold t lift) := fun _ => by simp [Instr.carried]
theorem release (t : TimeTag) (lift : Byte) : Statement (.release t lift) := fun _ => by simp [Instr.carried]
theorem abort (t : TimeTag) (lift : Byte) : Statement (.abort t lift) := fun _ => by simp [Instr.carried]
theorem forceManual (t : TimeTag) (lift : Byte) : Statement (.forceManual t lift) := fun _ => by simp [Instr.carried]
theorem clear (t : TimeTag) (lift : Byte) : Statement (.clear t lift) := fun _ => by simp [Instr.carried]
theorem extendStep (t : TimeTag) (lift : Byte) (later : List Word) : Statement (.extendStep t lift later) := fun h => of_decide_eq_true h
theorem restart (t : TimeTag) : Statement (.restart t) := fun _ => by simp [Instr.carried]
theorem unknownRequest (t : TimeTag) (payload : List Word) : Statement (.unknownRequest t payload) := fun h => of_decide_eq_true (Bool.and_eq_true_iff.mp h).1
theorem managementRequestDiscard (t : TimeTag) (dest : BitVec 6) (payload : List Word) : Statement (.managementRequestDiscard t dest payload) := fun h => of_decide_eq_true h
theorem remoteCommand (t : TimeTag) (dest : BitVec 6) (payload : List Word) : Statement (.remoteCommand t dest payload) := fun h => of_decide_eq_true h
theorem linkFrameDiscard (t : TimeTag) (words : List Word) (whole : Bool) : Statement (.linkFrameDiscard t words whole) := fun _ => by simp [Instr.carried]
theorem allStopSendEnd (t : TimeTag) : Statement (.allStopSendEnd t) := fun _ => by simp [Instr.carried]
theorem exchangeSendEnd (t : TimeTag) : Statement (.exchangeSendEnd t) := fun _ => by simp [Instr.carried]
theorem statusReport (t : TimeTag) (reply : Reply) : Statement (.statusReport t reply) := fun h => of_decide_eq_true h
theorem powerReport (t : TimeTag) (reply : Reply) : Statement (.powerReport t reply) := fun h => of_decide_eq_true h
theorem hazardReport (t : TimeTag) (reply : Reply) : Statement (.hazardReport t reply) := fun h => of_decide_eq_true h
theorem orderEcho (t : TimeTag) (reply : Reply) : Statement (.orderEcho t reply) := fun h => of_decide_eq_true h
theorem commandReply (t : TimeTag) (reply : Reply) : Statement (.commandReply t reply) := fun h => of_decide_eq_true h
theorem replyWindowClose (t : TimeTag) : Statement (.replyWindowClose t) := fun _ => by simp [Instr.carried]
theorem ringFrameDiscard (t : TimeTag) (lane : Lane) (words : List Word) (whole : Bool) : Statement (.ringFrameDiscard t lane words whole) := fun _ => by simp [Instr.carried]
theorem descriptorGapExpiry (t : TimeTag) : Statement (.descriptorGapExpiry t) := fun _ => by simp [Instr.carried]
theorem cycleStart (t : TimeTag) : Statement (.cycleStart t) := fun _ => by simp [Instr.carried]
theorem stepTimerExpiry (t : TimeTag) (lift : Lift) : Statement (.stepTimerExpiry t lift) := fun _ => by simp [Instr.carried]
theorem powerStaleExpiry (t : TimeTag) : Statement (.powerStaleExpiry t) := fun _ => by simp [Instr.carried]
theorem silenceExpiry (t : TimeTag) : Statement (.silenceExpiry t) := fun _ => by simp [Instr.carried]
theorem transmitEnd (t : TimeTag) : Statement (.transmitEnd t) := fun _ => by simp [Instr.carried]
theorem liftControlInvalidAction (t : TimeTag) (lift : Byte) (later : List Word) : Statement (.liftControlInvalidAction t lift later) := fun h => of_decide_eq_true (Bool.and_eq_true_iff.mp h).1
theorem swapInvalidSelector (t : TimeTag) (selector : Byte) : Statement (.swapInvalidSelector t selector) := fun _ => by simp [Instr.carried]

end Sys2Proof.Laws.WellFormedLengths
end

