-- ==== Sys2Proof/Tests/Slice0.lean ====
section
/-! SUPPORT. Tests on fixed values: an ill-formed command refused by each check of WellFormed, worked examples of the
manual (each names its place), and for every statement with hypotheses a state and operands that meet them. -/

namespace Sys2Proof.Tests

open Sys2Proof.Machine Sys2Proof.Slice0

-- One theorem after the other, so that those that wait for the kernel do not each hold a thread and its stack.
set_option Elab.async false

/-! ## Small states -/

/-- Words from numbers. -/
def words (ns : List Nat) : List Word := ns.map (BitVec.ofNat 16)

/-- The Landing List of lift 7 of the worked cases (section 4.9). -/
def floors : List Landing :=
  [⟨0, 3, .front⟩, ⟨600, 4, .front⟩, ⟨1500, 5, .rear⟩, ⟨2350, 6, .front⟩]

/-- The Lift Table entry of lift 7 of the worked cases (sections 3.4 and 4.9). -/
def car : LiftEntry :=
  { inService := true, ringNode := 17, kind := .vertical, shaftTop := 2400, encoderScale := 500,
    countSense := .downIncreases, balanceLoad := 450, gravityThreshold := 50, brakeHoldPower := 400, assistPower := 1800,
    rescueSpeed := 150, doorCycleCost := 12, kindBonus := 0, gravityStart := 1, assistedStart := 2, abortStart := 3,
    maxAttempts := 2 }

/-- The report of section 7.1: code 14, stopped between landings, mains lost, 480 kg. -/
def stalledReport : Report :=
  { fault := 14, motion := .stopped, doors := .closed, mainsLost := true, chainOpen := false, ack := .none,
    brakeSet := true, marker := none, load := some 480, encoder := 62856 }

/-- Its payload. -/
def stalledPayload : List Word := words [0x3820, 0xF588, 0x000F, 0x01E0]

/-- The position of report f of section 3.4. -/
def spot : Position :=
  { position := 1234, anchorHeight := 600, offset := 6340000, lastCount := some 62856, anchored := true, doubt := false }

/-- Case 1 of section 4.9. -/
def case1 : Plan :=
  { mode := .assisted, direction := .up, target := some 2, distance := 266, travelTime := 178, creepCost := 392,
    doorCost := 12, totalCost := 404, merit := 420, feasible := true, reason := none }

/-- Lift 7's context in a rescue state, with no optional field that only another state has. -/
def context (st : RescueState) : LiftContext :=
  { LiftContext.fresh car floors st with
    pos := spot, occupancy := some 6, plan := some case1, stallSince := some 0, trappedMinutes := 9,
    lastReport := some { report := stalledReport, arrival := 0, verdict := ⟨true, .stall, false⟩ } }

/-- Lift 7. -/
def seven : Lift := 6

/-- The part with a context as lift 7's, else as at reset. -/
def part (c : LiftContext) : State := State.reset.setLift seven c

/-- Lift 7 waits in the queue. -/
def waiting : State :=
  { part { context .queued with queueData := some ⟨0, 0⟩ } with queue := [seven] }

/-- A rescue record that runs step `n` of bank 0. -/
def record (n : Nat) (wk : Working) : RescueRecord :=
  { bank := .bank0, step := n, budget := 1, stack := [], creepReservation := 392, doorReservation := 12,
    creepReleased := false, abortPending := false, attempt := 1, originalDistance := 266, working := wk }

/-- Lift 7 is being rescued, with a rescue record and the recipe bank given. -/
def rescued (r : RescueRecord) (bank : Vector StepRecord 96) : State :=
  { part { context .rescuing with rescue := some r } with
    outstanding := r.held, recipes := { State.reset.recipes with bank0 := bank } }

/-- A bank that holds one record at place 5, a PAUSE at 6 and END MANUAL elsewhere. -/
def bankWith (a : StepAction) : Vector StepRecord 96 :=
  (State.reset.recipes.bank0.set 5
    { action := a, count := 1, timeout := 20, chainDone := 6, chainFail := 6, notify := true }).set 6
    { action := .pause, count := 0, timeout := 0, chainDone := 0, chainFail := 0, notify := false }

/-- Lift 7 pauses in step 5, its timer loaded at 1000 with 20 ds. -/
def pausing : State := rescued (record 5 { repeats := 0, timer := some ⟨1000, 20⟩, creep := none }) (bankWith .pause)

/-- Lift 7 waits in step 5 for a stopped car, its timer as above. -/
def holding : State :=
  rescued (record 5 { repeats := 0, timer := some ⟨1000, 20⟩, creep := none }) (bankWith (.wait .stopped))

/-- The working values of a CREEP step toward landing 2. -/
def creeping : CreepWork :=
  { reload := 20, startPosition := 1234, orderedLanding := 2, markerSeen := none, accepted := true,
    abortDeferred := false }

/-- Lift 7 creeps in step 5, its car moving or not. -/
def creep (m : Motion) : State :=
  (rescued (record 5 { repeats := 0, timer := some ⟨1000, 20⟩, creep := some creeping }) (bankWith .creep)).modLift seven
    fun c => { c with lastReport := some ⟨{ stalledReport with motion := m }, 0, ⟨false, .ignore, false⟩⟩ }

/-- A bank of four descriptors: POLL LIFT 7, POLL POWER, ORDER SLOT, PAUSE of 5 ms. -/
def scanBank : ScanBank :=
  { length := 4, places := (((ScanBank.powerOn.places.set 0
      { Descriptor.powerOn with kind := .pollLift, lift := 7, retry := 1, switch := true, gap := 10 }).set 1
      { Descriptor.powerOn with kind := .pollPower, gap := 10 }).set 2
      { Descriptor.powerOn with kind := .orderSlot, gap := 10 }).set 3
      { Descriptor.powerOn with kind := .pause, gap := 5 } }

/-- The Scan Engine runs bank A in a phase. -/
def scanning (p : ScanPhase) (current : Nat) : ScanEngine :=
  { ScanEngine.powerOn with
    bankA := scanBank, bankB := scanBank, startTime := some 0, current := some current, running := true, phase := p }

/-- An exchange on lane A with a node, its frame sent at 100 and its window 4 ms. -/
def asked (dest : Nat) (k : ReplyKind) : Exchange :=
  { lane := .a, dest := dest, expects := k, sent := [], waiting := some (100, 4) }

/-- The exchange of a job in flight. -/
def inFlight (s : State) (dest : Nat) (k : ReplyKind) (j : Job) : State :=
  { s with exchange := some (asked dest k), scan := scanning (.working 98 10 j) 0 }

/-- A reply from a node on lane A. -/
def replied (source : Nat) (tag : Nat) (p : List Word) : Reply :=
  { lane := .a, dest := 0, source := BitVec.ofNat 6 source, tag := BitVec.ofNat 4 tag, payload := p }

/-- A descriptor of scan bank A. -/
def at_ (i : Nat) : Descriptor := scanBank.descriptors.getD i Descriptor.powerOn

/-- The state a command answers, or the one it was given. -/
def after (c : Instr) (s : State) : State :=
  match exec c s with
  | .next u => u
  | .fault _ => s
  | .refused _ => s

/-- A state with four management replies waiting. -/
def full : State := { State.reset with link := { LinkPort.powerOn with mgmtReplies := List.replicate 4 (reply 0 1 []) } }

/-- A state in which ALL STOP is going out. -/
def restarting : State := { State.reset with restart := .allStop }


/-! ## WellFormed: each check refuses an ill-formed command -/

/-- A request of 17 words fits no frame (R111). -/
theorem test_wellFormed_later : (Instr.writeEntryLift 0 1 (List.replicate 16 0)).wellFormed = false := by decide +kernel
theorem test_wellFormed_prefix : (Instr.storePrefix 0 .lift 1 (List.replicate 16 0)).wellFormed = false := by decide +kernel
theorem test_wellFormed_read : (Instr.readEntry 0 .scan 1 (List.replicate 16 0)).wellFormed = false := by decide +kernel
theorem test_wellFormed_extend : (Instr.extendStep 0 1 (List.replicate 16 0)).wellFormed = false := by decide +kernel
/-- A remote command and a reply of 17 words fit no frame (R111). -/
theorem test_wellFormed_remote : (Instr.remoteCommand 0 5 (List.replicate 17 0)).wellFormed = false := by decide +kernel
theorem test_wellFormed_reply : (Instr.statusReport 0 (replied 17 0 (List.replicate 17 0))).wellFormed = false := by
  decide +kernel
theorem test_wellFormed_discard : (Instr.managementRequestDiscard 0 3 (List.replicate 17 0)).wellFormed = false := by
  decide +kernel
/-- An unknown request is refused for the kind codes of IDENTIFY, WRITE LANDINGS and RESTART (R156). -/
theorem test_wellFormed_unknown :
    (Instr.unknownRequest 0 (words [0x0100])).wellFormed = false
      ∧ (Instr.unknownRequest 0 (words [0x2101])).wellFormed = false
      ∧ (Instr.unknownRequest 0 (words [0xF000])).wellFormed = false
      ∧ (Instr.unknownRequest 0 (words [0x2601])).wellFormed = true := by decide +kernel
/-- Actions 1 to 5 are valid (R21). -/
theorem test_wellFormed_action :
    (Instr.liftControlInvalidAction 0 7 (words [1])).wellFormed = false
      ∧ (Instr.liftControlInvalidAction 0 7 (words [5])).wellFormed = false
      ∧ (Instr.liftControlInvalidAction 0 7 (words [6])).wellFormed = true := by decide +kernel
/-- Selectors 1 to 3 are valid (R156). -/
theorem test_wellFormed_selector :
    (Instr.swapInvalidSelector 0 3).wellFormed = false ∧ (Instr.swapInvalidSelector 0 0).wellFormed = true := by decide +kernel
/-- A routed frame is not one the link discards (R150). -/
theorem test_wellFormed_linkDiscard :
    (Instr.linkFrameDiscard 0 (Frame.words ⟨10, 0, 1, 0, words [0x0100]⟩) true).wellFormed = false := by decide +kernel

/-! ## Worked examples of the manual -/

/-- The POLL of section 7.1: 1440h, 0800h, 0001h before its check word. -/
theorem test_poll_of_lift_7 : (pollFrame 17 1).body = words [0x1440, 0x0800, 0x0001] := by decide +kernel

/-- The STATUS REPORT of section 7.1: its words decode to the report, and the report's words are its payload. -/
theorem test_status_report_of_lift_7 :
    decodeReport 4 stalledPayload = stalledReport ∧ encodeReport stalledReport = stalledPayload
      ∧ Frame.header1 ⟨2, 0, 17, 0, stalledPayload⟩ = 0x2011#16
      ∧ Frame.header2 ⟨2, 0, 17, 0, stalledPayload⟩ = 0x2000#16 := by decide +kernel

/-- A marker above the landing count is none (section 2.8). -/
theorem test_marker_12_of_four_landings : (decodeReport 4 (words [0, 0, 12, 0])).marker = none := by decide +kernel

/-- The occupancy table of section 2.6: 33 is held at 31, 20 persons of 120 kg, UNKNOWN. -/
theorem test_occupancy :
    occupancyOf 75 (decodeLoad 3100) = some 31 ∧ occupancyOf 120 (decodeLoad 2500) = some 20
      ∧ occupancyOf 75 (decodeLoad 0xFFFF) = none ∧ occupancyOf 75 (some 540) = some 7 := by decide +kernel

/-- A report that shows only a count and a marker, for the tracking example. -/
def counted (n : Nat) (m : Option Nat) : Report := { stalledReport with encoder := n, marker := m }

/-- Reports a, b and e of section 3.4: the anchor, a delta turned upward, the wrap of the counter. -/
theorem test_tracking_a_b_e :
    track 4000 car floors Position.powerOn (counted 10000 (some 1)) = ⟨600, 600, 0, some 10000, true, false⟩
      ∧ track 4000 car floors ⟨600, 600, 0, some 10000, true, false⟩ (counted 7000 none)
          = ⟨750, 600, 1500000, some 7000, true, false⟩
      ∧ track 4000 car floors ⟨1025, 600, 4250000, some 1500, true, false⟩ (counted 64500 none)
          = ⟨1151, 600, 5518000, some 64500, true, false⟩ := by decide +kernel

/-- Report g of section 3.4, implausible, and the clamp of section 3.3. -/
theorem test_tracking_g_and_clamp :
    track 4000 car floors spot (counted 50000 none) = { spot with lastCount := some 50000, doubt := true }
      ∧ track 4000 car floors ⟨2350, 2350, 400000, some 400, true, false⟩ (counted 0 none)
          = ⟨2400, 2350, 500000, some 0, true, true⟩ := by decide +kernel

/-- What the planner reads in the worked cases of section 4.9. -/
def case (kg : Nat) (zones : BitVec 32) (doubt : Bool) (marker : Option Nat) : PlanInput :=
  { entry := car, landings := floors, zones := zones, position := 1234, doubt := doubt, load := some kg, marker := marker,
    merit := 0, openUp := false }

/-- The figures the cases give. -/
structure Figures where
  mode       : Mode
  direction  : Direction
  target     : Option Nat
  travelTime : Nat
  creepCost  : Nat
  totalCost  : Nat
deriving DecidableEq, Repr

/-- The figures of a plan. -/
def figures (p : Plan) : Figures := ⟨p.mode, p.direction, p.target, p.travelTime, p.creepCost, p.totalCost⟩

/-- Cases 1 to 4. -/
theorem test_cases_1_to_4 :
    figures (planFree (case 480 0 false none)) = ⟨.assisted, .up, some 2, 178, 392, 404⟩
      ∧ figures (planFree (case 480 0x20 false none)) = ⟨.assisted, .down, some 1, 423, 931, 943⟩
      ∧ figures (planFree (case 900 0 false none)) = ⟨.gravity, .down, some 1, 423, 170, 182⟩
      ∧ figures (planFree (case 300 0 false none)) = ⟨.gravity, .up, some 2, 178, 72, 84⟩ := by decide +kernel

/-- Cases 5 to 7, with the light car of case 6. -/
theorem test_cases_5_to_7 :
    figures (planFree (case 900 0x18 false none)) = ⟨.assisted, .up, some 2, 178, 392, 404⟩
      ∧ figures (planFree (case 480 0 true none)) = ⟨.marker, .down, none, 1567, 3448, 3460⟩
      ∧ figures (planFree (case 300 0 true none)) = ⟨.marker, .up, none, 1567, 627, 639⟩
      ∧ figures (planFree (case 480 0 false (some 1))) = ⟨.gravity, .down, some 1, 0, 0, 12⟩ := by decide +kernel

/-- Merits of section 4.9 and the greatest merit, and trapped minutes across the wrap of the time tag. -/
theorem test_merits :
    meritOf Params.powerOn car 0 floors (some 6) 9 = 420 ∧ meritOf Params.powerOn car 0x20 floors (some 6) 9 = 520
      ∧ meritOf { Params.powerOn with occupancyWeight := 255, timeWeight := 255, hazardBonus := 255 }
          { car with kindBonus := 255 } 0x20 floors (some 31) 255 = 65535
      ∧ trappedAt 1032704 (some 4294000000) 0 = 33 ∧ trappedAt 15600000 (some 0) 0 = 255 := by decide +kernel

/-- The limit cases of section 4.9. -/
theorem test_limit_costs :
    (costed { car with rescueSpeed := 50 } .assisted .up (some 0) 20000 8000 0).totalCost = 65535
      ∧ (costed { car with rescueSpeed := 50, doorCycleCost := 2 } .gravity .up (some 0) 16383 2000 0).totalCost = 65534
      ∧ (costed { car with rescueSpeed := 50, doorCycleCost := 3 } .gravity .up (some 0) 16383 2000 0).feasible = false
      ∧ (costed { car with rescueSpeed := 400 } .gravity .up (some 0) 1 400 0).creepCost = 1 := by decide +kernel

/-- The dwell example of section 2.7: not trapping at 59 000 ms, trapping with class STALL at 60 000 ms. -/
theorem test_dwell :
    (drawVerdict ⟨.ignore, false⟩ 159000 (some 100000) 60 stalledReport) = ⟨false, .ignore, false⟩
      ∧ (drawVerdict ⟨.ignore, false⟩ 160000 (some 100000) 60 stalledReport) = ⟨true, .stall, false⟩ := by decide +kernel

/-- Doors open at a landing (section 2.8): not trapping, class STALL. -/
theorem test_doors_open_at_a_landing :
    drawVerdict ⟨.stall, false⟩ 0 none 60 { stalledReport with doors := .opened, marker := some 1 }
      = ⟨false, .stall, false⟩ := by decide +kernel

/-- A queue place of the bypass example of chapter 5: merit, creep cost, door cost. -/
def place (merit creepCost doorCost : Nat) : LiftContext :=
  { context .queued with
    queueData := some ⟨0, 0⟩
    plan := some { case1 with merit := merit, creepCost := creepCost, doorCost := doorCost,
                              totalCost := creepCost + doorCost } }

/-- Walk 1 and walk 2 of that example: lift 7 is granted past lift 4; then the guard ends the walk. -/
theorem test_bypass_walks :
    let s := { ((State.reset.setLift 3 (place 900 2780 20)).setLift 6 (place 660 170 12)).setLift 10 (place 420 392 12)
      with
      params := { Params.powerOn with bypassGuard := 1 }
      reservoir := { level := 3000, feedCount := 2, state := .discharging, reportTime := some 0, stale := false } }
    s.walk [3, 6, 10] [] = some (6, [3]) ∧ (s.raiseBypass 3).walk [3, 10] [] = none := by decide +kernel

/-! ## One step on a small state -/

/-- IDENTIFY (R157): 0001h, then the four identity words, sent at once. -/
theorem test_identify :
    (after (.identify 5) State.reset).link.transmitting.map (·.take 7)
      = some (words [0xB000, 0x2800, 0x0001, 0x21A5, 0x0318, 0x0002, 24]) := by decide +kernel

/-- HOLD of a queued lift (R22): out of the queue, STALLED, its plan made anew. -/
theorem test_hold_of_a_queued_lift :
    ((after (.hold 5 7) waiting).lift seven).state = .stalled ∧ (after (.hold 5 7) waiting).queue = []
      ∧ ((after (.hold 5 7) waiting).lift seven).hold = true := by decide +kernel

/-- CLEAR of a queued lift is refused with STATE (R21). -/
theorem test_clear_of_a_queued_lift :
    (after (.clear 5 7) waiting).link.transmitting.map (·.getD 2 0) = some 0x0460#16
      ∧ (after (.clear 5 7) waiting).queue = [seven] := by decide +kernel

/-- A hazard report that closes zone 5 replans the queued lift (section 3.7): DOWN to landing 1, merit 520. -/
theorem test_zone_5_closes :
    (((waiting.takeHazard (words [0x20, 0]) 540000).lift seven).plan.map figures)
      = some ⟨.assisted, .down, some 1, 423, 931, 943⟩
      ∧ ((waiting.takeHazard (words [0x20, 0]) 540000).lift seven).merit = 520 := by decide +kernel

/-- EXTEND_STEP with 0 stores 1 and is clamped (R106). -/
theorem test_extend_step_zero :
    ((after (.extendStep 5 7 (words [0])) (creep .movingUp)).lift seven).rescue.bind (·.working.creep.map (·.reload))
      = some 1
      ∧ (after (.extendStep 5 7 (words [0])) (creep .movingUp)).link.transmitting.map (·.getD 2 0) = some 0x0170#16 := by
  decide +kernel

/-- An ORDER SLOT sends the CREEP with the lift's next tag (R141, R143). -/
theorem test_order_slot_sends :
    let s := ({ (creep .movingUp) with scan := scanning .stopped 1 }).setSlot seven
      (some ⟨.creep .up 150 2 20, .entry 1, 2, none⟩)
    ((s.takeSlot (at_ 2) 5).1.exchange.map (·.sent.take 5)) = some (words [0x5440, 0x1880, 0x2002, 150, 20])
      ∧ (s.takeSlot (at_ 2) 5).1.tagCounter seven = 1 := by decide +kernel

/-! ## Witnesses: states and operands that meet the hypotheses of each statement, for each of its clauses -/

/-- The words that write lift 7's entry. -/
def carWords : List Word := car.words

/-- Lift 7 with the first two of those words held as a prefix. -/
def prefixed (st : RescueState) : State :=
  { part (context st) with prefixHeld := some ⟨.lift, 7, carWords.take 2⟩ }

/-- The words of lift 7's Landing List. -/
def floorWords : List Word := landingWords floors

/-- A bank that is valid stands ready behind an active one, the Scan Engine in a phase. -/
def swappable (p : ScanPhase) : State := { State.reset with scan := scanning p 0 }

theorem witness_StepRunsTheFrontCommand :
    State.reset.pending = [] ∧ ({ State.reset with pending := [.identify 5] } : State).pending = [.identify 5] := by
  decide +kernel

theorem witness_IdentifyIsAnswered :
    State.reset.link.mgmtReplies.length < 4 ∧ State.reset.admissionDue = false ∧ State.reset.restart = .idle
      ∧ restarting.link.mgmtReplies.length < 4 ∧ restarting.admissionDue = false ∧ restarting.restart ≠ .idle := by
  decide +kernel

theorem witness_RequestsTurnedAway :
    requestOf (.identify 5) = some (.identify, 1, 5) ∧ 1 ≤ 16 ∧ full.admissionDue = false
      ∧ 4 ≤ full.link.mgmtReplies.length ∧ restarting.admissionDue = false ∧ restarting.link.mgmtReplies.length < 4
      ∧ restarting.restart ≠ .idle := by decide +kernel

theorem witness_RefusedRequestsChangeNothing :
    (State.reset.serve .empty none 0).2.status ≠ .done ∧ (State.reset.serve .empty none 0).2.status ≠ .doneClamped := by
  decide +kernel

theorem witness_PrefixIsStoredForItsWrite :
    Serves State.reset ∧ ([] : List Word).length ≤ 15 ∧ (List.replicate 15 (0 : Word)).length ≤ 15
      ∧ requestOf (.identify 5) = some (.identify, 1, 5) ∧ 1 ≤ 16 ∧ (prefixed .normal).link.mgmtReplies.length < 4
      ∧ (prefixed .normal).prefixHeld = some ⟨.lift, 7, carWords.take 2⟩
      ∧ ∀ ws, Request.identify ≠ .write .lift 7 ws :=
  ⟨by decide +kernel, by decide, by decide, by decide, by decide, by decide +kernel, rfl, fun _ => by simp⟩

theorem witness_LiftWriteIsDecided :
    Serves (prefixed .normal) ∧ (carWords.drop 2).length ≤ 15 ∧ liftOfNumber (0 : Byte).toNat = none
      ∧ liftOfNumber (25 : Byte).toNat = none ∧ liftOfNumber (7 : Byte).toNat = some seven
      ∧ liftOfNumber (24 : Byte).toNat = some 23
      ∧ Serves (prefixed .suspect) ∧ ¬ TakesWrites ((prefixed .suspect).lift seven).state
      ∧ TakesWrites ((prefixed .normal).lift seven).state
      ∧ LiftInvalid (prefixed .normal) seven (data (prefixed .normal) .lift 7 [])
      ∧ ¬ LiftInvalid (prefixed .normal) seven (data (prefixed .normal) .lift 7 (carWords.drop 2)) := by decide +kernel

theorem witness_StoredEntriesTakeEffect :
    ((part (context .excluded)).lift seven).state = .excluded ∧ car.inService = true
      ∧ LiftEntry.powerOn.inService = false ∧ ((part (context .normal)).lift seven).state ≠ .excluded
      ∧ car = ((part (context .normal)).lift seven).entry
      ∧ ((part (context .normal)).lift seven).entry.ringNode ≠ ({ car with ringNode := 5 } : LiftEntry).ringNode
      ∧ ((part (context .normal)).lift seven).entry.shaftTop ≠ ({ car with shaftTop := 2390 } : LiftEntry).shaftTop := by
  decide +kernel

theorem witness_LandingsWriteIsDecided :
    Serves (part (context .manual)) ∧ floorWords.length ≤ 15 ∧ liftOfNumber (25 : Byte).toNat = none
      ∧ liftOfNumber (1 : Byte).toNat = some 0 ∧ liftOfNumber (7 : Byte).toNat = some seven
      ∧ ¬ TakesWrites ((part (context .suspect)).lift seven).state
      ∧ TakesWrites ((part (context .manual)).lift seven).state
      ∧ LandingsInvalid ((part (context .manual)).lift seven).entry.shaftTop
          (data (part (context .manual)) .landings 7 (words [1, 0, 1]))
      ∧ ¬ LandingsInvalid ((part (context .manual)).lift seven).entry.shaftTop
          (data (part (context .manual)) .landings 7 floorWords) := by decide +kernel

theorem witness_FaultClassWriteIsDecided :
    Serves State.reset ∧ (words [0x0101]).length ≤ 15 ∧ 64 ≤ (64 : Byte).toNat ∧ (63 : Byte).toNat < 64
      ∧ data State.reset .faultClass 63 [] = [] ∧ w (data State.reset .faultClass 63 (words [3])) 0 % 4 = 3
      ∧ 1 < w (data State.reset .faultClass 63 (words [0x0200])) 0 / 256 % 4
      ∧ data State.reset .faultClass 63 (words [0x0101]) ≠ []
      ∧ w (data State.reset .faultClass 63 (words [0x0101])) 0 % 4 = (⟨.stall, true⟩ : FaultEntry).cls.code
      ∧ w (data State.reset .faultClass 63 (words [0x0101])) 0 / 256 % 4
          = (if (⟨.stall, true⟩ : FaultEntry).immediate then 1 else 0) := by decide +kernel

theorem witness_ScanWriteIsDecided :
    Serves State.reset ∧ (words [0x2000, 0x070A]).length ≤ 15 ∧ 64 < (65 : Byte).toNat ∧ (64 : Byte).toNat ≤ 64
      ∧ ({ State.reset with scan := { ScanEngine.powerOn with swapPending := true } } : State).scan.swapPending = true
      ∧ Serves { State.reset with scan := { ScanEngine.powerOn with swapPending := true } }
      ∧ State.reset.scan.swapPending = false ∧ (64 : Byte).toNat = 64 ∧ (63 : Byte).toNat < 64
      ∧ data State.reset .scan 64 [] = [] ∧ 64 < w (data State.reset .scan 64 (words [65])) 0
      ∧ data State.reset .scan 64 (words [64]) ≠ [] ∧ w (data State.reset .scan 64 (words [64])) 0 ≤ 64
      ∧ (data State.reset .scan 63 (words [0])).length < 2
      ∧ 4 < w (data State.reset .scan 63 (words [0xA000, 0])) 0 / 8192
      ∧ w (data State.reset .scan 63 (words [0x1800, 0])) 0 / 2048 % 4 = 3
      ∧ 2 ≤ (data State.reset .scan 63 (words [0x8000, 0x070A])).length
      ∧ w (data State.reset .scan 63 (words [0x8000, 0x070A])) 0 / 8192 ≤ 4
      ∧ w (data State.reset .scan 63 (words [0x8000, 0x070A])) 0 / 2048 % 4 ≠ 3 := by decide +kernel

theorem witness_RecipeWriteIsDecided :
    Serves pausing ∧ (words [0x3100, 0, 20, 0x0506]).length ≤ 15 ∧ 95 < (96 : Byte).toNat ∧ (95 : Byte).toNat < 96
      ∧ Serves { pausing with recipes := { pausing.recipes with active := .bank1 } }
      ∧ (∃ l : Lift, ∃ r ∈ (({ pausing with recipes := { pausing.recipes with active := .bank1 } } : State).lift l).rescue,
          r.bank ≠ ({ pausing with recipes := { pausing.recipes with active := .bank1 } } : State).recipes.active)
      ∧ (∀ l : Lift, ∀ r ∈ (pausing.lift l).rescue, r.bank = pausing.recipes.active)
      ∧ decodeStep (data pausing .recipe 95 (words [0x7000, 0, 0, 0])) = none
      ∧ (decodeStep (data pausing .recipe 95 (words [0x3100, 0, 20, 0x0506]))).isSome = true := by
  refine ⟨by decide +kernel, by decide, by decide, by decide, by decide +kernel, ⟨seven, _, rfl, by decide +kernel⟩,
    by decide +kernel, by decide +kernel, by decide +kernel⟩

theorem witness_ParameterWriteIsDecided :
    Serves State.reset ∧ (words [5]).length ≤ 15 ∧ State.reset.reservoir.stale = true
      ∧ State.reset.scan.phase ≠ .cycleWait ∧ 18 < (19 : Byte).toNat ∧ (18 : Byte).toNat ≤ 18
      ∧ data State.reset .parameters 18 [] = [] ∧ data State.reset .parameters 16 (words [5]) = 5 :: []
      ∧ (16 : Byte).toNat < 17 ∧ paramRanges[(16 : Byte).toNat]? = some (1, 32767) ∧ 17 ≤ (17 : Byte).toNat
      ∧ ((63 : Word) = 0 ∨ 63 ≤ (63 : Word).toNat) ∧ (61 : Word) ≠ 0 ∧ (61 : Word).toNat ≤ 62
      ∧ (61 : Word).toNat = State.reset.params.hazardNode ∧ (5 : Word).toNat ≠ State.reset.params.hazardNode
      ∧ (5 : Word).toNat ≠ State.reset.params.powerNode
      ∧ (∀ l : Lift, (State.reset.lift l).entry.ringNode ≠ (5 : Word).toNat)
      ∧ ∃ l : Lift, ((part (context .normal)).lift l).entry.ringNode = (17 : Word).toNat := by decide +kernel

theorem witness_ReadsChangeNothing :
    (List.replicate 15 (0 : Word)).length ≤ 15 ∧ Serves waiting ∧ ([] : List Word).length ≤ 15 ∧ (words [2]).length ≤ 15
      ∧ (waiting.entryWords .scan (64 : Byte).toNat ((2 : Word).toNat / 2 % 2 == 1)).isSome = true
      ∧ waiting.entryWords .lift (25 : Byte).toNat ((2 : Word).toNat / 2 % 2 == 1) = none ∧ 4 < (5 : Word).toNat
      ∧ (4 : Word).toNat ≤ 4 ∧ liftOfNumber (0 : Byte).toNat = none ∧ liftOfNumber (7 : Byte).toNat = some seven := by
  decide +kernel

theorem witness_EntryWordsDecodeToTheEntry :
    (at_ 0).lift ≤ 255 ∧ (at_ 0).gap ≤ 255 ∧ (at_ 0).retry ≤ 3
      ∧ (⟨.order .announce 255, 15, 65535, 95, 95, true⟩ : StepRecord).count ≤ 15
      ∧ (⟨.order .announce 255, 15, 65535, 95, 95, true⟩ : StepRecord).timeout ≤ 65535
      ∧ (⟨.order .announce 255, 15, 65535, 95, 95, true⟩ : StepRecord).chainDone ≤ 95
      ∧ (⟨.order .announce 255, 15, 65535, 95, 95, true⟩ : StepRecord).chainFail ≤ 95
      ∧ (∀ k m, StepAction.order .announce 255 = .order k m → m ≤ 255) ∧ (∀ n, StepAction.call 95 = .call n → n ≤ 95)
      ∧ decodeLiftEntry carWords = some (liftWritten carWords)
      ∧ decodeLandingList 2400 floorWords = some floors := by
  refine ⟨by decide +kernel, by decide +kernel, by decide +kernel, by decide, by decide, by decide, by decide, ?_, ?_,
    by decide +kernel, by decide +kernel⟩
  · intro k m h; cases h; decide
  · intro n h; cases h; decide

theorem witness_SwapsTakeEffect :
    Serves (swappable .cycleWait) ∧ Serves (swappable (.gapWait 0 5)) ∧ Serves State.reset
      ∧ Serves { State.reset with scan := { ScanEngine.powerOn with swapPending := true } }
      ∧ State.reset.scan.swapPending = false ∧ (State.reset.scan.bank State.reset.scan.active.other).valid = false
      ∧ (swappable .cycleWait).scan.swapPending = false
      ∧ ((swappable .cycleWait).scan.bank (swappable .cycleWait).scan.active.other).valid = true
      ∧ (swappable .cycleWait).scan.running = true ∧ (swappable (.gapWait 0 5)).scan.phase ≠ .cycleWait
      ∧ Serves { State.reset with scan := { ScanEngine.powerOn with bankB := scanBank } }
      ∧ scanBank.valid = true ∧ ScanEngine.powerOn.running = false := by decide +kernel

theorem witness_LiftControlIsDecided :
    Serves waiting ∧ liftOfNumber (0 : Byte).toNat = none ∧ liftOfNumber (7 : Byte).toNat = some seven
      ∧ Serves (part (context .excluded)) ∧ ((part (context .excluded)).lift seven).state = .excluded
      ∧ Serves pausing ∧ (pausing.lift seven).state = .rescuing ∧ (waiting.lift seven).state ≠ .rescuing
      ∧ (waiting.lift seven).state ≠ .released ∧ (waiting.lift seven).state ≠ .manual
      ∧ (List.replicate 14 (0 : Word)).length ≤ 14 ∧ 5 < (6 : Word).toNat := by decide +kernel

theorem witness_ControlsActOnTheLift :
    Serves (part (context .manual)) ∧ liftOfNumber (7 : Byte).toNat = some seven
      ∧ ((part (context .manual)).lift seven).state ≠ .excluded ∧ ((part (context .manual)).lift seven).state ≠ .queued
      ∧ ((part (context .manual)).lift seven).state ≠ .rescuing ∧ ((part (context .manual)).lift seven).state ≠ .stalled
      ∧ Serves (part (context .normal)) ∧ ((part (context .normal)).lift seven).state ≠ .excluded
      ∧ ((part (context .normal)).lift seven).state ≠ .queued ∧ ((part (context .normal)).lift seven).state ≠ .rescuing
      ∧ ((part (context .normal)).lift seven).state ≠ .manual ∧ ((part (context .manual)).lift seven).state = .manual := by
  decide +kernel

theorem witness_ControlsOfWaitingLifts :
    waiting.Coherent ∧ (waiting.lift seven).state = .queued ∧ (part { context .stalled with hold := true }).Coherent
      ∧ ((part { context .stalled with hold := true }).lift seven).state = .stalled
      ∧ (∃ r ∈ (waiting.lift seven).lastReport, r.verdict.trapping = true ∧ r.verdict.cls ≠ .stallNoAuto)
      ∧ ((part { context .stalled with hold := true }).releaseLift seven 5 |>.lift seven).state = .queued := by
  refine ⟨by decide +kernel, by decide +kernel, by decide +kernel, by decide +kernel, ⟨_, rfl, by decide +kernel⟩,
    by decide +kernel⟩

theorem witness_AbortIsTakenAtOnce :
    Serves pausing ∧ liftOfNumber (7 : Byte).toNat = some seven ∧ (pausing.lift seven).state = .rescuing
      ∧ (pausing.lift seven).rescue = some (record 5 { repeats := 0, timer := some ⟨1000, 20⟩, creep := none })
      ∧ (record 5 { repeats := 0, timer := some ⟨1000, 20⟩, creep := none }).abortPending = false
      ∧ pausing.inCreep seven = false ∧ Serves (creep .stopped) ∧ ((creep .stopped).lift seven).state = .rescuing
      ∧ (creep .stopped).inCreep seven = true ∧ ((creep .stopped).lift seven).moving = false := by decide +kernel

theorem witness_AbortIsDeferredOrRepeated :
    Serves (creep .movingUp) ∧ liftOfNumber (7 : Byte).toNat = some seven
      ∧ ((creep .movingUp).lift seven).state = .rescuing
      ∧ ((creep .movingUp).lift seven).rescue.map (·.abortPending) = some false
      ∧ ((creep .movingUp).runningStep seven).map (·.action) = some .creep
      ∧ ((creep .movingUp).lift seven).moving = true ∧ (creep .movingUp).creepWork seven = some creeping
      ∧ nextLanding ((creep .movingUp).lift seven).landings ((creep .movingUp).lift seven).creepDirection
          ((creep .movingUp).lift seven).pos.position = some 2
      ∧ (∀ o ∈ (creep .movingUp).slot seven, o.kind.isStop = false)
      ∧ Serves (rescued { record 5 Working.empty with abortPending := true } (bankWith .pause))
      ∧ { record 5 Working.empty with abortPending := true }.abortPending = true := by decide +kernel

theorem witness_ExtendStepWritesTheReload :
    Serves (creep .movingUp) ∧ (List.replicate 14 (0 : Word)).length ≤ 14 ∧ liftOfNumber (25 : Byte).toNat = none
      ∧ liftOfNumber (7 : Byte).toNat = some seven ∧ Serves waiting ∧ (waiting.lift seven).state ≠ .rescuing
      ∧ pausing.inCreep seven = false ∧ ((creep .movingUp).lift seven).state = .rescuing
      ∧ (creep .movingUp).inCreep seven = true ∧ ((creep .movingUp).lift seven).rescue.isSome = true
      ∧ (creep .movingUp).creepWork seven = some creeping := by decide +kernel

theorem witness_RestartStopsTheScan :
    Serves State.reset ∧ State.reset.exchange = none ∧ Serves pausing
      ∧ ({ State.reset with exchange := some (asked 17 .status) } : State).exchange.isSome = true
      ∧ Serves { State.reset with exchange := some (asked 17 .status) } := by decide +kernel

theorem witness_RestartClearsTheRuntimeState :
    restarting.restart = .allStop ∧ (restarting.scan.bank restarting.scan.active).valid = false
      ∧ (({ restarting with scan := scanning .stopped 0 } : State).scan.bank .a).valid = true
      ∧ ({ restarting with scan := scanning .stopped 0 } : State).scan.active = .a
      ∧ State.reset.restart ≠ .allStop ∧ State.reset.Settled ∧ State.reset.LinkServed := by decide +kernel

theorem witness_UnknownRequestsAreRefused :
    Serves State.reset ∧ (List.replicate 15 (0 : Word)).length ≤ 15 ∧ knownKind ((0x2601 : Word).toNat / 256) = false
      ∧ (0 : Byte) ≠ 1 ∧ (0 : Byte) ≠ 2 ∧ (0 : Byte) ≠ 3 := by decide +kernel

theorem witness_DiscardedLinkFrames :
    State.reset.Settled ∧ (List.replicate 16 (0 : Word)).length ≤ 16 ∧ (1 : BitVec 6) ≠ 0 ∧ full.Settled
      ∧ 4 ≤ full.link.mgmtReplies.length ∧ Frame.ofWords [0, 0, 0] true = none
      ∧ Frame.ofWords (Frame.words ⟨1, 0, 1, 0, []⟩) true = some ⟨1, 0, 1, 0, []⟩
      ∧ (⟨1, 0, 1, 0, []⟩ : Frame).kind ≠ 10 ∧ (⟨1, 0, 1, 0, []⟩ : Frame).kind ≠ 8 := by decide +kernel

theorem witness_RemoteCommandsPassTheGate :
    waiting.Settled ∧ (List.replicate 16 (0 : Word)).length ≤ 16 ∧ ((63 : BitVec 6) = 0 ∨ (63 : BitVec 6) = 63)
      ∧ (17 : BitVec 6) ≠ 0 ∧ (17 : BitVec 6) ≠ 63
      ∧ (waiting.lift seven).entry.ringNode = (17 : BitVec 6).toNat ∧ (waiting.lift seven).state = .queued
      ∧ (∀ l : Lift, (waiting.lift l).entry.ringNode = (5 : BitVec 6).toNat →
          (waiting.lift l).state ≠ .queued ∧ (waiting.lift l).state ≠ .rescuing)
      ∧ waiting.orders.passQueue.length < 4
      ∧ ({ waiting with orders := { waiting.orders with passQueue := List.replicate 4 ⟨5, []⟩ } } : State).Settled
      ∧ 4 ≤ ({ waiting with orders := { waiting.orders with passQueue := List.replicate 4 ⟨5, []⟩ } }
          : State).orders.passQueue.length := by decide +kernel

theorem witness_TransmitEndChoosesTheNextFrame :
    (∀ e ∈ ([⟨3, 1⟩] : List NoticeEntry), e.number ≠ 0)
      ∧ ([⟨3, 1⟩, ⟨0, 2⟩] : List NoticeEntry) = [⟨3, 1⟩] ++ ⟨0, 2⟩ :: []
      ∧ (([⟨3, 1⟩, ⟨0, 2⟩] : List NoticeEntry).map (·.number)).Nodup ∧ full.Settled := by decide +kernel

theorem witness_SilenceExpiryIsolates :
    State.reset.Settled ∧ State.reset.LinkServed ∧ State.reset.link.isolated = false
      ∧ State.reset.params.linkSilenceTime * 1000 ≤ ((15000 : TimeTag) - State.reset.link.lastArrival).toNat
      ∧ ((14999 : TimeTag) - State.reset.link.lastArrival).toNat < State.reset.params.linkSilenceTime * 1000
      ∧ ({ State.reset with link := { LinkPort.powerOn with isolated := true } } : State).Settled
      ∧ ({ State.reset with link := { LinkPort.powerOn with isolated := true } } : State).LinkServed := by
  decide +kernel

/-- Lift 7 is polled. -/
def polled : State := inFlight (part (context .normal)) 17 .status (.poll (at_ 0) .a 1)

/-- The power unit, and the hazard panel, are polled. -/
def polledPower : State := inFlight State.reset 62 .power (.poll (at_ 1) .a 0)
def polledHazard : State :=
  inFlight State.reset 61 .hazard (.poll { Descriptor.powerOn with kind := .pollHazard, gap := 10 } .a 0)

/-- An order of the part, sent with tag 3, is in the slot of lift 7, and its exchange in flight. -/
def ordered : State :=
  inFlight ((part (context .normal)).setSlot seven (some ⟨.stopAndHold, .part, 15, some 3⟩)) 17 .echo (.order seven 3)

/-- A remote command to node 5 is in flight. -/
def commanded : State := inFlight State.reset 5 .command (.command 5)

/-- An exchange asked at 100 with a window of 4 ms is answered at 104, the last moment. -/
theorem answers_at_104 {s : State} {n : Nat} {k : ReplyKind} {r : Reply} (hx : s.exchange = some (asked n k))
    (hs : s.restart = .idle) (hl : r.lane = .a) (hn : r.source.toNat = n)
    (hp : k.lengthNeeded ≤ r.payload.length ∧ r.payload.length ≤ 16) : Answers s (asked n k) k r 104 :=
  ⟨hx, hs, hl, rfl, hn, hp.1, hp.2, 100, 4, rfl, by decide⟩

theorem witness_SendEndOpensTheWindow :
    polled.Settled ∧ polled.LinkServed ∧ polled.exchange = some (asked 17 .status) := by decide +kernel

theorem witness_StatusReportIsTaken :
    Answers polled (asked 17 .status) .status (replied 17 0 stalledPayload) 104
      ∧ polled.scan.phase = .working 98 10 (.poll (at_ 0) .a 1) ∧ (at_ 0).kind = .pollLift
      ∧ liftOfNumber (at_ 0).lift = some seven ∧ (polled.lift seven).state ≠ .excluded
      ∧ (polled.lift seven).entry.ringNode = (asked 17 .status).dest
      ∧ careHit polled.faultTable (at_ 0).care (decodeReport (polled.lift seven).landings.length stalledPayload) = false :=
  ⟨answers_at_104 rfl rfl rfl (by decide) (by decide), by decide +kernel⟩

theorem witness_PowerReportReplacesTheView :
    Answers polledPower (asked 62 .power) .power (replied 62 0 (words [3000, 0x0202])) 104
      ∧ polledPower.scan.phase = .working 98 10 (.poll (at_ 1) .a 0) ∧ (at_ 1).kind = .pollPower
      ∧ (asked 62 .power).dest = polledPower.params.powerNode
      ∧ (asked 62 .power).dest
          ≠ ({ polledPower with params := { Params.powerOn with powerNode := 60 } } : State).params.powerNode
      ∧ Answers { polledPower with params := { Params.powerOn with powerNode := 60 } } (asked 62 .power) .power
          (replied 62 0 (words [3000, 0x0202])) 104 :=
  ⟨answers_at_104 rfl rfl rfl (by decide) (by decide), by decide +kernel, by decide +kernel,
    by decide +kernel, by decide +kernel,
    answers_at_104 rfl rfl rfl (by decide) (by decide)⟩

theorem witness_HazardReportReplacesTheMap :
    Answers polledHazard (asked 61 .hazard) .hazard (replied 61 0 (words [0x21, 0x8000])) 104
      ∧ polledHazard.scan.phase
          = .working 98 10 (.poll { Descriptor.powerOn with kind := .pollHazard, gap := 10 } .a 0)
      ∧ (asked 61 .hazard).dest = polledHazard.params.hazardNode
      ∧ (asked 61 .hazard).dest
          ≠ ({ polledHazard with params := { Params.powerOn with hazardNode := 60 } } : State).params.hazardNode
      ∧ Answers { polledHazard with params := { Params.powerOn with hazardNode := 60 } } (asked 61 .hazard) .hazard
          (replied 61 0 (words [0x21, 0x8000])) 104 :=
  ⟨answers_at_104 rfl rfl rfl (by decide) (by decide), by decide +kernel, by decide +kernel,
    by decide +kernel, answers_at_104 rfl rfl rfl (by decide) (by decide)⟩

theorem witness_EchoEmptiesTheSlot :
    Answers ordered (asked 17 .echo) .echo (replied 17 3 [0]) 104
      ∧ Answers ordered (asked 17 .echo) .echo (replied 17 4 [0]) 104 ∧ ordered.Settled
      ∧ ordered.scan.phase = .working 98 10 (.order seven 3) ∧ ((104 : TimeTag) - 98).toNat < 10
      ∧ ordered.slot seven = some ⟨.stopAndHold, .part, 15, some 3⟩ ∧ (replied 17 3 [0]).tag = 3
      ∧ (replied 17 4 [0]).tag ≠ 3 ∧ 2 ≤ 15 :=
  ⟨answers_at_104 rfl rfl rfl (by decide) (by decide),
    answers_at_104 rfl rfl rfl (by decide) (by decide), by decide +kernel⟩

theorem witness_CommandReplyIsForwarded :
    Answers commanded (asked 5 .command) .command (replied 5 0 (List.replicate 16 0)) 104 ∧ commanded.Settled
      ∧ commanded.scan.phase = .working 98 10 (.command 5) ∧ ((104 : TimeTag) - 98).toNat < 10
      ∧ commanded.link.cmdReplies.length < 4 :=
  ⟨answers_at_104 rfl rfl rfl (by decide) (by decide), by decide +kernel⟩

/-- Lane A with a record. -/
def laned (st : LaneStatus) (n : Nat) (p : ProbePhase) : State := { State.reset with laneA := ⟨st, n, p⟩ }

theorem witness_LanesAreKeptAndChosen :
    ((laned .good 6 .idle).laneRecord .a).status = .good ∧ ((laned .good 6 .idle).laneRecord .a).missCount < 7
      ∧ 7 ≤ ((laned .good 7 .idle).laneRecord .a).missCount
      ∧ ((laned .degraded 8 .idle).laneRecord .a).status = .degraded ∧ (laned .good 0 .due).laneA.probe = .due
      ∧ ({ State.reset with laneB := ⟨.degraded, 8, .due⟩ } : State).laneA.probe = .idle
      ∧ ({ State.reset with laneB := ⟨.degraded, 8, .due⟩ } : State).laneB.probe = .due
      ∧ (laned .degraded 8 .idle).laneA.probe = .idle ∧ (laned .degraded 8 .idle).laneB.probe = .idle
      ∧ ((laned .degraded 8 .idle).laneRecord (otherLane .a)).status = .good
      ∧ (({ laned .degraded 8 .idle with laneB := ⟨.degraded, 8, .idle⟩ } : State).laneRecord (otherLane .a)).status
          = .degraded := by decide +kernel

theorem witness_MissedPollIsRetried :
    polled.Settled ∧ polled.LinkServed ∧ polled.exchange = some (asked 17 .status)
      ∧ (asked 17 .status).waiting = some (100, 4) ∧ polled.restart = .idle
      ∧ polled.scan.phase = .working 98 10 (.poll (at_ 0) .a (0 + 1)) ∧ polled.pollExcluded (at_ 0) = false
      ∧ ((103 : TimeTag) - 100).toNat < 4 ∧ 4 ≤ ((104 : TimeTag) - 100).toNat := by decide +kernel

theorem witness_DiscardedRingFrames :
    State.reset.Settled ∧ State.reset.LinkServed ∧ State.reset.exchange = none ∧ Frame.ofWords [0, 0, 0] true = none
      ∧ polled.Settled ∧ polled.LinkServed ∧ polled.exchange = some (asked 17 .status)
      ∧ (asked 17 .status).lane ≠ .b := by decide +kernel

theorem witness_DiscardedRingFrames_notExpected :
    ∀ f, Frame.ofWords (Frame.words ⟨3, 0, 62, 0, [0, 0]⟩) true = some f →
      f.kind ≠ (asked 17 .status).expects.frameKind ∨ f.source.toNat ≠ (asked 17 .status).dest := by
  intro f h
  rw [show Frame.ofWords (Frame.words ⟨3, 0, 62, 0, [0, 0]⟩) true = some ⟨3, 0, 62, 0, [0, 0]⟩ by decide +kernel] at h
  cases h
  decide

/-- The gap of the third descriptor runs; the fourth is the PAUSE. -/
def gapped : State := { State.reset with scan := scanning (.gapWait 100 10) 2 }

theorem witness_GapAndCycleExpiries :
    gapped.Settled ∧ gapped.LinkServed ∧ gapped.scan.phase = .gapWait 100 10 ∧ ((109 : TimeTag) - 100).toNat < 10
      ∧ 10 ≤ ((110 : TimeTag) - 100).toNat ∧ gapped.scan.current = some 2
      ∧ (gapped.scan.bank gapped.scan.active).descriptors[2 + 1]? = some (at_ 3) ∧ (at_ 3).kind = .pause
      ∧ 1 ≤ (at_ 3).gap ∧ (swappable .cycleWait).Settled ∧ (swappable .cycleWait).LinkServed
      ∧ (swappable .cycleWait).scan.phase = .cycleWait ∧ (swappable .cycleWait).scan.startTime = some 0
      ∧ ((199 : TimeTag) - 0).toNat < (swappable .cycleWait).params.minCyclePeriod
      ∧ (swappable .cycleWait).params.minCyclePeriod ≤ ((200 : TimeTag) - 0).toNat := by decide +kernel

theorem witness_StepTimerEndsTheStep :
    State.reset.Settled ∧ State.reset.LinkServed ∧ State.reset.stepTimer seven = none ∧ pausing.Settled
      ∧ pausing.LinkServed ∧ holding.Settled ∧ holding.LinkServed
      ∧ (pausing.lift seven).rescue = some (record 5 { repeats := 0, timer := some ⟨1000, 20⟩, creep := none })
      ∧ (holding.lift seven).rescue = (pausing.lift seven).rescue ∧ ((2999 : TimeTag) - 1000).toNat < 20 * 100
      ∧ 20 * 100 ≤ ((3000 : TimeTag) - 1000).toNat
      ∧ (record 5 { repeats := 0, timer := some ⟨1000, 20⟩, creep := none }).budget < 32
      ∧ (pausing.stepRecord .bank0 5).action = .pause ∧ (holding.stepRecord .bank0 5).action = .wait .stopped
      ∧ (pausing.stepRecord .bank0 (pausing.stepRecord .bank0 5).chainDone).action = .pause
      ∧ (holding.stepRecord .bank0 (holding.stepRecord .bank0 5).chainFail).action = .pause := by decide +kernel

/-- The power unit reported at time 0. -/
def fresh0 : State :=
  { State.reset with
    reservoir := { level := 3000, feedCount := 2, state := .ready, reportTime := some 0, stale := false } }

theorem witness_PowerStaleExpirySetsTheFlag :
    fresh0.Settled ∧ fresh0.LinkServed ∧ fresh0.reservoir.reportTime = some 0 ∧ fresh0.reservoir.stale = false
      ∧ fresh0.params.powerStaleTime * 1000 ≤ ((10000 : TimeTag) - 0).toNat
      ∧ ((9999 : TimeTag) - 0).toNat < fresh0.params.powerStaleTime * 1000 ∧ State.reset.Settled
      ∧ State.reset.LinkServed ∧ State.reset.reservoir.reportTime = none := by decide +kernel

theorem witness_ReportsAreJudged :
    stalledReport.fault < 64
      ∧ (stalledReport.motion = .stopped ∧ ¬ (stalledReport.doors = .opened ∧ stalledReport.marker.isSome))
      ∧ ((⟨.stall, true⟩ : FaultEntry).cls = .stall) ∧ (60 * 1000 ≤ ((60000 : TimeTag) - 0).toNat)
      ∧ (counted 0 (some 1)).marker.isSome ∧ stalledReport.marker = none
      ∧ ((600000 : TimeTag) - 0).toNat ≤ 600000 ∧ 600000 < ((600001 : TimeTag) - 0).toNat
      ∧ offMarkerUpdate 5 none stalledReport = some 5 := by decide +kernel

theorem witness_PositionStaysInTheShaft :
    (∀ d ∈ floors, d.height ≤ car.shaftTop) ∧ spot.position ≤ car.shaftTop ∧ spot.anchorHeight ≤ car.shaftTop
      ∧ spot.offset.natAbs < (car.shaftTop + 1) * 10000 := by decide +kernel

theorem witness_ReportMovesThePosition :
    (counted 0 (some 3)).marker = some 3 ∧ floors[3]? = some ⟨2350, 6, .front⟩ ∧ (counted 0 none).marker = none
      ∧ Position.powerOn.lastCount = none ∧ spot.lastCount = some 62856
      ∧ 4000 < (encoderDelta .downIncreases 50000 62856).natAbs
      ∧ (encoderDelta .downIncreases 58856 62856).natAbs ≤ 4000
      ∧ (0 : Int) ≤ 600 + Int.tdiv (spot.offset + encoderDelta .downIncreases 62956 62856 * 500) 10000
      ∧ (600 : Int) + Int.tdiv (spot.offset + encoderDelta .downIncreases 62956 62856 * 500) 10000 ≤ car.shaftTop
      ∧ 65535 < 65536 := by decide +kernel

theorem witness_FeasiblePlansAreUsableAndCosted :
    (case 480 0 true none).doubt = true ∧ (case 480 0 false none).doubt = false
      ∧ (planFree (case 480 0 true none)).feasible = true ∧ (planFree (case 480 0 false none)).feasible = true
      ∧ (planFree (case 480 0x7F true none)).feasible = false ∧ 1 ≤ car.rescueSpeed ∧ 266 * 100 ≤ 178 * 150
      ∧ 178 * 2200 ≤ 392 * 1000 ∧ 392 * 1000 < 178 * 2200 + 1000 ∧ 392 ≤ 65534
      ∧ 40000 * 8000 ≤ 320000 * 1000 ∧ 320000 * 1000 < 40000 * 8000 + 1000 ∧ 65534 < 320000 := by decide +kernel

theorem witness_TargetsAreTheNearest :
    (case 900 0 false none).doubt = false ∧ (case 900 0 false none).marker = none
      ∧ (case 900 0 false none).landings.Pairwise (fun a b => a.height < b.height)
      ∧ (planFree (case 900 0 false none)).target = some 1
      ∧ (case 900 0 false none).landings[1]? = some ⟨600, 4, .front⟩
      ∧ imbalance car (some 900) = .heavy ∧ (planFree (case 900 0 false none)).mode = .gravity
      ∧ imbalance car (some 300) = .light ∧ (planFree (case 300 0 false none)).mode = .gravity
      ∧ (planFree (case 300 0 false none)).target = some 2 ∧ imbalance car (some 480) = .balanced
      ∧ (planFree (case 480 0 false none)).target = some 2 ∧ (case 480 0 false none).doubt = false := by decide +kernel

theorem witness_QueueStaysInMeritOrder :
    waiting.queue.Nodup
      ∧ (waiting.queue.filter (· ≠ seven)).Pairwise (fun a b => (waiting.lift b).merit ≤ (waiting.lift a).merit) := by
  decide +kernel

/-- Lifts 4, 7 and 11 of the bypass example of chapter 5. -/
def three : State :=
  { ((State.reset.setLift 3 (place 900 2780 20)).setLift 6 (place 660 170 12)).setLift 10 (place 420 392 12) with
    queue := [3, 6, 10]
    params := { Params.powerOn with bypassGuard := 1 }
    reservoir := { level := 3000, feedCount := 2, state := .discharging, reportTime := some 0, stale := false } }

theorem witness_WalkGrantsTheFirstThatFits :
    State.reset.reservoir.stale = true ∧ State.reset.queue = []
      ∧ ({ three with reservoir := { three.reservoir with state := .fault } } : State).reservoir.state = .fault
      ∧ min (2 : Nat) 1 ≤ (allLifts.filter fun l => (pausing.lift l).rescue.isSome).length
      ∧ three.walk three.queue [] = some (6, [3]) ∧ (three.raiseBypass 3).walk [3, 10] [] = none := by decide +kernel

theorem witness_GrantReservesAndStarts :
    ((three.lift 6).plan.map (·.mode)) = some .assisted ∧ (6 : Lift) ∉ ([3] : List Lift) ∧ ([3] : List Lift).Nodup
      ∧ (three.lift 6).state = .queued ∧ (three.lift 3).queueData = some ⟨0, 0⟩ ∧ three.fits 6 = true
      ∧ (three.lift 6).plan.map (·.totalCost)
          = (three.lift 6).plan.map (fun p => p.creepCost + p.doorCost) := by decide +kernel

theorem witness_FramesAndReportsReadBack :
    (⟨8, 5, 0, 0, List.replicate 16 7⟩ : Frame).payload.length ≤ 16 ∧ 12 ≤ 12 ∧ stalledReport.fault ≤ 63
      ∧ stalledReport.encoder ≤ 65535 ∧ (∀ m ∈ (counted 0 (some 11)).marker, m < 12)
      ∧ (∀ kg ∈ stalledReport.load, kg ≤ 2500) := by decide +kernel

/-- A safe state with a command in front: the states that the invariants of a step speak of. -/
theorem witness_invariants :
    waiting.Coherent ∧ pausing.Coherent ∧ pausing.Balanced ∧ pausing.StepsBounded ∧ full.QueuesBounded
      ∧ full.NoticesListed ∧ pausing.Settled ∧ pausing.LinkServed ∧ polled.RingCoherent ∧ pausing.params.InRange := by
  refine ⟨?_, ?_, ?_, ?_, ?_⟩ <;> decide +kernel

/-- Each of them steps. -/
theorem witness_invariants_step :
    ∃ t, step { pausing with pending := [.hold 5 7] } = .next t := ⟨_, rfl⟩

theorem witness_RingEventsKeepTheTables :
    requestOf (.stepTimerExpiry 3000 seven) = none ∧ Instr.stepTimerExpiry 3000 seven ≠ .powerOnReset
      ∧ (∀ t, Instr.stepTimerExpiry 3000 seven ≠ .allStopSendEnd t)
      ∧ (∀ t d p, Instr.stepTimerExpiry 3000 seven ≠ .managementRequestDiscard t d p)
      ∧ (∀ t ws b, Instr.stepTimerExpiry 3000 seven ≠ .linkFrameDiscard t ws b)
      ∧ ∃ u, exec (.stepTimerExpiry 3000 seven) pausing = .next u :=
  ⟨rfl, by simp, by simp, by simp, by simp, _, rfl⟩

/-! ## Witnesses of the clauses that stand under a name of their own -/

/-! ### Tables, reads and parameters -/

/-- The first reply of a confirmation, taken at 90 (R132). -/
def firstReply : FirstReply := { source := 17, payload := stalledPayload, arrival := 90, report := stalledReport }

/-- Lift 7's confirmation poll is in flight. -/
def confirming : State := inFlight (part (context .normal)) 17 .status (.confirm (at_ 0) firstReply)

/-- Lift 7 has left service since its poll was taken. -/
def abandoned : State := inFlight State.reset 17 .status .abandoned

theorem witness_abandonPoll :
    polled.scan.phase = .working 98 10 (.poll (at_ 0) .a 1) ∧ (at_ 0).kind = .pollLift
      ∧ liftOfNumber (at_ 0).lift = some seven ∧ polledPower.scan.phase = .working 98 10 (.poll (at_ 1) .a 0)
      ∧ (at_ 1).kind ≠ .pollLift ∧ liftOfNumber (at_ 0).lift ≠ some 5
      ∧ confirming.scan.phase = .working 98 10 (.confirm (at_ 0) firstReply)
      ∧ commanded.scan.phase = .working 98 10 (.command 5)
      ∧ abandoned.scan.phase = .working 98 10 .abandoned := by decide +kernel

/-- Nothing more of a poll of lift 7 is handed on once the lift has left service, even if it is back (R131, R137). -/
theorem test_left_and_back :
    let s := (polled.storeLift seven { car with inService := false }).storeLift seven car
    (s.lift seven).state = .normal ∧ s.scan.phase = .working 98 10 .abandoned
      ∧ (after (.replyWindowClose 104) s).exchange = none
      ∧ ((after (.replyWindowClose 104) s).lift seven).unanswered = 0 := by decide +kernel

theorem witness_ParametersActAtOnce :
    fresh0.reservoir.stale = false ∧ fresh0.reservoir.level < 3001 ∧ 3000 ≤ fresh0.reservoir.level
      ∧ State.reset.reservoir.stale = true ∧ fresh0.reservoir.reportTime = some 0
      ∧ fresh0.params.powerStaleTime * 1000 ≤ ((10000 : TimeTag) - 0).toNat
      ∧ ((9999 : TimeTag) - 0).toNat < fresh0.params.powerStaleTime * 1000
      ∧ State.reset.reservoir.reportTime = none ∧ State.reset.link.lastArrival = 0
      ∧ 1 ≤ State.reset.params.linkSilenceTime
      ∧ ((swappable .cycleWait).evaluateAdmission 200).scan.phase = .cycleWait
      ∧ ((swappable .cycleWait).evaluateAdmission 200).scan.startTime = some 0
      ∧ ((swappable .cycleWait).evaluateAdmission 200).params.minCyclePeriod ≤ ((200 : TimeTag) - 0).toNat
      ∧ ((199 : TimeTag) - 0).toNat < ((swappable .cycleWait).evaluateAdmission 199).params.minCyclePeriod
      ∧ (State.reset.evaluateAdmission 0).scan.phase ≠ .cycleWait ∧ Serves fresh0 ∧ Serves (swappable .cycleWait) := by
  decide +kernel

theorem witness_EntriesAreRead :
    liftOfNumber 24 = some 23 ∧ 63 < 64 ∧ 95 < 96 ∧ State.reset.params.values[18]? = some 61
      ∧ State.reset.params.values[0]? = some 3 := by decide +kernel

theorem witness_ContextsAreRead :
    (State.reset.lift seven).lastReport = none ∧ (waiting.lift seven).lastReport.isSome = true
      ∧ (State.reset.lift seven).plan = none ∧ (waiting.lift seven).plan = some case1
      ∧ (State.reset.lift seven).queueData = none ∧ (waiting.lift seven).queueData = some ⟨0, 0⟩
      ∧ (waiting.lift seven).rescue = none
      ∧ (pausing.lift seven).rescue = some (record 5 { repeats := 0, timer := some ⟨1000, 20⟩, creep := none })
      ∧ 20 * 100 - ((1001 : TimeTag) - 1000).toNat ≤ 20 * 100
      ∧ 20 * 100 < 20 * 100 - ((1001 : TimeTag) - 1000).toNat + 100
      ∧ 20 * 100 - ((3000 : TimeTag) - 1000).toNat ≤ 0 * 100
      ∧ (Working.empty.timer = none) ∧ ([1, 2] : List Nat).length ≤ 2 ∧ waiting.slot seven = none
      ∧ ordered.slot seven = some ⟨.stopAndHold, .part, 15, some 3⟩ := by decide +kernel

/-! ### RESTART -/

/-- RESTART waits for the poll of lift 7. -/
def quieting : State := { polled with restart := .quieting, scan := scanning .stopped 0 }

theorem witness_quieting :
    quieting.Settled ∧ quieting.restart = .quieting ∧ quieting.exchange = some (asked 17 .status)
      ∧ quieting.RingCoherent ∧ (asked 17 .status).waiting = some (100, 4) ∧ 4 ≤ ((104 : TimeTag) - 100).toNat
      ∧ Meets (asked 17 .status) .status (replied 17 0 stalledPayload) 104 := by
  refine ⟨by decide +kernel, by decide +kernel, by decide +kernel, by decide +kernel, rfl, by decide, ?_⟩
  exact ⟨rfl, rfl, by decide, by decide, by decide, 100, 4, rfl, by decide⟩

/-- The words of ALL STOP (R111, R120): 7FC0h, 0000h before their check word, on lane A and then on lane B. -/
theorem test_all_stop :
    (after (.replyWindowClose 104) quieting).allStop.map (fun p => (p.1, p.2.take 2))
      = [(.a, words [0x7FC0, 0]), (.b, words [0x7FC0, 0])] := by decide +kernel

theorem witness_RestartedWaits :
    ({ restarting with link := { LinkPort.powerOn with transmitting := some [1] } } : State).link.transmitting = some [1]
      ∧ restarting.link.transmitting = none ∧ restarting.link.mgmtReplies = []
      ∧ ({ full with restart := .allStop } : State).link.mgmtReplies
          = reply 0 1 [] :: List.replicate 3 (reply 0 1 [])
      ∧ restarting.link.isolated = false
      ∧ ({ restarting with link := { LinkPort.powerOn with isolated := true } } : State).link.isolated = true := by
  decide +kernel

/-! ### Rescue states -/

/-- Lift 7 in a rescue state, its last verdict given. -/
def judged (st : RescueState) (v : Verdict) : State :=
  part { context st with lastReport := some { report := stalledReport, arrival := 0, verdict := v } }

theorem witness_StalledIsEvaluated :
    ((judged .stalled ⟨false, .ignore, false⟩).lift seven).state = .stalled
      ∧ ((judged .stalled ⟨true, .stallNoAuto, false⟩).lift seven).hold = false
      ∧ (planFree (planInput (judged .stalled ⟨true, .stall, false⟩) seven 5)).feasible = true
      ∧ (planFree (planInput { judged .stalled ⟨true, .stall, false⟩ with hazard := 0xFFFFFFFE } seven 5)).feasible = false
      ∧ ((part { context .stalled with hold := true }).lift seven).hold = true := by decide +kernel

theorem witness_ReportsAreDebounced :
    ((judged .normal ⟨true, .stall, false⟩).lift seven).state = .normal
      ∧ ((part { context .suspect with suspectCount := 2 }).lift seven).state = .suspect
      ∧ 1 < State.reset.params.confirmCount ∧ min 15 (1 + 1) < State.reset.params.confirmCount
      ∧ State.reset.params.confirmCount ≤ min 15 (2 + 1)
      ∧ ({ Params.powerOn with confirmCount := 1 } : Params).confirmCount ≤ 1 := by decide +kernel

theorem witness_WaitingLiftsTakeReports :
    (waiting.lift seven).state = .queued ∧ ((waiting.lift seven).plan.map (·.merit)) = some 420
      ∧ (planFree (planInput waiting seven 540000)).merit = 420 ∧ (planFree (planInput waiting seven 600000)).merit ≠ 420
      ∧ (planFree (planInput waiting seven 540000)).feasible = true
      ∧ (planFree (planInput { waiting with hazard := 0xFFFFFFFE } seven 5)).feasible = false := by decide +kernel

theorem witness_RescuedLiftsTakeReports :
    (pausing.lift seven).state = .rescuing ∧ ({ stalledReport with chainOpen := true } : Report).chainOpen = true
      ∧ stalledReport.chainOpen = false ∧ ((part (context .released)).lift seven).state = .released
      ∧ ((part { context .released with occupancy := some 0 }).lift seven).occupancy = some 0
      ∧ ((part (context .manual)).lift seven).state = .manual ∧ stalledReport.mainsLost = true
      ∧ ({ stalledReport with mainsLost := false } : Report).mainsLost = false ∧ stalledReport.motion = .stopped
      ∧ stalledReport.marker = none := by decide +kernel

/-- Lift 7 is OFFLINE, having been in a rescue state. -/
def offline (st : RescueState) : State := part { context .offline with beforeOffline := some st }

theorem witness_OfflineLiftsReturn :
    ((offline .manual).lift seven).state = .offline ∧ ((offline .manual).lift seven).beforeOffline = some .manual
      ∧ ((offline .released).lift seven).beforeOffline = some .released
      ∧ ((offline .queued).lift seven).beforeOffline = some .queued
      ∧ ((offline .suspect).lift seven).beforeOffline = some .suspect := by decide +kernel

theorem witness_UnansweredPollsAreCounted :
    (State.reset.lift seven).state = .excluded ∧ (waiting.lift seven).state ≠ .excluded
      ∧ min 15 (2 + 1) < State.reset.params.offlineLimit ∧ State.reset.params.offlineLimit ≤ min 15 (3 + 1)
      ∧ ((offline .manual).lift seven).state = .offline ∧ (pausing.lift seven).state = .rescuing
      ∧ (waiting.lift seven).state ≠ .offline ∧ (waiting.lift seven).state ≠ .rescuing := by decide +kernel

theorem witness_ExecutionsEnd :
    (pausing.lift seven).state = .rescuing
      ∧ (pausing.lift seven).rescue = some (record 5 { repeats := 0, timer := some ⟨1000, 20⟩, creep := none })
      ∧ (record 5 Working.empty).abortPending = false
      ∧ { record 5 Working.empty with abortPending := true }.abortPending = true
      ∧ (pausing.lift seven).attempt < (pausing.lift seven).entry.maxAttempts
      ∧ (((rescued (record 5 Working.empty) (bankWith .pause)).modLift seven fun c => { c with attempt := 2 }).lift
          seven).entry.maxAttempts ≤ 2 := by decide +kernel

theorem witness_ControlsOfWaitingLifts_release :
    (∃ r, ((part { context .stalled with hold := true }).lift seven).lastReport = some r ∧ r.verdict.trapping = true
        ∧ r.verdict.cls ≠ .stallNoAuto)
      ∧ (planFree (planInput (part { context .stalled with hold := true }) seven 5)).feasible = true
      ∧ (planFree (planInput { part { context .stalled with hold := true } with hazard := 0xFFFFFFFE } seven 5)).feasible
          = false := by
  refine ⟨⟨_, rfl, by decide +kernel⟩, ?_⟩
  decide +kernel

/-! ### Copies, power, hazards -/

/-- A port whose copy FIFO holds 7, or 8. -/
def copying (n : Nat) : State :=
  { part (context .normal) with link := { LinkPort.powerOn with copies := List.replicate n (copyFrame 17 stalledPayload) } }

theorem witness_CopiesAreFiltered :
    (copying 7).link.isolated = false ∧ (copying 7).lastCopy seven ≠ some stalledReport.toReportFields
      ∧ (copying 7).link.copies.length < 8 ∧ 8 ≤ (copying 8).link.copies.length
      ∧ ({ State.reset with link := { LinkPort.powerOn with isolated := true } } : State).link.isolated = true
      ∧ ((copying 0).setLastCopy seven (some stalledReport.toReportFields)).lastCopy seven
          = some stalledReport.toReportFields := by decide +kernel

/-- The copy of a report leaves before the STATE notice that the same report brings about (R153). -/
theorem test_copy_leaves_first :
    let s := (part { context .suspect with suspectCount := 2 }).takeReport seven 17 stalledPayload stalledReport 5
    s.link.transmitting.map (·.take 2) = some (words [0x2011, 0x2000])
      ∧ s.link.notices = [⟨7, 1⟩] := by decide +kernel

theorem witness_ReportsAreTaken :
    (State.reset.lift seven).state = .excluded ∧ (polled.lift seven).state ≠ .excluded
      ∧ (polled.lift seven).entry.ringNode = 17 ∧ (polled.lift seven).entry.ringNode ≠ 16 := by decide +kernel

theorem witness_StatusReportIsTaken_confirmed :
    Answers confirming (asked 17 .status) .status (replied 17 0 stalledPayload) 104
      ∧ confirming.scan.phase = .working 98 10 (.confirm (at_ 0) firstReply)
      ∧ liftOfNumber (at_ 0).lift = some seven
      ∧ careHit polled.faultTable { (at_ 0).care with mainsLost := true } stalledReport = true :=
  ⟨answers_at_104 rfl rfl rfl (by decide) (by decide), by decide +kernel⟩

theorem witness_PowerReportsAreTaken :
    w (words [499]) 0 < fresh0.params.reserveFloor ∧ fresh0.params.reserveFloor ≤ fresh0.reservoir.level
      ∧ ¬ w (words [500]) 0 < fresh0.params.reserveFloor ∧ State.reset.reservoir.stale = true := by decide +kernel

theorem witness_HazardsReplan :
    (∃ d ∈ (waiting.lift seven).landings, (0x20 : BitVec 32).getLsbD d.zone = true)
      ∧ ¬ (∃ d ∈ (waiting.lift seven).landings, (0x04 : BitVec 32).getLsbD d.zone = true)
      ∧ (waiting.lift seven).state = .queued ∧ ((part (context .stalled)).lift seven).state = .stalled
      ∧ (pausing.lift seven).state = .rescuing ∧ ((part (context .normal)).lift seven).state ≠ .stalled
      ∧ (∃ l : Lift, waiting.replanRaised 0x20 l = true) ∧ (∀ l : Lift, polledHazard.replanRaised 0x20 l = false) := by
  decide +kernel

/-! ### Orders -/

/-- The slot of lift 7 holds an order. -/
def holds (k : OrderKind) (p : Poster) (n : Nat) (t : Option (BitVec 4)) : State :=
  pausing.setSlot seven (some ⟨k, p, n, t⟩)

theorem witness_PostingsTakeTheSlot :
    (∃ o ∈ (holds .stopAndHold .part 15 none).slot seven, o.kind.isStop = true) ∧ OrderKind.armRescue.isStop = false
      ∧ (∀ o ∈ (holds .armRescue .part 1 none).slot seven, o.kind.isStop = true → OrderKind.disarm.isStop = true)
      ∧ (∀ o ∈ pausing.slot seven, o.kind.isStop = true → OrderKind.disarm.isStop = true) := by decide +kernel

theorem witness_OrderOutcomesAct :
    (∀ o ∈ pausing.slot seven, o.tag ≠ some 3)
      ∧ (holds .disarm (.entry 1) 1 (some 3)).slot seven = some ⟨.disarm, .entry 1, 1, some 3⟩
      ∧ (holds .disarm (.entry 1) 2 (some 3)).slot seven = some ⟨.disarm, .entry 1, 2, some 3⟩
      ∧ (4 : BitVec 4) ≠ 3 := by decide +kernel

/-- Lift 7 runs a step with an action, entered first. -/
def running (a : StepAction) (k : Option CreepWork) : State :=
  rescued (record 5 { repeats := 0, timer := some ⟨1000, 20⟩, creep := k }) (bankWith a)

theorem witness_OutcomesAreDelivered :
    (waiting.lift seven).rescue = none ∧ (pausing.lift seven).rescue.map (·.budget) = some 1
      ∧ Poster.part ≠ .entry 1 ∧ ((running (.order .armRescue 0) none).stepRecord .bank0 5).action = .order .armRescue 0
      ∧ ((running .creep (some creeping)).stepRecord .bank0 5).action = .creep
      ∧ (pausing.stepRecord .bank0 5).action = .pause := by decide +kernel

theorem witness_OrdersAreChosenInTurn :
    (∃ o ∈ (holds .stopAndHold .part 15 none).slot ((holds .stopAndHold .part 15 none).orders.stopPointer + 6),
        o.kind.isStop = true)
      ∧ (∀ j : Lift, j < 6 → (holds .stopAndHold .part 15 none).slot
          ((holds .stopAndHold .part 15 none).orders.stopPointer + j) = none)
      ∧ (∃ o ∈ (holds .armRescue .part 1 none).slot ((holds .armRescue .part 1 none).orders.ordPointer + 6),
          o.kind.isStop = false)
      ∧ (∀ l : Lift, ∀ o ∈ (holds .armRescue .part 1 none).slot l, o.kind.isStop = false)
      ∧ (∀ l : Lift, pausing.slot l = none) := by decide +kernel

theorem witness_ChosenOrdersAreSent :
    (at_ 2).kind = .orderSlot ∧ (holds .armRescue .part 1 none).chooseOrder = some seven
      ∧ (holds .armRescue .part 1 (some 3)).chooseOrder = some seven
      ∧ (holds .armRescue .part 1 none).slot seven = some ⟨.armRescue, .part, 1, none⟩ := by decide +kernel

theorem witness_SlotsWithoutOrdersPassCommands :
    let s := { waiting with orders := { waiting.orders with passQueue := [⟨17, []⟩, ⟨5, [1]⟩] } }
    (∀ l : Lift, s.slot l = none) ∧ (at_ 2).kind = .orderSlot ∧ (s.lift seven).entry.ringNode = (17 : BitVec 6).toNat
      ∧ (s.lift seven).state = .queued ∧ s.orders.passQueue = [⟨17, []⟩] ++ ⟨5, [1]⟩ :: []
      ∧ ¬ ∃ l : Lift, (s.lift l).entry.ringNode = (5 : BitVec 6).toNat
          ∧ ((s.lift l).state = .queued ∨ (s.lift l).state = .rescuing) := by decide +kernel

theorem witness_orderExchange :
    ordered.restart = .idle ∧ ordered.exchange = some (asked 17 .echo)
      ∧ ordered.scan.phase = .working 98 10 (.order seven 3) ∧ (asked 17 .echo).waiting = some (100, 4)
      ∧ 4 ≤ ((104 : TimeTag) - 100).toNat ∧ Meets (asked 17 .echo) .echo (replied 17 3 [0]) 104 := by
  refine ⟨by decide +kernel, by decide +kernel, by decide +kernel, rfl, by decide, ?_⟩
  exact ⟨rfl, rfl, by decide, by decide, by decide, 100, 4, rfl, by decide⟩

/-! ### The scan cycle -/

theorem witness_exhausted :
    (inFlight (part (context .normal)) 17 .status (.poll (at_ 0) .a 0)).restart = .idle
      ∧ (inFlight (part (context .normal)) 17 .status (.poll (at_ 0) .a 0)).scan.phase
          = .working 98 10 (.poll (at_ 0) .a 0)
      ∧ (polled.lift seven).state ≠ .excluded ∧ liftOfNumber (at_ 0).lift = some seven
      ∧ polledPower.scan.phase = .working 98 10 (.poll (at_ 1) .a 0) ∧ (at_ 1).kind = .pollPower
      ∧ confirming.scan.phase = .working 98 10 (.confirm (at_ 0) firstReply)
      ∧ abandoned.scan.phase = .working 98 10 .abandoned ∧ commanded.scan.phase = .working 98 10 (.command 5)
      ∧ commanded.restart = .idle ∧ (asked 5 .command).waiting = some (100, 4) ∧ 4 ≤ ((104 : TimeTag) - 100).toNat
      ∧ abandoned.exchange = some (asked 17 .status) := by decide +kernel

theorem witness_DescriptorsAreTaken :
    (at_ 0).kind = .pollLift ∧ liftOfNumber (at_ 0).lift = some seven ∧ (State.reset.lift seven).state = .excluded
      ∧ (polled.lift seven).state ≠ .excluded ∧ (at_ 1).kind = .pollPower
      ∧ ({ Descriptor.powerOn with kind := .pollHazard } : Descriptor).kind = .pollHazard ∧ (at_ 3).kind = .pause
      ∧ Descriptor.powerOn.gap = 0 ∧ 1 ≤ (at_ 3).gap := by decide +kernel

theorem witness_DescriptorsFollow :
    gapped.scan.current = some 2 ∧ ((109 : TimeTag) - 100).toNat < 10 ∧ 10 ≤ ((110 : TimeTag) - 100).toNat
      ∧ (gapped.scan.bank gapped.scan.active).descriptors[1]? = some (at_ 1)
      ∧ (({ gapped with scan := { gapped.scan with current := some 1 } } : State).takeDescriptor (at_ 1) 110).2 = false
      ∧ (({ gapped with scan := { gapped.scan with current := some 0 } } : State).takeDescriptor (at_ 0) 110).2 = true
      ∧ (gapped.scan.bank gapped.scan.active).descriptors[4]? = none ∧ gapped.scan.startTime = some 0
      ∧ gapped.params.minCyclePeriod ≤ ((200 : TimeTag) - 0).toNat
      ∧ ((199 : TimeTag) - 0).toNat < gapped.params.minCyclePeriod := by decide +kernel

theorem witness_CyclesBegin :
    (creep .movingUp).inCreep seven = true ∧ (∀ l : Lift, State.reset.inCreep l = false)
      ∧ (laned .degraded 8 .idle).scan.cycleCounter.toNat % 16 = 0 ∧ (laned .degraded 8 .idle).laneB.status = .good
      ∧ ((polled.openCycle 5).scan.bank (polled.openCycle 5).scan.active).descriptors[0]? = some (at_ 0)
      ∧ (({ polled.openCycle 5 with scan := { (polled.openCycle 5).scan with current := some 0 } } : State).takeDescriptor
          (at_ 0) 5).2 = false := by decide +kernel

theorem witness_CyclesEnd :
    gapped.scan.startTime = some 0 ∧ gapped.scan.swapPending = false
      ∧ gapped.params.creepHoldTime * 100 < ((2001 : TimeTag) - 0).toNat
      ∧ ¬ gapped.params.creepHoldTime * 100 < ((2000 : TimeTag) - 0).toNat := by decide +kernel

/-- A cycle that had a CREEP step and ran 2001 ms ends with CYCLE SLOW (R135); a pending swap raises BANK SWAPPED. -/
theorem test_cycle_slow :
    (({ gapped with scan := { gapped.scan with creepSeen := true, swapPending := true } } : State).endCycle
        2001).link.notices = [⟨0, 0x140⟩]
      ∧ (({ gapped with scan := { gapped.scan with creepSeen := true } } : State).endCycle 2000).link.notices = [] := by
  decide +kernel

/-! ### The step sequencer -/

theorem witness_StepsEndByTheirRules :
    (pausing.lift seven).rescue = some (record 5 { repeats := 0, timer := some ⟨1000, 20⟩, creep := none })
      ∧ (∃ o, ((running (.order .armRescue 0) none).setSlot seven (some ⟨.armRescue, .entry 1, 1, none⟩)).slot seven = some o
          ∧ o.kind.isStop = false ∧ o.poster = .entry 1)
      ∧ ((creep .movingUp).stepRecord .bank0 5).action = .creep ∧ (record 5 Working.empty).creepReleased = false
      ∧ { creeping with abortDeferred := true }.abortDeferred = true ∧ (pausing.stepRecord .bank0 5).notify = true := by
  refine ⟨by decide +kernel, ⟨⟨.armRescue, .entry 1, 1, none⟩, by decide +kernel, rfl, rfl⟩, ?_⟩
  decide +kernel

theorem witness_WaitsCountReports :
    (holding.stepRecord .bank0 5).action = .wait .stopped ∧ Satisfies .stopped stalledReport none
      ∧ ¬ Satisfies .doorsOpen stalledReport none ∧ (holding.stepRecord .bank0 5).count = 1
      ∧ (pausing.stepRecord .bank0 5).action = .pause := by decide +kernel

theorem witness_StepsAreEntered :
    (∀ a, ((running a none).stepRecord .bank0 5).action = a) ∧ (record 4 Working.empty).budget < 32
      ∧ 32 ≤ { record 4 Working.empty with budget := 32 }.budget
      ∧ (pausing.lift seven).stepOrder .openDoors 0 = some (.openDoors 2 .rear)
      ∧ ((pausing.modLift seven fun c => { c with plan := none }).lift seven).stepOrder .openDoors 0 = none
      ∧ (∀ o ∈ pausing.slot seven, o.kind.isStop = true → OrderKind.disarm.isStop = true)
      ∧ (∃ o ∈ (holds .stopAndHold .part 15 none).slot seven, o.kind.isStop = true)
      ∧ ([1] : List Nat).length < 2 ∧ 2 ≤ ([1, 2] : List Nat).length ∧ (record 4 Working.empty).stack = [] :=
  ⟨fun _ => rfl, by decide +kernel⟩

theorem witness_StepOrdersAreFormed :
    (pausing.lift seven).plan = some case1 ∧ case1.target = some 2
      ∧ (pausing.lift seven).landings[2]? = some ⟨1500, 5, .rear⟩ ∧ (State.reset.lift seven).plan = none
      ∧ ({ case1 with mode := .marker, target := none } : Plan).mode = .marker
      ∧ (pausing.lift seven).lastReport.bind (·.report.marker) = none
      ∧ (pausing.lift seven).landings[4]? = none := by decide +kernel

theorem witness_EntriesFollowOneAnother :
    (pausing.enterOnce seven 6 5).2 = none ∧ ((running (.call 6) none).enterOnce seven 5 5).2 = some 6
      ∧ ((running .ret none).enterOnce seven 5 5).2 = some 6 := by decide +kernel

/-! ### CREEP -/

theorem witness_CreepIsEntered :
    ((running .creep none).stepRecord .bank0 5).action = .creep ∧ (record 5 Working.empty).working.creep = none
      ∧ (planFree (planInput (running .creep none) seven 5)).feasible = true
      ∧ (planFree (planInput (running .creep none) seven 5)).distance = (record 5 Working.empty).originalDistance
      ∧ (planFree (planInput (running .creep none) seven 5)).direction = case1.direction
      ∧ (planFree (planInput { running .creep none with hazard := 0xFFFFFFFE } seven 5)).feasible = false
      ∧ (planFree (planInput { running .creep none with hazard := 0x20 } seven 5)).direction ≠ case1.direction
      ∧ (record 5 Working.empty).originalDistance
          < (planFree (planInput { running .creep none with hazard := 0x28 } seven 5)).distance
      ∧ (planFree (planInput ((running .creep none).modLift seven fun c =>
          { c with pos := { c.pos with position := 1500 } }) seven 5)).distance = 0
      ∧ (∀ o ∈ (running .creep none).slot seven, o.kind.isStop = false) := by decide +kernel

theorem witness_CreepReportsAreTested :
    (waiting.lift seven).plan = some case1 ∧ case1.direction = .up ∧ 1224 + 10 ≤ creeping.startPosition
      ∧ ¬ 1225 + 10 ≤ creeping.startPosition ∧ creeping.accepted = true
      ∧ ({ stalledReport with ack := .holdExpired } : Report).ack = .holdExpired
      ∧ (counted 0 (some 2)).motion = .stopped ∧ (counted 0 (some 2)).marker = some creeping.orderedLanding
      ∧ (1 : Nat) ≠ creeping.orderedLanding ∧ usableAt 0 floors 1 = true ∧ usableAt 0x10 floors 1 = false := by
  decide +kernel

theorem witness_CreepReportsAct :
    ((creep .movingUp).lift seven).rescue
        = some (record 5 { repeats := 0, timer := some ⟨1000, 20⟩, creep := some creeping })
      ∧ creepVerdict 0 ((creep .movingUp).lift seven) creeping (counted 0 (some 2)) = some true
      ∧ creepVerdict 0 ((creep .movingUp).lift seven) creeping { counted 0 (some 1) with motion := .movingUp } = none
      ∧ (counted 0 (some 1)).marker ≠ none ∧ (counted 0 (some 1)).marker ≠ creeping.markerSeen
      ∧ (counted 0 none).marker = creeping.markerSeen := by decide +kernel

theorem witness_CreepIsRenewed :
    (∃ o ∈ ((creep .movingUp).setSlot seven (some ⟨.stopAndHold, .part, 15, none⟩)).slot seven, o.kind.isStop = true)
      ∧ (∀ o ∈ (creep .movingUp).slot seven, o.kind.isStop = false)
      ∧ ((creep .movingUp).lift seven).plan = some case1 := by decide +kernel

theorem witness_CreepIsRetargeted :
    case1.target = some 2 ∧ usableAt 0 ((creep .movingUp).lift seven).landings 2 = true
      ∧ usableAt 0x20 ((creep .movingUp).lift seven).landings 2 = false ∧ creeping.abortDeferred = false
      ∧ case1.mode ≠ .marker
      ∧ (planDirected (planInput { creep .movingUp with hazard := 0x20 } seven 5) .assisted .up).target = some 3
      ∧ 266 < (planDirected (planInput { creep .movingUp with hazard := 0x20 } seven 5) .assisted .up).distance
      ∧ nextLanding floors .up 1234 = some 2 ∧ nextLanding floors .up 2350 = none
      ∧ (planDirected (planInput { creep .movingUp with hazard := 0x60 } seven 5) .assisted .up).target = none := by
  decide +kernel

/-! ### Targets, figures, queue -/

theorem witness_TargetsAreTheNearest_clauses :
    (case 900 0 false (some 1)).marker = some 1 ∧ usableAt 0 floors 1 = true ∧ usableAt 0x10 floors 1 = false
      ∧ (∃ d ∈ floors, usable 0 d = true ∧ Ahead .down 1234 d.height)
      ∧ (∀ d ∈ floors, usable 0x18 d = true → ¬ Ahead .down 1234 d.height)
      ∧ (∃ d ∈ floors, usable 0x18 d = true) ∧ car.assistPower ≠ 0 ∧ (∀ d ∈ floors, usable 0x78 d = false)
      ∧ (∃ d ∈ floors, usable 0 d = true ∧ Ahead .up 1234 d.height)
      ∧ (∀ d ∈ floors, usable 0x60 d = true → ¬ Ahead .up 1234 d.height) := by decide +kernel

/-- A marker that names an unusable landing does not stop the choice (R61, R62): the balanced car of case 1 is driven UP. -/
theorem test_unusable_marker :
    figures (planFree (case 480 0x10 false (some 1))) = ⟨.assisted, .up, some 2, 178, 392, 404⟩ := by decide +kernel

theorem witness_meritOf :
    (∃ d ∈ floors, d.zone ≠ 0 ∧ (0x20 : BitVec 32).getLsbD d.zone = true)
      ∧ (∀ d ∈ floors, d.zone = 0 ∨ (0x04 : BitVec 32).getLsbD d.zone = false) := by decide +kernel

/-- The states from which a step keeps the queue's order, and every car in its shaft. -/
theorem witness_ordered_queue_step :
    three.Coherent ∧ three.MeritOrdered ∧ ∃ t, step { three with pending := [.forceManual 5 4] } = .next t :=
  ⟨by decide +kernel, by decide +kernel, _, rfl⟩

theorem witness_cars_step :
    waiting.CarsInShaft ∧ ∃ t, step { waiting with pending := [.hold 5 7] } = .next t :=
  ⟨by decide +kernel, _, rfl⟩

/-! ### Swaps, controls and ABORT -/

theorem witness_SwapsTakeEffect_notRunning :
    let s := { State.reset with scan := { ScanEngine.powerOn with bankB := scanBank } }
    Serves s ∧ s.scan.swapPending = false ∧ (s.scan.bank s.scan.active.other).valid = true ∧ s.scan.running = false := by
  decide +kernel

/-- A swap that finds the Scan Engine not running starts a cycle and raises BANK SWAPPED (R128). -/
theorem test_first_swap :
    let s := after (.swapScan 5) { State.reset with scan := { ScanEngine.powerOn with bankB := scanBank } }
    s.scan.running = true ∧ s.scan.active = .b ∧ s.scan.startTime = some 5 ∧ s.link.notices = [⟨0, 0x40⟩] := by
  decide +kernel

theorem witness_ControlsOfWaitingLifts_exec :
    Serves waiting ∧ (waiting.lift seven).state = .queued ∧ liftOfNumber (7 : Byte).toNat = some seven
      ∧ Serves (part { context .stalled with hold := true })
      ∧ ((part { context .stalled with hold := true }).lift seven).state = .stalled := by decide +kernel

/-- Lift 7 creeps UP above every landing. -/
def beyond : State := (creep .movingUp).modLift seven fun c => { c with pos := { c.pos with position := 2400 } }

theorem witness_AbortIsTakenAtOnce_noLanding :
    Serves beyond ∧ (beyond.lift seven).state = .rescuing ∧ (beyond.lift seven).moving = true
      ∧ (beyond.lift seven).rescue.map (·.abortPending) = some false
      ∧ nextLanding (beyond.lift seven).landings (beyond.lift seven).creepDirection (beyond.lift seven).pos.position
          = none := by decide +kernel

/-- Lift 7 creeps UP with the part's STOP AND HOLD pending. -/
def stopping : State := (creep .movingUp).setSlot seven (some ⟨.stopAndHold, .part, 15, none⟩)

theorem witness_AbortIsDeferredOrRepeated_stop :
    Serves stopping ∧ (stopping.lift seven).state = .rescuing ∧ (stopping.lift seven).moving = true
      ∧ (stopping.lift seven).rescue.map (·.abortPending) = some false ∧ stopping.creepWork seven = some creeping
      ∧ (stopping.runningStep seven).map (·.action) = some .creep
      ∧ nextLanding (stopping.lift seven).landings (stopping.lift seven).creepDirection
          (stopping.lift seven).pos.position = some 2
      ∧ (∃ o ∈ stopping.slot seven, o.kind.isStop = true) := by decide +kernel

/-! ### Timers, renewals, cycle starts -/

theorem witness_StepTimerEndsTheStep_reached :
    ((running (.order .armRescue 0) none).lift seven).rescue
        = some (record 5 { repeats := 0, timer := some ⟨1000, 20⟩, creep := none })
      ∧ ((running (.order .armRescue 0) none).stepRecord .bank0 5).action = .order .armRescue 0
      ∧ (running (.order .armRescue 0) none).Settled ∧ (running (.order .armRescue 0) none).LinkServed
      ∧ (creep .movingUp).Settled ∧ (creep .movingUp).LinkServed
      ∧ ((creep .movingUp).stepRecord .bank0 5).action = .creep ∧ 20 * 100 ≤ ((3000 : TimeTag) - 1000).toNat := by
  decide +kernel

/-- A CREEP step whose timer expires gives its creep reservation back and goes to its fail chain (R85, R95). -/
theorem test_creep_expires :
    (after (.stepTimerExpiry 3000 seven) (creep .movingUp)).outstanding = 12
      ∧ ((after (.stepTimerExpiry 3000 seven) (creep .movingUp)).lift seven).rescue.map (·.step) = some 6
      ∧ (after (.stepTimerExpiry 2999 seven) (creep .movingUp)).outstanding = 404 := by decide +kernel

theorem witness_CreepIsRetargeted_otherStep :
    (pausing.lift seven).rescue.map (·.working.creep) = some none := by decide +kernel

/-- Lift 7, creeping UP past the landing at 1500 as it closes, is retargeted beyond the original plan distance to the next
landing, which is also the new plan's target: a stop there ends the step done (R104, R105, log 44). -/
theorem test_retarget_beyond :
    let s := ({ (creep .movingUp).modLift seven fun c => { c with pos := { c.pos with position := 1500 } } with
                hazard := 0x20 } : State).replanRescuing seven 5
    (s.creepWork seven).map (·.orderedLanding) = some 3 ∧ (s.lift seven).plan.bind (·.target) = some 3
      ∧ (s.lift seven).plan.map (·.distance) = some 850
      ∧ creepVerdict 0x20 (s.lift seven) { creeping with orderedLanding := 3 } (counted 0 (some 3)) = some true := by
  decide +kernel

/-- The Scan Engine does not run, and lift 7 of its first descriptor is EXCLUDED. -/
def skipping : State := { State.reset with scan := { ScanEngine.powerOn with bankA := scanBank } }

theorem witness_CyclesBegin_skipped :
    (∀ l : Lift, skipping.inCreep l = false)
      ∧ ((skipping.openCycle 5).scan.bank (skipping.openCycle 5).scan.active).descriptors[0]? = some (at_ 0)
      ∧ ((skipping.openCycle 5).scan.bank (skipping.openCycle 5).scan.active).valid = true
      ∧ (({ skipping.openCycle 5 with scan := { (skipping.openCycle 5).scan with current := some 0 } }
            : State).takeDescriptor (at_ 0) 5).2 = true := by decide +kernel

/-! ### Runs and evaluations -/

theorem witness_PlansAreWritten :
    ((part { context .stalled with plan := none }).lift seven).plan = none ∧ (waiting.lift seven).plan = some case1
      ∧ Differs case1 { case1 with target := some 3 } ∧ ¬ Differs case1 { case1 with distance := 265, merit := 421 } := by
  decide +kernel

/-- The three lifts with nothing left above the reserve floor. -/
def poor : State := { three with reservoir := { three.reservoir with level := 100 } }

theorem witness_WalkGrantsTheFirstThatFits_open :
    three.reservoir.stale = false ∧ three.reservoir.state ≠ .fault ∧ three.queue ≠ []
      ∧ (allLifts.filter fun l => (three.lift l).rescue.isSome).length
          < min three.params.concurrencyLimit three.reservoir.feedCount
      ∧ three.walk three.queue [] = some (6, [3]) ∧ poor.reservoir.stale = false ∧ poor.reservoir.state ≠ .fault
      ∧ (allLifts.filter fun l => (poor.lift l).rescue.isSome).length
          < min poor.params.concurrencyLimit poor.reservoir.feedCount
      ∧ poor.queue ≠ [] ∧ poor.walk poor.queue [] = none := by decide +kernel

/-- The evaluation of the bypass example grants lift 7, whose empty recipe gives the reservation back at once, and the
next walk ends at lift 4, which has been passed over (R82, R83). -/
theorem test_evaluation_grants :
    let s := three.evaluateAdmission 5
    (s.lift 6).state = .manual ∧ s.queue = [3, 10] ∧ s.outstanding = 0 ∧ (s.lift 3).bypass = 1 := by decide +kernel

end Sys2Proof.Tests
end

section
/-! SUPPORT. A lift context replaced, and every entry into a rescue state as one equation. -/

namespace Sys2Proof.Machine

open Slice0

/-! ### A lift context replaced -/

@[simp] theorem setLift_setLift (s : State) (l : Lift) (c d : LiftContext) :
    (s.setLift l c).setLift l d = s.setLift l d := by
  simp [State.setLift]

@[simp] theorem setLift_lift (s : State) (l : Lift) : s.setLift l (s.lift l) = s := by
  show { s with lifts := s.lifts.set l.val s.lifts[l.val] l.isLt } = s
  rw [Vector.set_getElem_self]

theorem modLift_eq (s : State) (l : Lift) (f : LiftContext → LiftContext) :
    s.modLift l f = s.setLift l (f (s.lift l)) := rfl

@[simp] theorem setLift_modLift (s : State) (l : Lift) (c : LiftContext) (f : LiftContext → LiftContext) :
    (s.setLift l c).modLift l f = s.setLift l (f c) := by
  simp [modLift_eq]

/-- A lift put into a rescue state is its context replaced, with STATE raised at a change (R6). -/
theorem enter_eq_moved (s : State) (l : Lift) (st : RescueState) :
    s.enter l st = moved s l { s.lift l with state := st } := by
  unfold State.enter moved
  by_cases h : (s.lift l).state = st
  · subst h
    rw [if_pos rfl, if_pos rfl]
    exact (setLift_lift s l).symm
  · simp [h, Ne.symm h, modLift_eq, State.raiseLift, raised, liftNumber, LiftReason.mask]

/-- A context change that keeps the rescue state, followed by an entry. -/
theorem setLift_enter (s : State) (l : Lift) (c : LiftContext) (st : RescueState) (h : c.state = (s.lift l).state) :
    (s.setLift l c).enter l st = moved s l { c with state := st } := by
  rw [enter_eq_moved]
  simp [moved, h, raised]

theorem modLift_enter (s : State) (l : Lift) (f : LiftContext → LiftContext) (st : RescueState)
    (h : (f (s.lift l)).state = (s.lift l).state) :
    (s.modLift l f).enter l st = moved s l { f (s.lift l) with state := st } := setLift_enter s l _ st h

/-! ### What `moved` and `left` leave alone -/

theorem lift_moved (s : State) (l k : Lift) (c : LiftContext) :
    (moved s l c).lift k = if k = l then c else s.lift k := by
  unfold moved
  split <;> exact lift_setLift s l k c

@[simp] theorem lift_moved_same (s : State) (l : Lift) (c : LiftContext) : (moved s l c).lift l = c := by
  simp [lift_moved]

theorem lift_moved_other (s : State) {l k : Lift} (c : LiftContext) (h : k ≠ l) : (moved s l c).lift k = s.lift k := by
  simp [lift_moved, h]

@[simp] theorem moved_queue (s : State) (l : Lift) (c : LiftContext) : (moved s l c).queue = s.queue := by
  unfold moved; split <;> rfl
@[simp] theorem moved_outstanding (s : State) (l : Lift) (c : LiftContext) :
    (moved s l c).outstanding = s.outstanding := by
  unfold moved; split <;> rfl
@[simp] theorem moved_admissionDue (s : State) (l : Lift) (c : LiftContext) :
    (moved s l c).admissionDue = s.admissionDue := by
  unfold moved; split <;> rfl
@[simp] theorem moved_orders (s : State) (l : Lift) (c : LiftContext) : (moved s l c).orders = s.orders := by
  unfold moved; split <;> rfl
@[simp] theorem slot_moved (s : State) (l k : Lift) (c : LiftContext) : (moved s l c).slot k = s.slot k := by
  unfold moved; split <;> rfl
@[simp] theorem moved_params (s : State) (l : Lift) (c : LiftContext) : (moved s l c).params = s.params := by
  unfold moved; split <;> rfl

theorem moved_same_state (s : State) (l : Lift) (c : LiftContext) (h : c.state = (s.lift l).state) :
    moved s l c = s.setLift l c := by
  simp [moved, h]

theorem moved_new_state (s : State) (l : Lift) (c : LiftContext) (h : c.state ≠ (s.lift l).state) :
    moved s l c = raised (s.setLift l c) (l.val + 1) 1 := by
  simp [moved, h]

@[simp] theorem lift_left (s : State) (l k : Lift) : (left s l).lift k = s.lift k := by
  unfold left; split <;> rfl
@[simp] theorem left_outstanding (s : State) (l : Lift) : (left s l).outstanding = s.outstanding := by
  unfold left; split <;> rfl
@[simp] theorem slot_left (s : State) (l k : Lift) : (left s l).slot k = s.slot k := by
  unfold left; split <;> rfl

theorem left_of_not_queued (s : State) (l : Lift) (h : (s.lift l).state ≠ .queued) : left s l = s := by
  simp [left, h]

theorem left_of_queued (s : State) (l : Lift) (h : (s.lift l).state = .queued) :
    left s l = { s with queue := s.queue.filter (· ≠ l), admissionDue := true } := by
  simp [left, h]

/-- A departure from the queue and a context change that keeps the rescue state commute. -/
theorem left_setLift (s : State) (l : Lift) (c : LiftContext) (h : c.state = (s.lift l).state) :
    left (s.setLift l c) l = (left s l).setLift l c := by
  unfold left
  rw [lift_setLift_same, h]
  split <;> rfl

theorem mem_left_queue (s : State) (l k : Lift) :
    k ∈ (left s l).queue ↔ k ∈ s.queue ∧ ((s.lift l).state = .queued → k ≠ l) := by
  by_cases h : (s.lift l).state = .queued
  · simp [left, h]
  · simp [left, h]

theorem left_queue_nodup (s : State) (l : Lift) (h : s.queue.Nodup) : (left s l).queue.Nodup := by
  unfold left
  split
  · exact h.filter _
  · exact h

/-! ### The queue -/

/-- A departure from the queue by another cause than a grant, as the state without the lift's place and the context
without its queue data (R79, R80). -/
theorem leaveQueue_of_queued (s : State) (l : Lift) (h : (s.lift l).state = .queued) :
    s.leaveQueue l = (left s l).setLift l { s.lift l with queueData := none } := by
  rw [State.leaveQueue, if_pos h, left_of_queued s l h]
  rfl

theorem leaveQueue_of_not_queued (s : State) (l : Lift) (h : (s.lift l).state ≠ .queued) : s.leaveQueue l = s := by
  simp [State.leaveQueue, h]

/-- A departure from the queue whose context change drops the queue data, and an entry after it. -/
theorem leaveQueue_modLift_enter (s : State) (l : Lift) (f : LiftContext → LiftContext) (st : RescueState)
    (hq : f { s.lift l with queueData := none } = f (s.lift l)) (hs : (f (s.lift l)).state = (s.lift l).state) :
    ((s.leaveQueue l).modLift l f).enter l st = moved (left s l) l { f (s.lift l) with state := st } := by
  by_cases h : (s.lift l).state = .queued
  · rw [leaveQueue_of_queued s l h, setLift_modLift, hq]
    exact setLift_enter _ _ _ _ (by rw [hs, lift_left])
  · rw [leaveQueue_of_not_queued s l h, left_of_not_queued s l h]
    exact modLift_enter s l f st hs

theorem mem_insertByKeys (s : State) (l k : Lift) (q : List Lift) : k ∈ insertByKeys s l q ↔ k = l ∨ k ∈ q := by
  induction q with
  | nil => simp [insertByKeys]
  | cons x xs ih =>
    unfold insertByKeys
    split
    · simp
    · simp only [List.mem_cons, ih]
      tauto

theorem insertByKeys_nodup (s : State) (l : Lift) (q : List Lift) (hq : q.Nodup) (hl : l ∉ q) :
    (insertByKeys s l q).Nodup := by
  induction q with
  | nil => simp [insertByKeys]
  | cons x xs ih =>
    obtain ⟨hx, hxs⟩ := List.nodup_cons.mp hq
    obtain ⟨hlx, hlxs⟩ := not_or.mp (List.mem_cons.not.mp hl)
    unfold insertByKeys
    split
    · exact List.nodup_cons.mpr ⟨hl, hq⟩
    · refine List.nodup_cons.mpr ⟨?_, ih hxs hlxs⟩
      rw [mem_insertByKeys]
      exact fun h => h.elim (fun e => hlx e.symm) hx

theorem mem_enqueue (s : State) (l k : Lift) : k ∈ (s.enqueue l).queue ↔ k = l ∨ k ∈ s.queue := by
  simp only [State.enqueue, mem_insertByKeys, List.mem_filter, decide_eq_true_eq]
  tauto

theorem enqueue_nodup (s : State) (l : Lift) (h : s.queue.Nodup) : (s.enqueue l).queue.Nodup :=
  insertByKeys_nodup _ _ _ (h.filter _) (by simp)

@[simp] theorem lift_enqueue (s : State) (l k : Lift) : (s.enqueue l).lift k = s.lift k := rfl
@[simp] theorem slot_enqueue (s : State) (l k : Lift) : (s.enqueue l).slot k = s.slot k := rfl
@[simp] theorem enqueue_outstanding (s : State) (l : Lift) : (s.enqueue l).outstanding = s.outstanding := rfl

/-! ### Entries into rescue states -/

/-- Entry into NORMAL (R12, R13). -/
theorem enterNormal_eq (s : State) (l : Lift) : s.enterNormal l = moved (left s l) l (cleared (s.lift l)) :=
  leaveQueue_modLift_enter s l _ .normal rfl rfl

/-- Entry into MANUAL (R13, R18, R23). -/
theorem enterManual_eq (s : State) (l : Lift) (why : ManualReason) :
    s.enterManual l why = moved (left s l) l (handed (s.lift l) why) :=
  leaveQueue_modLift_enter s l _ .manual rfl rfl

/-- A lift context after an entry into QUEUED at `now` (R11). -/
def queuedAt (c : LiftContext) (now : TimeTag) : LiftContext :=
  { c with state := .queued, queueData := some { entryTime := now, bypass := 0 } }

/-- Entry into QUEUED (R11). -/
theorem enterQueued_eq (s : State) (l : Lift) (now : TimeTag) :
    s.enterQueued l now = ((moved s l (queuedAt (s.lift l) now)).enqueue l).callAdmission := by
  unfold State.enterQueued
  rw [modLift_enter s l _ .queued rfl]
  rfl

/-- Entry into STALLED (R11). -/
theorem enterStalled_eq (s : State) (l : Lift) (now : TimeTag) :
    s.enterStalled l now = (moved s l { s.lift l with state := .stalled }).evaluateStalled l now := by
  rw [State.enterStalled, enter_eq_moved]

/-- Entry into RELEASED, up to the reason CLEAR (R17). -/
theorem enterReleased_cases (s : State) (l : Lift) :
    ∃ u, u = moved s l { s.lift l with state := .released, rescue := none }
      ∧ (s.enterReleased l = u ∨ s.enterReleased l = u.raiseLift l .clear) := by
  refine ⟨_, rfl, ?_⟩
  unfold State.enterReleased
  rw [modLift_enter s l _ .released rfl]
  dsimp only
  split
  · exact .inr rfl
  · exact .inl rfl

/-! ### Plans -/

/-- The context a run of the planner leaves (R56, R67). -/
def planned (c : LiftContext) (now : TimeTag) (p : Plan) : LiftContext :=
  { c with trappedMinutes := trappedAt now c.stallSince c.trappedMinutes, plan := some p }

/-- A run of the planner: the context replaced, one free value used, PLAN raised or not (R56, R70). -/
theorem writePlan_cases (s : State) (l : Lift) (now : TimeTag) (p : Plan) :
    ∃ u, u = { s.setLift l (planned (s.lift l) now p) with freeIndex := s.freeIndex + 1 }
      ∧ (s.writePlan l now p = u ∨ s.writePlan l now p = u.raiseLift l .plan) := by
  refine ⟨_, rfl, ?_⟩
  unfold State.writePlan
  dsimp only
  split
  · exact .inr rfl
  · exact .inl rfl

theorem lift_writePlan (s : State) (l k : Lift) (now : TimeTag) (p : Plan) :
    (s.writePlan l now p).lift k = if k = l then planned (s.lift l) now p else s.lift k := by
  obtain ⟨u, rfl, h | h⟩ := writePlan_cases s l now p <;> rw [h] <;> exact lift_setLift s l k _

@[simp] theorem lift_writePlan_same (s : State) (l : Lift) (now : TimeTag) (p : Plan) :
    (s.writePlan l now p).lift l = planned (s.lift l) now p := by
  simp [lift_writePlan]

@[simp] theorem writePlan_queue (s : State) (l : Lift) (now : TimeTag) (p : Plan) :
    (s.writePlan l now p).queue = s.queue := by
  obtain ⟨u, rfl, h | h⟩ := writePlan_cases s l now p <;> rw [h] <;> rfl

@[simp] theorem writePlan_outstanding (s : State) (l : Lift) (now : TimeTag) (p : Plan) :
    (s.writePlan l now p).outstanding = s.outstanding := by
  obtain ⟨u, rfl, h | h⟩ := writePlan_cases s l now p <;> rw [h] <;> rfl

@[simp] theorem writePlan_admissionDue (s : State) (l : Lift) (now : TimeTag) (p : Plan) :
    (s.writePlan l now p).admissionDue = s.admissionDue := by
  obtain ⟨u, rfl, h | h⟩ := writePlan_cases s l now p <;> rw [h] <;> rfl

@[simp] theorem slot_writePlan (s : State) (l k : Lift) (now : TimeTag) (p : Plan) :
    (s.writePlan l now p).slot k = s.slot k := by
  obtain ⟨u, rfl, h | h⟩ := writePlan_cases s l now p <;> rw [h] <;> rfl

end Sys2Proof.Machine
end

section
/-! SUPPORT. What an operation on one lift leaves alone of the other lifts,
and everything a running execution can do: go
on, or end. -/

namespace Sys2Proof.Machine

open Slice0

/-! ### One lift's operations -/

/-- `u` differs from `s` in one lift's runtime fields, order slot and place in the queue only, as far as lift contexts,
slots and the queue go; what the part remembers of that lift's reports stands too. -/
structure LiftFrame (l : Lift) (s u : State) : Prop where
  lift_other : ∀ k : Lift, k ≠ l → u.lift k = s.lift k
  slot_other : ∀ k : Lift, k ≠ l → u.slot k = s.slot k
  queue_other : ∀ k : Lift, k ≠ l → (k ∈ u.queue ↔ k ∈ s.queue)
  nodup : s.queue.Nodup → u.queue.Nodup
  report : SameReport (s.lift l) (u.lift l)

namespace LiftFrame

theorem refl (l : Lift) (s : State) : LiftFrame l s s :=
  ⟨fun _ _ => rfl, fun _ _ => rfl, fun _ _ => .rfl, id, rfl, rfl, rfl, rfl, rfl⟩

theorem trans {l : Lift} {s u v : State} (h : LiftFrame l s u) (k : LiftFrame l u v) : LiftFrame l s v where
  lift_other i hi := (k.lift_other i hi).trans (h.lift_other i hi)
  slot_other i hi := (k.slot_other i hi).trans (h.slot_other i hi)
  queue_other i hi := (k.queue_other i hi).trans (h.queue_other i hi)
  nodup := k.nodup ∘ h.nodup
  report := by
    obtain ⟨h1, h2, h3, h4, h5⟩ := h.report
    obtain ⟨k1, k2, k3, k4, k5⟩ := k.report
    exact ⟨k1.trans h1, k2.trans h2, k3.trans h3, k4.trans h4, k5.trans h5⟩

/-- No operation on one lift changes what the part remembers of any lift's reports. -/
theorem reports {l : Lift} {s u : State} (h : LiftFrame l s u) (k : Lift) : SameReport (s.lift k) (u.lift k) := by
  by_cases e : k = l
  · subst e; exact h.report
  · rw [h.lift_other k e]; exact ⟨rfl, rfl, rfl, rfl, rfl⟩

/-- An update that touches neither contexts nor slots nor the queue. -/
theorem of_same (l : Lift) {s u : State} (hl : u.lifts = s.lifts) (ho : u.orders.slots = s.orders.slots)
    (hq : u.queue = s.queue) : LiftFrame l s u := by
  have e : ∀ k, u.lift k = s.lift k := fun k => by rw [State.lift, hl]; rfl
  refine ⟨fun k _ => e k, fun k _ => by rw [State.slot, ho]; rfl, fun k _ => by rw [hq], fun h => hq ▸ h, ?_⟩
  rw [e l]
  exact ⟨rfl, rfl, rfl, rfl, rfl⟩

end LiftFrame

theorem moved_liftFrame (s : State) (l : Lift) (c : LiftContext) (h : SameReport (s.lift l) c) :
    LiftFrame l s (moved s l c) :=
  ⟨fun _ => lift_moved_other s c, fun _ _ => slot_moved _ _ _ _, fun _ _ => by rw [moved_queue], by simp,
      by simpa using h⟩

theorem left_liftFrame (s : State) (l : Lift) : LiftFrame l s (left s l) :=
  ⟨fun _ _ => lift_left s l _, fun _ _ => slot_left s l _, fun k hk => by simp [mem_left_queue, hk],
    left_queue_nodup s l, by rw [lift_left]; exact ⟨rfl, rfl, rfl, rfl, rfl⟩⟩

theorem enqueue_liftFrame (s : State) (l : Lift) : LiftFrame l s (s.enqueue l) :=
  ⟨fun _ _ => rfl, fun _ _ => rfl, fun k hk => by simp [mem_enqueue, hk], enqueue_nodup s l, rfl, rfl, rfl, rfl, rfl⟩

theorem setSlot_liftFrame (s : State) (l : Lift) (o : Option Order) : LiftFrame l s (s.setSlot l o) :=
  ⟨fun _ _ => rfl, fun k hk => by simp [slot_setSlot, hk], fun _ _ => .rfl, id, rfl, rfl, rfl, rfl, rfl⟩

theorem callAdmission_liftFrame (s : State) (l : Lift) : LiftFrame l s s.callAdmission := .of_same l rfl rfl rfl

theorem raiseLift_liftFrame (s : State) (l : Lift) (r : LiftReason) : LiftFrame l s (s.raiseLift l r) :=
  .of_same l rfl rfl rfl

theorem setLift_liftFrame (s : State) (l : Lift) (c : LiftContext) (h : SameReport (s.lift l) c) :
    LiftFrame l s (s.setLift l c) :=
  ⟨fun _ => lift_setLift_other s c, fun _ _ => rfl, fun _ _ => .rfl, id, by simpa using h⟩

theorem writePlan_liftFrame (s : State) (l : Lift) (now : TimeTag) (p : Plan) : LiftFrame l s (s.writePlan l now p) :=
  ⟨fun k hk => by simp [lift_writePlan, hk], fun _ _ => slot_writePlan _ _ _ _ _, fun _ _ => by rw [writePlan_queue],
    by simp, by rw [lift_writePlan_same]; exact ⟨rfl, rfl, rfl, rfl, rfl⟩⟩

theorem enterNormal_liftFrame (s : State) (l : Lift) : LiftFrame l s (s.enterNormal l) := by
  rw [enterNormal_eq]
  exact (left_liftFrame s l).trans (moved_liftFrame _ _ _ (by rw [lift_left]; exact ⟨rfl, rfl, rfl, rfl, rfl⟩))

theorem enterManual_liftFrame (s : State) (l : Lift) (why : ManualReason) : LiftFrame l s (s.enterManual l why) := by
  rw [enterManual_eq]
  exact (left_liftFrame s l).trans (moved_liftFrame _ _ _ (by rw [lift_left]; exact ⟨rfl, rfl, rfl, rfl, rfl⟩))

theorem enterQueued_liftFrame (s : State) (l : Lift) (now : TimeTag) : LiftFrame l s (s.enterQueued l now) := by
  rw [enterQueued_eq]
  exact ((moved_liftFrame s l _ (by exact ⟨rfl, rfl, rfl, rfl, rfl⟩)).trans (enqueue_liftFrame _ l)).trans
    (callAdmission_liftFrame _ l)

theorem enterReleased_liftFrame (s : State) (l : Lift) : LiftFrame l s (s.enterReleased l) := by
  have h := moved_liftFrame s l { s.lift l with state := .released, rescue := none } ⟨rfl, rfl, rfl, rfl, rfl⟩
  obtain ⟨u, rfl, e | e⟩ := enterReleased_cases s l <;> rw [e]
  · exact h
  · exact h.trans (raiseLift_liftFrame _ l _)

theorem planStalled_liftFrame (s : State) (l : Lift) (now : TimeTag) : LiftFrame l s (s.planStalled l now) := by
  have h : LiftFrame l s (s.runPlanner l now) := writePlan_liftFrame _ _ _ _
  unfold State.planStalled
  dsimp only
  split
  · exact h
  · split
    · exact h.trans (enterQueued_liftFrame _ _ _)
    · exact h.trans (enterManual_liftFrame _ _ _)

theorem evaluateStalled_liftFrame (s : State) (l : Lift) (now : TimeTag) : LiftFrame l s (s.evaluateStalled l now) := by
  unfold State.evaluateStalled
  split
  · split
    · exact enterNormal_liftFrame _ _
    · split
      · exact enterManual_liftFrame _ _ _
      · exact planStalled_liftFrame _ _ _
  · exact planStalled_liftFrame _ _ _

theorem enterStalled_liftFrame (s : State) (l : Lift) (now : TimeTag) : LiftFrame l s (s.enterStalled l now) := by
  rw [enterStalled_eq]
  exact (moved_liftFrame s l _ (by exact ⟨rfl, rfl, rfl, rfl, rfl⟩)).trans (evaluateStalled_liftFrame _ _ _)

theorem replanQueued_liftFrame (s : State) (l : Lift) (now : TimeTag) : LiftFrame l s (s.replanQueued l now) := by
  have h : LiftFrame l s (s.runPlanner l now) := writePlan_liftFrame _ _ _ _
  unfold State.replanQueued
  dsimp only
  split
  · exact h.trans (enterManual_liftFrame _ _ _)
  · split
    · exact h
    · exact (h.trans (enqueue_liftFrame _ _)).trans (callAdmission_liftFrame _ _)

/-! ### The end of an execution -/

/-- The state after step 1 of an ending (R16): the record gone, what it held released, the order left the part's. -/
theorem dropExecution_eq (s : State) (l : Lift) (r : RescueRecord) (h : (s.lift l).rescue = some r) :
    s.dropExecution l =
      { (s.setLift l { s.lift l with rescue := none }).setSlot l
          ((s.slot l).map fun o => { o with poster := .part }) with
        outstanding := s.outstanding - r.held } := by
  unfold State.dropExecution
  rw [h]
  dsimp only
  cases ho : s.slot l with
  | some o =>
    have e : ({ s.modLift l fun c => { c with rescue := none } with outstanding := s.outstanding - r.held } :
        State).slot l
        = some o := ho
    rw [e]
    rfl
  | none =>
    have e : ({ s.modLift l fun c => { c with rescue := none } with outstanding := s.outstanding - r.held } :
        State).slot l
        = none := ho
    rw [e]
    have k : s.orders.slots.set l.val none l.isLt = s.orders.slots := by
      have : s.orders.slots[l.val] = none := ho
      rw [← this, Vector.set_getElem_self]
    simp [State.setSlot, k, modLift_eq]

theorem dropExecution_liftFrame (s : State) (l : Lift) : LiftFrame l s (s.dropExecution l) := by
  cases h : (s.lift l).rescue with
  | none => unfold State.dropExecution; rw [h]; exact .refl l s
  | some r =>
    rw [dropExecution_eq s l r h]
    exact ((setLift_liftFrame s l _ (by exact ⟨rfl, rfl, rfl, rfl, rfl⟩)).trans (setSlot_liftFrame _ l _)).trans
      (.of_same l rfl rfl rfl)

theorem endRetry_liftFrame (s : State) (l : Lift) (now : TimeTag) : LiftFrame l s (s.endRetry l now) := by
  unfold State.endRetry
  split
  · exact (setLift_liftFrame s l _ (by exact ⟨rfl, rfl, rfl, rfl, rfl⟩)).trans (enterStalled_liftFrame _ _ _)
  · exact enterManual_liftFrame _ _ _

/-- What an ending makes of the lift after step 1, before the evaluation is called (R16). -/
def State.endAs (s : State) (l : Lift) (why : Ending) (aborted : Bool) (now : TimeTag) : State :=
  match why with
  | .reached outcome =>
    if aborted then s.enterManual l .aborted
    else
      match outcome with
      | .released => s.enterReleased l
      | .retry => s.endRetry l now
      | .manual => s.enterManual l .stepFailed
  | .stepLimit => s.enterManual l .stepLimit
  | .safety => (s.postPartStop l).enterManual l .noAutoFault
  | .lostContact => (s.setSlot l none).enterManual l .lostContact

/-- The end of an execution, step by step (R16). Without a record, which no run reaches, step 1 does nothing. -/
theorem endExecution_eq (s : State) (l : Lift) (why : Ending) (now : TimeTag) :
    s.endExecution l why now =
      ((s.dropExecution l).endAs l why (((s.lift l).rescue.map (·.abortPending)).getD false) now).callAdmission := by
  unfold State.endExecution State.endAs
  cases (s.lift l).rescue <;> rfl

theorem endAs_liftFrame (s : State) (l : Lift) (why : Ending) (aborted : Bool) (now : TimeTag) :
    LiftFrame l s (s.endAs l why aborted now) := by
  unfold State.endAs
  cases why with
  | reached outcome =>
    cases aborted
    · cases outcome
      · exact enterReleased_liftFrame _ _
      · exact endRetry_liftFrame _ _ _
      · exact enterManual_liftFrame _ _ _
    · exact enterManual_liftFrame _ _ _
  | stepLimit => exact enterManual_liftFrame _ _ _
  | safety => exact (setSlot_liftFrame _ _ _).trans (enterManual_liftFrame _ _ _)
  | lostContact => exact (setSlot_liftFrame _ _ _).trans (enterManual_liftFrame _ _ _)

theorem endExecution_liftFrame (s : State) (l : Lift) (why : Ending) (now : TimeTag) :
    LiftFrame l s (s.endExecution l why now) := by
  rw [endExecution_eq]
  exact ((dropExecution_liftFrame s l).trans (endAs_liftFrame _ _ _ _ _)).trans (callAdmission_liftFrame _ _)

/-! ### A running execution -/

/-- `u` differs from `s`, as far as lift contexts, slots and the queue go,
in one lift's slot and in its rescue record, plan
and trapped minutes only; a record stays a record. -/
structure StepFrame (l : Lift) (s u : State) : Prop where
  lift_other : ∀ k : Lift, k ≠ l → u.lift k = s.lift k
  slot_other : ∀ k : Lift, k ≠ l → u.slot k = s.slot k
  queue : u.queue = s.queue
  context : u.lift l = { s.lift l with rescue := (u.lift l).rescue, plan := (u.lift l).plan,
                                       trappedMinutes := (u.lift l).trappedMinutes }
  rescue : (u.lift l).rescue.isSome = (s.lift l).rescue.isSome

namespace StepFrame

theorem refl (l : Lift) (s : State) : StepFrame l s s := ⟨fun _ _ => rfl, fun _ _ => rfl, rfl, rfl, rfl⟩

theorem trans {l : Lift} {s u v : State} (h : StepFrame l s u) (k : StepFrame l u v) : StepFrame l s v where
  lift_other i hi := (k.lift_other i hi).trans (h.lift_other i hi)
  slot_other i hi := (k.slot_other i hi).trans (h.slot_other i hi)
  queue := k.queue.trans h.queue
  context := by rw [k.context, h.context]
  rescue := k.rescue.trans h.rescue

theorem of_same (l : Lift) {s u : State} (hl : u.lifts = s.lifts) (ho : u.orders.slots = s.orders.slots)
    (hq : u.queue = s.queue) : StepFrame l s u := by
  have e : ∀ k, u.lift k = s.lift k := fun k => by rw [State.lift, hl]; rfl
  exact ⟨fun k _ => e k, fun k _ => by rw [State.slot, ho]; rfl, hq, by rw [e l], by rw [e l]⟩

theorem liftFrame {l : Lift} {s u : State} (h : StepFrame l s u) : LiftFrame l s u where
  lift_other := h.lift_other
  slot_other := h.slot_other
  queue_other k _ := by rw [h.queue]
  nodup hq := by rw [h.queue]; exact hq
  report := by rw [h.context]; exact ⟨rfl, rfl, rfl, rfl, rfl⟩

end StepFrame

theorem modRescue_stepFrame (s : State) (l : Lift) (f : RescueRecord → RescueRecord) :
    StepFrame l s (s.modRescue l f) :=
  ⟨fun _ => lift_setLift_other s _, fun _ _ => rfl, rfl, by simp [State.modRescue], by simp [State.modRescue]⟩

theorem modCreep_stepFrame (s : State) (l : Lift) (f : CreepWork → CreepWork) : StepFrame l s (s.modCreep l f) :=
  modRescue_stepFrame s l _

theorem setSlot_stepFrame (s : State) (l : Lift) (o : Option Order) : StepFrame l s (s.setSlot l o) :=
  ⟨fun _ _ => rfl, fun k hk => by simp [slot_setSlot, hk], rfl, rfl, rfl⟩

theorem writePlan_stepFrame (s : State) (l : Lift) (now : TimeTag) (p : Plan) : StepFrame l s (s.writePlan l now p) :=
  ⟨fun k hk => by simp [lift_writePlan, hk], fun _ _ => slot_writePlan _ _ _ _ _, writePlan_queue _ _ _ _,
    by simp [planned], by simp [planned]⟩

theorem runPlanner_stepFrame (s : State) (l : Lift) (now : TimeTag) : StepFrame l s (s.runPlanner l now) :=
  writePlan_stepFrame s l now _

theorem runDirected_stepFrame (s : State) (l : Lift) (now : TimeTag) (m : Mode) (d : Direction) :
    StepFrame l s (s.runDirected l now m d) := writePlan_stepFrame s l now _

theorem creepSeen_stepFrame (s : State) (l : Lift) (b : Bool) :
    StepFrame l s { s with scan := { s.scan with creepSeen := b } } := .of_same l rfl rfl rfl

theorem post_stepFrame (s : State) (l : Lift) (k : OrderKind) (p : Poster) (n : Nat) :
    StepFrame l s (s.post l k p n).1 := by
  unfold State.post
  split
  · split
    · exact .refl l s
    · exact setSlot_stepFrame _ _ _
  · exact setSlot_stepFrame _ _ _

theorem releaseCreep_stepFrame (s : State) (l : Lift) : StepFrame l s (s.releaseCreep l) := by
  unfold State.releaseCreep
  split
  · split
    · exact .refl l s
    · exact (modRescue_stepFrame s l _).trans (.of_same l rfl rfl rfl)
  · exact .refl l s

theorem withdrawOwn_stepFrame (s : State) (l : Lift) : StepFrame l s (s.withdrawOwn l) := by
  unfold State.withdrawOwn
  split
  · split
    · exact setSlot_stepFrame _ _ _
    · exact .refl l s
  · exact .refl l s

theorem closeStep_stepFrame (s : State) (l : Lift) (sr : StepRecord) (ok : Bool) :
    StepFrame l s (s.closeStep l sr ok) := by
  unfold State.closeStep
  extract_lets a b c
  have h1 : StepFrame l s a := by
    unfold a
    split
    · exact withdrawOwn_stepFrame s l
    · exact .refl l s
  have h2 : StepFrame l a b := by
    unfold b
    split
    · exact releaseCreep_stepFrame a l
    · exact .refl l a
  have h3 : StepFrame l b c := by
    unfold c
    split
    · exact .of_same l rfl rfl rfl
    · exact .refl l b
  exact ((h1.trans h2).trans h3).trans (modRescue_stepFrame _ _ _)

theorem leaveStep_stepFrame (s : State) (l : Lift) (sr : StepRecord) (ok : Bool) :
    StepFrame l s (s.leaveStep l sr ok).1 := by
  have h := closeStep_stepFrame s l sr ok
  unfold State.leaveStep
  extract_lets deferred u
  split
  · exact h.trans (modRescue_stepFrame _ _ _)
  · exact h

theorem enterOrder_stepFrame (s : State) (l : Lift) (sr : StepRecord) (k : StepOrder) (m : Nat) :
    StepFrame l s (s.enterOrder l sr k m).1 := by
  unfold State.enterOrder
  split
  · exact leaveStep_stepFrame _ _ _ _
  · dsimp only
    split
    · exact post_stepFrame _ _ _ _ _
    · exact (post_stepFrame _ _ _ _ _).trans (leaveStep_stepFrame _ _ _ _)

theorem enterCreep_stepFrame (s : State) (l : Lift) (sr : StepRecord) (now : TimeTag) :
    StepFrame l s (s.enterCreep l sr now).1 := by
  unfold State.enterCreep
  have h := (creepSeen_stepFrame s l (s.scan.creepSeen || s.scan.running)).trans (runPlanner_stepFrame _ l now)
  dsimp only
  split
  · exact h.trans (leaveStep_stepFrame _ _ _ _)
  · exact h.trans (leaveStep_stepFrame _ _ _ _)
  · split
    · exact (h.trans (post_stepFrame _ _ _ _ _)).trans (modRescue_stepFrame _ _ _)
    · exact (h.trans (post_stepFrame _ _ _ _ _)).trans (leaveStep_stepFrame _ _ _ _)

theorem enterCall_stepFrame (s : State) (l : Lift) (sr : StepRecord) (r : RescueRecord) (t : Nat) :
    StepFrame l s (s.enterCall l sr r t).1 := by
  unfold State.enterCall
  split
  · exact (modRescue_stepFrame _ _ _).trans (closeStep_stepFrame _ _ _ _)
  · exact closeStep_stepFrame _ _ _ _

theorem enterReturn_stepFrame (s : State) (l : Lift) (sr : StepRecord) (r : RescueRecord) :
    StepFrame l s (s.enterReturn l sr r).1 := by
  unfold State.enterReturn
  split
  · exact (modRescue_stepFrame _ _ _).trans (closeStep_stepFrame _ _ _ _)
  · exact closeStep_stepFrame _ _ _ _

/-! ### Going on or ending -/

/-- Everything a running execution can do within one event: it goes on, or, still holding its record, it ends. -/
def RunsOrEnds (l : Lift) (now : TimeTag) (s u : State) : Prop :=
  StepFrame l s u ∨ ∃ v why, StepFrame l s v ∧ (v.lift l).rescue.isSome ∧ u = v.endExecution l why now

namespace RunsOrEnds

theorem refl (l : Lift) (now : TimeTag) (s : State) : RunsOrEnds l now s s := .inl (.refl l s)

/-- What comes before may go on only. -/
theorem after {l : Lift} {now : TimeTag} {s u v : State} (h : StepFrame l s u) (k : RunsOrEnds l now u v) :
    RunsOrEnds l now s v := by
  rcases k with k | ⟨w, why, k, hr, e⟩
  · exact .inl (h.trans k)
  · exact .inr ⟨w, why, h.trans k, hr, e⟩

theorem liftFrame {l : Lift} {now : TimeTag} {s u : State} (h : RunsOrEnds l now s u) : LiftFrame l s u := by
  rcases h with h | ⟨v, why, h, -, rfl⟩
  · exact h.liftFrame
  · exact h.liftFrame.trans (endExecution_liftFrame v l why now)

end RunsOrEnds

/-- One entry goes on, or ends the execution and every entry after it (R93). -/
theorem enterOnce_cases (s : State) (l : Lift) (i : Nat) (now : TimeTag) :
    StepFrame l s (s.enterOnce l i now).1
    ∨ ∃ v why, StepFrame l s v ∧ (v.lift l).rescue.isSome ∧ s.enterOnce l i now = (v.endExecution l why now, none) := by
  unfold State.enterOnce
  split
  · exact .inl (.refl l s)
  next r hr =>
    split
    · exact .inr ⟨s, .stepLimit, .refl l s, by simp [hr], rfl⟩
    · extract_lets sr r' a
      have h : StepFrame l s a := modRescue_stepFrame s l _
      have hs : (a.lift l).rescue.isSome := by rw [h.rescue, hr]; rfl
      clear_value a
      split
      · exact .inl h
      · exact .inl h
      · exact .inl (h.trans (enterOrder_stepFrame _ _ _ _ _))
      · exact .inl (h.trans (enterCreep_stepFrame _ _ _ _))
      · exact .inl (h.trans (enterCall_stepFrame _ _ _ _ _))
      · exact .inl (h.trans (enterReturn_stepFrame _ _ _ _))
      next outcome _ => exact .inr ⟨a, .reached outcome, h, hs, rfl⟩

theorem runEntries_runsOrEnds (n : Nat) (s : State) (l : Lift) (i : Nat) (now : TimeTag) :
    RunsOrEnds l now s (State.runEntries n s l i now) := by
  induction n generalizing s i with
  | zero => exact .refl l now s
  | succ n ih =>
    have h := enterOnce_cases s l i now
    unfold State.runEntries
    split
    next u e =>
      rw [e] at h
      rcases h with h | ⟨v, why, h, hr, he⟩
      · exact .inl h
      · exact .inr ⟨v, why, h, hr, (Prod.mk.inj he).1⟩
    next u j e =>
      rw [e] at h
      rcases h with h | ⟨v, why, h, hr, he⟩
      · exact (ih u j).after h
      · exact absurd (Prod.mk.inj he).2 (by simp)

theorem startStep_runsOrEnds (s : State) (l : Lift) (i : Nat) (now : TimeTag) :
    RunsOrEnds l now s (s.startStep l i now) := runEntries_runsOrEnds _ s l i now

theorem endStep_runsOrEnds (s : State) (l : Lift) (ok : Bool) (now : TimeTag) :
    RunsOrEnds l now s (s.endStep l ok now) := by
  unfold State.endStep
  split
  · exact (startStep_runsOrEnds _ _ _ _).after (leaveStep_stepFrame _ _ _ _)
  · exact .refl l now s

theorem renewCreep_runsOrEnds (s : State) (l : Lift) (now : TimeTag) : RunsOrEnds l now s (s.renewCreep l now) := by
  unfold State.renewCreep
  split
  · dsimp only
    split
    · exact .inl (post_stepFrame _ _ _ _ _)
    · exact (endStep_runsOrEnds _ _ _ _).after (post_stepFrame _ _ _ _ _)
  · exact .refl l now s

theorem orderLanding_runsOrEnds (s : State) (l : Lift) (i : Nat) (now : TimeTag) :
    RunsOrEnds l now s (s.orderLanding l i now) := (renewCreep_runsOrEnds _ _ _).after (modCreep_stepFrame _ _ _)

theorem creepReport_runsOrEnds (s : State) (l : Lift) (r : Report) (now : TimeTag) :
    RunsOrEnds l now s (s.creepReport l r now) := by
  unfold State.creepReport
  split
  · exact .refl l now s
  · split
    · exact endStep_runsOrEnds _ _ _ _
    · extract_lets progress a inMarker
      have h : StepFrame l s a := modRescue_stepFrame _ _ _
      clear_value a inMarker
      split
      · split
        · exact (orderLanding_runsOrEnds _ _ _ _).after h
        · exact .inl h
      · exact .inl h

theorem stepReport_runsOrEnds (s : State) (l : Lift) (r : Report) (now : TimeTag) :
    RunsOrEnds l now s (s.stepReport l r now) := by
  unfold State.stepReport
  split
  · exact .refl l now s
  · split
    · extract_lets repeats a
      have h : StepFrame l s a := modRescue_stepFrame _ _ _
      clear_value a
      split
      · exact (endStep_runsOrEnds _ _ _ _).after h
      · exact .inl h
    · exact creepReport_runsOrEnds _ _ _ _
    · exact .refl l now s

theorem replanRescuing_runsOrEnds (s : State) (l : Lift) (now : TimeTag) :
    RunsOrEnds l now s (s.replanRescuing l now) := by
  unfold State.replanRescuing
  split
  next w p rr _ _ _ =>
    extract_lets targetUsable a within
    have h : StepFrame l s a := runDirected_stepFrame _ _ _ _ _
    clear_value a within
    split
    · exact .refl l now s
    · split
      · exact (orderLanding_runsOrEnds _ _ _ _).after h
      · split
        · exact (orderLanding_runsOrEnds _ _ _ _).after h
        · exact (endStep_runsOrEnds _ _ _ _).after h
  · exact .refl l now s

theorem deliver_runsOrEnds (s : State) (l : Lift) (p : Poster) (ok : Bool) (now : TimeTag) :
    RunsOrEnds l now s (s.deliver l p ok now) := by
  unfold State.deliver
  split
  · exact .refl l now s
  · split
    · split
      · exact endStep_runsOrEnds _ _ _ _
      · split
        · exact .inl (modCreep_stepFrame _ _ _)
        · exact endStep_runsOrEnds _ _ _ _
      · exact .refl l now s
    · exact .refl l now s

theorem expireStep_runsOrEnds (s : State) (l : Lift) (now : TimeTag) : RunsOrEnds l now s (s.expireStep l now) := by
  unfold State.expireStep
  split
  · split
    · exact endStep_runsOrEnds _ _ _ _
    · exact .refl l now s
  · exact .refl l now s

theorem abortNow_runsOrEnds (s : State) (l : Lift) (now : TimeTag) : RunsOrEnds l now s (s.abortNow l now) := by
  unfold State.abortNow
  extract_lets a b c
  have h1 : StepFrame l s a := modRescue_stepFrame _ _ _
  have h2 : StepFrame l a b := by
    unfold b
    split
    · exact releaseCreep_stepFrame _ _
    · exact .refl l a
  have h3 : StepFrame l b c := (setSlot_stepFrame b l _).trans (modRescue_stepFrame _ _ _)
  exact (startStep_runsOrEnds _ _ _ _).after ((h1.trans h2).trans h3)

theorem abortExecution_runsOrEnds (s : State) (l : Lift) (now : TimeTag) :
    RunsOrEnds l now s (s.abortExecution l now) := by
  unfold State.abortExecution
  split
  · exact .refl l now s
  · split
    · exact .refl l now s
    · split
      · split
        · exact (orderLanding_runsOrEnds _ _ _ _).after ((modRescue_stepFrame _ _ _).trans (modCreep_stepFrame _ _ _))
        · exact abortNow_runsOrEnds _ _ _
      · exact abortNow_runsOrEnds _ _ _

/-! ### Reports, unanswered polls, hazards -/

theorem confirmStall_liftFrame (s : State) (l : Lift) (now : TimeTag) : LiftFrame l s (s.confirmStall l now) :=
  (setLift_liftFrame s l _ (by exact ⟨rfl, rfl, rfl, rfl, rfl⟩)).trans (enterStalled_liftFrame _ _ _)

theorem enter_liftFrame (s : State) (l : Lift) (st : RescueState) : LiftFrame l s (s.enter l st) := by
  rw [enter_eq_moved]
  exact moved_liftFrame s l _ (by exact ⟨rfl, rfl, rfl, rfl, rfl⟩)

theorem debounce_liftFrame (s : State) (l : Lift) (n : Nat) (now : TimeTag) : LiftFrame l s (s.debounce l n now) := by
  have h : LiftFrame l s (s.modLift l fun c => { c with suspectCount := n }) :=
    setLift_liftFrame s l _ (by exact ⟨rfl, rfl, rfl, rfl, rfl⟩)
  unfold State.debounce
  dsimp only
  split
  · exact h.trans (confirmStall_liftFrame _ _ _)
  · exact h.trans (enter_liftFrame _ _ _)

theorem reportNormal_liftFrame (s : State) (l : Lift) (v : Verdict) (now : TimeTag) :
    LiftFrame l s (s.reportNormal l v now) := by
  unfold State.reportNormal
  split
  · exact debounce_liftFrame _ _ _ _
  · exact .refl l s

theorem reportSuspect_liftFrame (s : State) (l : Lift) (v : Verdict) (now : TimeTag) :
    LiftFrame l s (s.reportSuspect l v now) := by
  unfold State.reportSuspect
  split
  · exact debounce_liftFrame _ _ _ _
  · exact enterNormal_liftFrame _ _

theorem reportQueued_liftFrame (s : State) (l : Lift) (v : Verdict) (now : TimeTag) :
    LiftFrame l s (s.reportQueued l v now) := by
  unfold State.reportQueued
  split
  · exact enterNormal_liftFrame _ _
  · split
    · exact enterManual_liftFrame _ _ _
    · exact replanQueued_liftFrame _ _ _

theorem reportRescuing_liftFrame (s : State) (l : Lift) (v : Verdict) (r : Report) (now : TimeTag) :
    LiftFrame l s (s.reportRescuing l v r now) := by
  unfold State.reportRescuing
  split
  · exact endExecution_liftFrame _ _ _ _
  · exact (stepReport_runsOrEnds _ _ _ _).liftFrame

theorem reportReleased_liftFrame (s : State) (l : Lift) (v : Verdict) (r : Report) (b : Option Nat) :
    LiftFrame l s (s.reportReleased l v r b) := by
  unfold State.reportReleased
  extract_lets a
  have h : LiftFrame l s a := by
    unfold a
    split
    · exact raiseLift_liftFrame _ _ _
    · exact .refl l s
  split
  · exact h.trans (enterNormal_liftFrame _ _)
  · exact h

theorem reportManual_liftFrame (s : State) (l : Lift) (v : Verdict) (r : Report) :
    LiftFrame l s (s.reportManual l v r) := by
  unfold State.reportManual
  split
  · exact enterNormal_liftFrame _ _
  · exact .refl l s

theorem reportOffline_liftFrame (s : State) (l : Lift) (v : Verdict) (r : Report) (b : Option Nat) (now : TimeTag) :
    LiftFrame l s (s.reportOffline l v r b now) := by
  have h : LiftFrame l s (s.modLift l fun c => { c with beforeOffline := none }) :=
    setLift_liftFrame s l _ (by exact ⟨rfl, rfl, rfl, rfl, rfl⟩)
  have hn := h.trans ((enterNormal_liftFrame _ l).trans (reportNormal_liftFrame _ l v now))
  have hs := h.trans (enterStalled_liftFrame _ l now)
  unfold State.reportOffline
  dsimp only
  split
  · exact h.trans ((enter_liftFrame _ _ _).trans (reportManual_liftFrame _ _ _ _))
  · exact h.trans ((enter_liftFrame _ _ _).trans (reportReleased_liftFrame _ _ _ _ _))
  · split
    · exact hs
    · exact hn
  · split
    · exact hs
    · exact hn
  · exact hn

theorem reportByState_liftFrame (s : State) (l : Lift) (v : Verdict) (r : Report) (b : Option Nat) (now : TimeTag) :
    LiftFrame l s (s.reportByState l v r b now) := by
  unfold State.reportByState
  split
  · exact .refl l s
  · exact reportNormal_liftFrame _ _ _ _
  · exact reportSuspect_liftFrame _ _ _ _
  · exact evaluateStalled_liftFrame _ _ _
  · exact reportQueued_liftFrame _ _ _ _
  · exact reportRescuing_liftFrame _ _ _ _ _
  · exact reportReleased_liftFrame _ _ _ _ _
  · exact reportManual_liftFrame _ _ _ _
  · exact reportOffline_liftFrame _ _ _ _ _ _

theorem hazardReplan_liftFrame (s : State) (z : BitVec 32) (now : TimeTag) (l : Lift) :
    LiftFrame l s (s.hazardReplan z now l) := by
  unfold State.hazardReplan
  split
  · split
    · exact evaluateStalled_liftFrame _ _ _
    · exact replanQueued_liftFrame _ _ _
    · exact (replanRescuing_runsOrEnds _ _ _).liftFrame
    · exact .refl l s
  · exact .refl l s

end Sys2Proof.Machine
end

section
/-! SUPPORT. The coherence of lift contexts and admission queue (R4, R14, R22, R78)
under every operation on one lift. -/

namespace Sys2Proof.Machine

open Slice0

/-! ### The coherence of one lift -/

/-- A lift's context is coherent, and it stands in the queue exactly while it is QUEUED. -/
abbrev State.CoherentAt (s : State) (l : Lift) : Prop :=
  (s.lift l).Coherent ∧ (l ∈ s.queue ↔ (s.lift l).state = .queued)

theorem State.Coherent.at {s : State} (h : s.Coherent) (l : Lift) : s.CoherentAt l := ⟨h.1 l, h.2.2 l⟩

theorem coherent_of_at {s : State} (h : ∀ l, s.CoherentAt l) (hq : s.queue.Nodup) : s.Coherent :=
  ⟨fun l => (h l).1, hq, fun l => (h l).2⟩

/-- An operation on one lift keeps the coherence of all when it keeps that lift's. -/
theorem LiftFrame.coherent {l : Lift} {s u : State} (h : LiftFrame l s u) (hs : s.Coherent) (hl : u.CoherentAt l) :
    u.Coherent := by
  refine coherent_of_at (fun k => ?_) (h.nodup hs.2.1)
  by_cases hk : k = l
  · exact hk ▸ hl
  · have := hs.at k
    rwa [State.CoherentAt, h.lift_other k hk, h.queue_other k hk]

/-- An update that touches neither lift contexts nor the queue keeps coherence. -/
theorem coherent_of_same {s u : State} (hl : u.lifts = s.lifts) (hq : u.queue = s.queue) (h : s.Coherent) :
    u.Coherent := by
  simpa only [State.Coherent, State.lift, hl, hq] using h

/-- A change of rescue record, plan and trapped minutes that keeps a record a record keeps a context coherent. -/
theorem StepFrame.coherentAt {l : Lift} {s u : State} (h : StepFrame l s u) (hs : s.CoherentAt l) : u.CoherentAt l := by
  rw [State.CoherentAt, h.queue, h.context]
  obtain ⟨⟨hr, hrest⟩, hq⟩ := hs
  exact ⟨⟨by rw [h.rescue]; exact hr, hrest⟩, hq⟩

theorem StepFrame.state {l : Lift} {s u : State} (h : StepFrame l s u) : (u.lift l).state = (s.lift l).state := by
  rw [h.context]

theorem StepFrame.coherent {l : Lift} {s u : State} (h : StepFrame l s u) (hs : s.Coherent) : u.Coherent :=
  h.liftFrame.coherent hs (h.coherentAt (hs.at l))

/-! ### Coherent contexts -/

section
variable {c : LiftContext}

theorem rescue_none_of_coherent (h : c.Coherent) (hs : c.state ≠ .rescuing) : c.rescue = none :=
  Option.not_isSome_iff_eq_none.mp fun hr => hs (h.1.mp hr)

theorem inService_of_coherent (h : c.Coherent) (hs : c.state ≠ .excluded) : c.entry.inService = true := by
  obtain ⟨_, _, _, _, _, _, he⟩ := h
  exact Bool.of_not_eq_false fun hi => hs (he.mpr hi)

theorem hold_false_of_coherent (h : c.Coherent) (hs : c.state = .queued ∨ c.state = .rescuing) : c.hold = false := by
  obtain ⟨_, _, _, _, _, hh, _⟩ := h
  exact Bool.eq_false_iff.mpr fun hc => hs.elim (hh hc).1 (hh hc).2

/-- A lift in service that holds nothing a rescue state asks for: no record, no queue data, no state before offline, no
manual reason. -/
structure LiftContext.Bare (c : LiftContext) : Prop where
  rescue : c.rescue = none
  queueData : c.queueData = none
  beforeOffline : c.beforeOffline = none
  manualReason : c.manualReason = none
  inService : c.entry.inService = true

theorem coherent_of_bare (h : c.Bare)
    (hs : c.state = .normal ∨ c.state = .suspect ∨ c.state = .stalled ∨ c.state = .released) : c.Coherent := by
  obtain ⟨h1, h2, h3, h4, h5⟩ := h
  rcases hs with hs | hs | hs | hs <;> simp [LiftContext.Coherent, h1, h2, h3, h4, h5, hs]

theorem bare_of_coherent (h : c.Coherent)
    (hs : c.state = .normal ∨ c.state = .suspect ∨ c.state = .stalled ∨ c.state = .released) : c.Bare := by
  obtain ⟨h1, h2, h3, -, h5, -, h7⟩ := h
  have hb : c.beforeOffline = none := by rcases hs with hs | hs | hs | hs <;> simpa [hs] using h3
  constructor
  · rcases hs with hs | hs | hs | hs <;> simpa [hs] using h1
  · rcases hs with hs | hs | hs | hs <;> simpa [hs] using h2
  · exact hb
  · rcases hs with hs | hs | hs | hs <;> simpa [hs, hb] using h5
  · rcases hs with hs | hs | hs | hs <;> simpa [hs] using h7

theorem cleared_coherent (hr : c.rescue = none) (hi : c.entry.inService = true) : (cleared c).Coherent :=
  coherent_of_bare ⟨hr, rfl, rfl, rfl, hi⟩ (.inl rfl)

theorem handed_coherent (why : ManualReason) (hi : c.entry.inService = true) : (handed c why).Coherent := by
  simp [LiftContext.Coherent, handed, hi]

theorem queuedAt_coherent (now : TimeTag) (h : c.Bare) (hh : c.hold = false) : (queuedAt c now).Coherent := by
  obtain ⟨h1, h2, h3, h4, h5⟩ := h
  simp [LiftContext.Coherent, queuedAt, h1, h3, h4, h5, hh]

theorem fresh_coherent (e : LiftEntry) (ls : List Landing) :
    (LiftContext.fresh e ls (if e.inService then .normal else .excluded)).Coherent := by
  cases h : e.inService <;> simp [LiftContext.Coherent, LiftContext.fresh, h]

end

/-! ### Entries into rescue states -/

theorem moved_coherentAt {s : State} {l : Lift} {c : LiftContext} (hc : c.Coherent)
    (hq : l ∈ s.queue ↔ c.state = .queued) : (moved s l c).CoherentAt l := by
  rw [State.CoherentAt, lift_moved_same, moved_queue]
  exact ⟨hc, hq⟩

theorem setLift_coherentAt {s : State} {l : Lift} {c : LiftContext} (hc : c.Coherent)
    (hq : l ∈ s.queue ↔ c.state = .queued) : (s.setLift l c).CoherentAt l := by
  rw [State.CoherentAt, lift_setLift_same]
  exact ⟨hc, hq⟩

theorem not_mem_left_queue {s : State} {l : Lift} (hq : l ∈ s.queue → (s.lift l).state = .queued) :
    l ∉ (left s l).queue := by
  rw [mem_left_queue]
  exact fun h => h.2 (hq h.1) rfl

theorem enterNormal_coherentAt {s : State} {l : Lift} (hr : (s.lift l).rescue = none)
    (hi : (s.lift l).entry.inService = true) (hq : l ∈ s.queue → (s.lift l).state = .queued) :
    (s.enterNormal l).CoherentAt l := by
  rw [enterNormal_eq]
  exact moved_coherentAt (cleared_coherent hr hi) (by simp [not_mem_left_queue hq, cleared])

theorem enterManual_coherentAt {s : State} {l : Lift} (why : ManualReason) (hi : (s.lift l).entry.inService = true)
    (hq : l ∈ s.queue → (s.lift l).state = .queued) : (s.enterManual l why).CoherentAt l := by
  rw [enterManual_eq]
  exact moved_coherentAt (handed_coherent why hi) (by simp [not_mem_left_queue hq, handed])

section
variable {s : State} {l : Lift}

/-- A coherent lift outside RESCUING and EXCLUDED stays coherent as it enters NORMAL (R12). -/
theorem enterNormal_keeps_coherentAt (h : s.CoherentAt l) (hr : (s.lift l).state ≠ .rescuing)
    (he : (s.lift l).state ≠ .excluded) : (s.enterNormal l).CoherentAt l :=
  enterNormal_coherentAt (rescue_none_of_coherent h.1 hr) (inService_of_coherent h.1 he) h.2.mp

/-- A coherent lift in service stays coherent as it enters MANUAL (R18). -/
theorem enterManual_keeps_coherentAt (why : ManualReason) (h : s.CoherentAt l) (he : (s.lift l).state ≠ .excluded) :
    (s.enterManual l why).CoherentAt l := enterManual_coherentAt why (inService_of_coherent h.1 he) h.2.mp

/-- A bare lift outside the queue enters any of the states that ask for nothing. -/
theorem moved_bare_coherentAt {c : LiftContext} (hb : c.Bare)
    (hc : c.state = .normal ∨ c.state = .suspect ∨ c.state = .stalled ∨ c.state = .released) (hq : l ∉ s.queue) :
    (moved s l c).CoherentAt l :=
  moved_coherentAt (coherent_of_bare hb hc) (by rcases hc with hc | hc | hc | hc <;> simp [hq, hc])

theorem enterQueued_coherentAt (now : TimeTag) (h : s.CoherentAt l) (hs : (s.lift l).state = .stalled)
    (hh : (s.lift l).hold = false) : (s.enterQueued l now).CoherentAt l := by
  have hb : (s.lift l).Bare := bare_of_coherent h.1 (by simp [hs])
  rw [enterQueued_eq]
  constructor
  · rw [lift_callAdmission, lift_enqueue, lift_moved_same]
    exact queuedAt_coherent now hb hh
  · rw [callAdmission_queue, mem_enqueue, lift_callAdmission, lift_enqueue, lift_moved_same]
    simp [queuedAt]

theorem planStalled_coherentAt (now : TimeTag) (h : s.CoherentAt l) (hs : (s.lift l).state = .stalled) :
    (s.planStalled l now).CoherentAt l := by
  have hf := runPlanner_stepFrame s l now
  have hu := hf.coherentAt h
  have hst := hf.state.trans hs
  unfold State.planStalled
  dsimp only
  split
  · exact hu
  next hh =>
    split
    · exact enterQueued_coherentAt now hu hst (Bool.of_not_eq_true hh)
    · exact enterManual_keeps_coherentAt _ hu (by simp [hst])

/-- The STALLED evaluation keeps a STALLED lift coherent, whatever state it leaves it in (R11). -/
theorem evaluateStalled_coherentAt (now : TimeTag) (h : s.CoherentAt l) (hs : (s.lift l).state = .stalled) :
    (s.evaluateStalled l now).CoherentAt l := by
  unfold State.evaluateStalled
  split
  · split
    · exact enterNormal_keeps_coherentAt h (by simp [hs]) (by simp [hs])
    · split
      · exact enterManual_keeps_coherentAt _ h (by simp [hs])
      · exact planStalled_coherentAt now h hs
  · exact planStalled_coherentAt now h hs

/-- A bare lift outside the queue enters STALLED and is evaluated (R11). -/
theorem enterStalled_coherentAt (now : TimeTag) (hb : (s.lift l).Bare) (hq : l ∉ s.queue) :
    (s.enterStalled l now).CoherentAt l := by
  rw [enterStalled_eq]
  obtain ⟨h1, h2, h3, h4, h5⟩ := hb
  exact evaluateStalled_coherentAt now (moved_bare_coherentAt ⟨h1, h2, h3, h4, h5⟩ (by simp) hq) (by simp)

theorem replanQueued_coherentAt (now : TimeTag) (h : s.CoherentAt l) (hs : (s.lift l).state = .queued) :
    (s.replanQueued l now).CoherentAt l := by
  have hf := runPlanner_stepFrame s l now
  have hu := hf.coherentAt h
  have hst := hf.state.trans hs
  unfold State.replanQueued
  dsimp only
  split
  · exact enterManual_keeps_coherentAt _ hu (by simp [hst])
  · split
    · exact hu
    · refine ⟨hu.1, ?_⟩
      rw [callAdmission_queue, mem_enqueue, lift_callAdmission, lift_enqueue]
      simp [hst]

theorem enterReleased_coherentAt (hb : (s.lift l).Bare) (hq : l ∉ s.queue) : (s.enterReleased l).CoherentAt l := by
  obtain ⟨h1, h2, h3, h4, h5⟩ := hb
  have h := moved_bare_coherentAt (s := s) (l := l) (c := { s.lift l with state := .released, rescue := none })
    ⟨rfl, h2, h3, h4, h5⟩ (by simp) hq
  obtain ⟨u, rfl, e | e⟩ := enterReleased_cases s l <;> rw [e] <;> exact h

/-! ### Executions -/

theorem endRetry_coherentAt (now : TimeTag) (hb : (s.lift l).Bare) (hq : l ∉ s.queue) :
    (s.endRetry l now).CoherentAt l := by
  unfold State.endRetry
  split
  · obtain ⟨h1, h2, h3, h4, h5⟩ := hb
    exact enterStalled_coherentAt now (by rw [lift_modLift_same]; exact ⟨h1, h2, h3, h4, h5⟩) hq
  · exact enterManual_coherentAt _ hb.inService fun h => absurd h hq

theorem endAs_coherentAt (why : Ending) (aborted : Bool) (now : TimeTag) (hb : (s.lift l).Bare) (hq : l ∉ s.queue) :
    (s.endAs l why aborted now).CoherentAt l := by
  have hm : ∀ why, (s.enterManual l why).CoherentAt l := fun why =>
    enterManual_coherentAt why hb.inService fun h => absurd h hq
  unfold State.endAs
  cases why with
  | reached outcome =>
    cases aborted with
    | false =>
      cases outcome with
      | released => exact enterReleased_coherentAt hb hq
      | retry => exact endRetry_coherentAt now hb hq
      | manual => exact hm _
    | true => exact hm _
  | stepLimit => exact hm _
  | safety => exact enterManual_coherentAt (s := s.postPartStop l) _ hb.inService fun h => absurd h hq
  | lostContact => exact enterManual_coherentAt (s := s.setSlot l none) _ hb.inService fun h => absurd h hq

/-- The end of an execution keeps a RESCUING lift coherent (R16). -/
theorem endExecution_coherentAt (why : Ending) (now : TimeTag) (h : s.CoherentAt l) (hr : (s.lift l).rescue.isSome) :
    (s.endExecution l why now).CoherentAt l := by
  obtain ⟨r, hr⟩ := Option.isSome_iff_exists.mp hr
  obtain ⟨⟨h1, h2, h3, -, h5, -, h7⟩, hq⟩ := h
  have hs : (s.lift l).state = .rescuing := h1.mp (by simp [hr])
  have hd : (s.dropExecution l).lift l = { s.lift l with rescue := none } := by
    rw [dropExecution_eq s l r hr]
    exact lift_setLift_same s l _
  have hdq : (s.dropExecution l).queue = s.queue := by rw [dropExecution_eq s l r hr]; rfl
  have hb0 : (s.lift l).beforeOffline = none := by simpa [hs] using h3
  have hb : ((s.dropExecution l).lift l).Bare := by
    rw [hd]
    exact ⟨rfl, by simpa [hs] using h2, hb0, by simpa [hs, hb0] using h5, by simpa [hs] using h7⟩
  rw [endExecution_eq]
  exact endAs_coherentAt why _ now hb (by simp [hdq, hq, hs])

end

/-- What a running execution does within an event keeps the coherence of all. -/
theorem RunsOrEnds.coherent {l : Lift} {now : TimeTag} {s u : State} (h : RunsOrEnds l now s u) (hs : s.Coherent) :
    u.Coherent := by
  rcases h with h | ⟨v, why, h, hr, rfl⟩
  · exact h.coherent hs
  · have hv := h.coherent hs
    exact (endExecution_liftFrame v l why now).coherent hv (endExecution_coherentAt why now (hv.at l) hr)

theorem endExecution_coherent {s : State} {l : Lift} (why : Ending) (now : TimeTag) (hs : s.Coherent)
    (h : (s.lift l).state = .rescuing) : (s.endExecution l why now).Coherent :=
  RunsOrEnds.coherent (.inr ⟨s, why, .refl l s, (hs.1 l).1.mpr h, rfl⟩) hs

/-! ### Grants -/

/-- A grant's lift comes from the queue (R82). -/
theorem walk_mem {s : State} {q passed : List Lift} {l : Lift} {out : List Lift} (h : s.walk q passed = some (l, out)) :
    l ∈ q := by
  induction q generalizing passed with
  | nil => simp [State.walk] at h
  | cons x xs ih =>
    unfold State.walk at h
    split at h
    · obtain ⟨rfl, -⟩ := Prod.mk.inj (Option.some.inj h)
      exact List.mem_cons_self
    · split at h
      · exact absurd h (by simp)
      · exact List.mem_cons_of_mem x (ih h)

/-- A lift passed over by a walk: its bypass count raised, if it holds queue data (R82). -/
def LiftContext.bypassed (c : LiftContext) : LiftContext :=
  { c with queueData := c.queueData.map fun q => { q with bypass := min 15 (q.bypass + 1) } }

theorem bypassed_coherent {c : LiftContext} (h : c.Coherent) : c.bypassed.Coherent := by
  simpa [LiftContext.Coherent, LiftContext.bypassed] using h

theorem lift_raiseBypass (s : State) (l k : Lift) :
    (s.raiseBypass l).lift k = if k = l then (s.lift l).bypassed else s.lift k := lift_modLift s l k _

theorem raiseBypass_coherentAt {s : State} {l k : Lift} (h : s.CoherentAt k) : (s.raiseBypass l).CoherentAt k := by
  rw [State.CoherentAt, lift_raiseBypass]
  split
  next e => exact ⟨bypassed_coherent (e ▸ h.1), e ▸ h.2⟩
  · exact h

theorem foldl_raiseBypass_coherentAt {s : State} {k : Lift} (passed : List Lift) (h : s.CoherentAt k) :
    (passed.foldl State.raiseBypass s).CoherentAt k := by
  induction passed generalizing s with
  | nil => exact h
  | cons x xs ih => exact ih (raiseBypass_coherentAt h)

@[simp] theorem foldl_raiseBypass_queue (s : State) (passed : List Lift) :
    (passed.foldl State.raiseBypass s).queue = s.queue := by
  induction passed generalizing s with
  | nil => rfl
  | cons x xs ih => exact ih _

/-- Raising bypass counts changes queue data only, and turns none into none. -/
theorem foldl_raiseBypass_context (s : State) (passed : List Lift) (k : Lift) :
    ∃ q, (passed.foldl State.raiseBypass s).lift k = { s.lift k with queueData := q }
      ∧ ((s.lift k).queueData = none → q = none) := by
  induction passed generalizing s with
  | nil => exact ⟨_, rfl, id⟩
  | cons x xs ih =>
    obtain ⟨q, e, hq⟩ := ih (s.raiseBypass x)
    refine ⟨q, ?_, fun h => hq ?_⟩
    · rw [List.foldl_cons, e, lift_raiseBypass]
      split
      next hk => subst hk; rfl
      · rfl
    · rw [lift_raiseBypass]
      split
      next hk => subst hk; simp [LiftContext.bypassed, h]
      · exact h

/-- The context of a granted lift (R14, R84). -/
def LiftContext.granted (c : LiftContext) (r : RescueRecord) : LiftContext :=
  { c with queueData := none, rescue := some r, state := .rescuing }

theorem lift_dequeue (s : State) (l k : Lift) :
    (s.dequeue l).lift k = if k = l then { s.lift l with queueData := none } else s.lift k := lift_setLift s l k _

@[simp] theorem dequeue_queue (s : State) (l : Lift) : (s.dequeue l).queue = s.queue.filter (· ≠ l) := rfl

@[simp] theorem foldl_raiseBypass_outstanding (s : State) (passed : List Lift) :
    (passed.foldl State.raiseBypass s).outstanding = s.outstanding := by
  induction passed generalizing s with
  | nil => rfl
  | cons x xs ih => exact ih _

/-- The context of the lift to be granted, its place in the queue given up and the lifts before it passed over. -/
theorem lift_passedOver_same (s : State) (l : Lift) (passed : List Lift) :
    (passed.foldl State.raiseBypass (s.dequeue l)).lift l = { s.lift l with queueData := none } := by
  obtain ⟨q, e, hq⟩ := foldl_raiseBypass_context (s.dequeue l) passed l
  have hd : (s.dequeue l).lift l = { s.lift l with queueData := none } := by simp [lift_dequeue]
  rw [e, hq (by rw [hd]), hd]

/-- A rescue record and a reservation given to a lift that has given up its queue data, and its entry into RESCUING. -/
theorem setRecord_enter (v : State) (l : Lift) (c : LiftContext) (r : RescueRecord) (n : Nat)
    (hv : v.lift l = { c with queueData := none }) :
    ({ v.modLift l fun c => { c with rescue := some r } with outstanding := n } : State).enter l .rescuing =
      moved { v with outstanding := n } l (c.granted r) := by
  have h := setLift_enter ({ v with outstanding := n } : State) l { v.lift l with rescue := some r } .rescuing rfl
  rw [show ({ v.lift l with rescue := some r, state := .rescuing } : LiftContext) = c.granted r by rw [hv]; rfl] at h
  exact h

/-- The state a grant starts the execution in: the queue without the lift, the bypass counts raised,
the reservation added,
the lift in RESCUING with its record (R14, R84). -/
theorem beginRescue_eq (s : State) (l : Lift) (passed : List Lift) (r : RescueRecord)
    (hr : r = (s.lift l).newRescue s.recipes.active) :
    s.beginRescue l passed =
      moved { passed.foldl State.raiseBypass (s.dequeue l) with
                outstanding := s.outstanding + (r.creepReservation + r.doorReservation) } l ((s.lift l).granted r) := by
  have hv := lift_passedOver_same s l passed
  have ho : (passed.foldl State.raiseBypass (s.dequeue l)).outstanding = s.outstanding :=
    foldl_raiseBypass_outstanding _ _
  have hrec : (passed.foldl State.raiseBypass (s.dequeue l)).recipes = s.recipes :=
    (foldl_rescueFrame State.raiseBypass raiseBypass_rescueFrame passed (s.dequeue l)).recipes
  have hn : ((passed.foldl State.raiseBypass (s.dequeue l)).lift l).newRescue
      (passed.foldl State.raiseBypass (s.dequeue l)).recipes.active = r := by
    rw [hv, hrec, hr]
    rfl
  have h := setRecord_enter _ l _ r (s.outstanding + (r.creepReservation + r.doorReservation)) hv
  unfold State.beginRescue
  dsimp only
  rw [hn, ho]
  exact h

theorem mem_beginRescue_queue (s : State) (l k : Lift) (passed : List Lift) :
    k ∈ (s.beginRescue l passed).queue ↔ k ∈ s.queue ∧ k ≠ l := by
  rw [beginRescue_eq s l passed _ rfl, moved_queue]
  show k ∈ (passed.foldl State.raiseBypass (s.dequeue l)).queue ↔ _
  rw [foldl_raiseBypass_queue, dequeue_queue]
  simp

theorem lift_beginRescue_same (s : State) (l : Lift) (passed : List Lift) :
    (s.beginRescue l passed).lift l = (s.lift l).granted ((s.lift l).newRescue s.recipes.active) := by
  rw [beginRescue_eq s l passed _ rfl, lift_moved_same]

/-- Of the other lifts a grant changes queue data only. -/
theorem lift_beginRescue_other (s : State) {l k : Lift} (passed : List Lift) (h : k ≠ l) :
    (s.beginRescue l passed).lift k = (passed.foldl State.raiseBypass (s.dequeue l)).lift k := by
  rw [beginRescue_eq s l passed _ rfl, lift_moved_other _ _ h]
  rfl

theorem granted_coherent {c : LiftContext} (r : RescueRecord) (h : c.Coherent) (hs : c.state = .queued) :
    (c.granted r).Coherent := by
  have hh := hold_false_of_coherent h (.inl hs)
  obtain ⟨-, -, h3, -, h5, -, h7⟩ := h
  have hb : c.beforeOffline = none := by simpa [hs] using h3
  have hm : c.manualReason = none := by simpa [hs, hb] using h5
  have hi : c.entry.inService = true := by simpa [hs] using h7
  simp [LiftContext.Coherent, LiftContext.granted, hb, hm, hi, hh]

theorem beginRescue_coherent {s : State} {l : Lift} (passed : List Lift) (h : s.Coherent)
    (hs : (s.lift l).state = .queued) : (s.beginRescue l passed).Coherent := by
  refine coherent_of_at (fun k => ?_) ?_
  · rw [State.CoherentAt, mem_beginRescue_queue]
    by_cases hk : k = l
    · subst hk
      rw [lift_beginRescue_same]
      exact ⟨granted_coherent _ (h.1 k) hs, by simp [LiftContext.granted]⟩
    · have hd : (s.dequeue l).CoherentAt k := by
        have := h.at k
        rw [State.CoherentAt, lift_dequeue, if_neg hk, dequeue_queue]
        simpa [hk] using this
      have := foldl_raiseBypass_coherentAt passed hd
      rw [State.CoherentAt, foldl_raiseBypass_queue, dequeue_queue] at this
      rw [lift_beginRescue_other s passed hk]
      simpa [hk] using this
  · rw [beginRescue_eq s l passed _ rfl, moved_queue]
    show (passed.foldl State.raiseBypass (s.dequeue l)).queue.Nodup
    rw [foldl_raiseBypass_queue, dequeue_queue]
    exact h.2.1.filter _

theorem grant_coherent {s : State} {l : Lift} (passed : List Lift) (now : TimeTag) (h : s.Coherent)
    (hs : (s.lift l).state = .queued) : (s.grant l passed now).Coherent :=
  (startStep_runsOrEnds _ l _ now).coherent (beginRescue_coherent passed h hs)

theorem walks_coherent (n : Nat) {s : State} (now : TimeTag) (h : s.Coherent) : (State.walks n s now).Coherent := by
  induction n generalizing s with
  | zero => exact h
  | succ n ih =>
    unfold State.walks
    split
    · split
      next l passed e => exact ih (grant_coherent passed now h ((h.2.2 l).mp (walk_mem e)))
      · exact h
    · exact h

theorem evaluateAdmission_coherent {s : State} (now : TimeTag) (h : s.Coherent) :
    (s.evaluateAdmission now).Coherent :=
  coherent_of_same (s := State.walks s.walkBound s now) rfl rfl (walks_coherent _ now h)

/-! ### Reports, unanswered polls, hazards -/

section
variable {s : State} {l : Lift}

/-- A replaced context that keeps the rescue state and all that a rescue state asks for. -/
theorem setLift_keeps_coherentAt {c : LiftContext} (h : s.CoherentAt l) (hc : c.Coherent)
    (hs : c.state = (s.lift l).state) : (s.setLift l c).CoherentAt l :=
  setLift_coherentAt hc (by rw [hs]; exact h.2)

theorem confirmStall_coherentAt (now : TimeTag) (hb : (s.lift l).Bare) (hq : l ∉ s.queue) :
    (s.confirmStall l now).CoherentAt l := by
  obtain ⟨h1, h2, h3, h4, h5⟩ := hb
  exact enterStalled_coherentAt now (by rw [lift_modLift_same]; exact ⟨h1, h2, h3, h4, h5⟩) hq

theorem debounce_coherentAt (n : Nat) (now : TimeTag) (hb : (s.lift l).Bare) (hq : l ∉ s.queue) :
    (s.debounce l n now).CoherentAt l := by
  obtain ⟨h1, h2, h3, h4, h5⟩ := hb
  unfold State.debounce
  dsimp only
  split
  · exact confirmStall_coherentAt now (by rw [lift_modLift_same]; exact ⟨h1, h2, h3, h4, h5⟩) hq
  · rw [modLift_enter s l _ .suspect rfl]
    exact moved_bare_coherentAt ⟨h1, h2, h3, h4, h5⟩ (by simp) hq

/-- A coherent lift in a state that asks for nothing is bare and outside the queue. -/
theorem bare_of_coherentAt (h : s.CoherentAt l) (hs : (s.lift l).state = .normal ∨ (s.lift l).state = .suspect
    ∨ (s.lift l).state = .stalled ∨ (s.lift l).state = .released) : (s.lift l).Bare ∧ l ∉ s.queue :=
  ⟨bare_of_coherent h.1 hs, fun hq => by rcases hs with hs | hs | hs | hs <;> simp [h.2.mp hq] at hs⟩

theorem reportNormal_coherentAt (v : Verdict) (now : TimeTag) (h : s.CoherentAt l) (hs : (s.lift l).state = .normal) :
    (s.reportNormal l v now).CoherentAt l := by
  obtain ⟨hb, hq⟩ := bare_of_coherentAt h (by simp [hs])
  unfold State.reportNormal
  split
  · exact debounce_coherentAt _ now hb hq
  · exact h

theorem reportSuspect_coherentAt (v : Verdict) (now : TimeTag) (h : s.CoherentAt l)
    (hs : (s.lift l).state = .suspect) : (s.reportSuspect l v now).CoherentAt l := by
  obtain ⟨hb, hq⟩ := bare_of_coherentAt h (by simp [hs])
  unfold State.reportSuspect
  split
  · exact debounce_coherentAt _ now hb hq
  · exact enterNormal_keeps_coherentAt h (by simp [hs]) (by simp [hs])

theorem reportQueued_coherentAt (v : Verdict) (now : TimeTag) (h : s.CoherentAt l) (hs : (s.lift l).state = .queued) :
    (s.reportQueued l v now).CoherentAt l := by
  unfold State.reportQueued
  split
  · exact enterNormal_keeps_coherentAt h (by simp [hs]) (by simp [hs])
  · split
    · exact enterManual_keeps_coherentAt _ h (by simp [hs])
    · exact replanQueued_coherentAt now h hs

theorem reportReleased_coherentAt (v : Verdict) (r : Report) (b : Option Nat) (h : s.CoherentAt l)
    (hs : (s.lift l).state = .released) : (s.reportReleased l v r b).CoherentAt l := by
  unfold State.reportReleased
  extract_lets a
  obtain ⟨ha, hst⟩ : a.CoherentAt l ∧ (a.lift l).state = .released := by
    unfold a
    split <;> exact ⟨h, hs⟩
  clear_value a
  split
  · exact enterNormal_keeps_coherentAt ha (by simp [hst]) (by simp [hst])
  · exact ha

theorem reportManual_coherentAt (v : Verdict) (r : Report) (h : s.CoherentAt l) (hs : (s.lift l).state = .manual) :
    (s.reportManual l v r).CoherentAt l := by
  unfold State.reportManual
  split
  · exact enterNormal_keeps_coherentAt h (by simp [hs]) (by simp [hs])
  · exact h

theorem reportRescuing_coherent (v : Verdict) (r : Report) (now : TimeTag) (h : s.Coherent)
    (hs : (s.lift l).state = .rescuing) : (s.reportRescuing l v r now).Coherent := by
  unfold State.reportRescuing
  split
  · exact endExecution_coherent _ now h hs
  · exact (stepReport_runsOrEnds s l r now).coherent h

/-- The first report of an OFFLINE lift (R20): the state before offline says which of what a rescue state asks for the
context still holds. -/
theorem reportOffline_coherentAt (v : Verdict) (r : Report) (b : Option Nat) (now : TimeTag) (h : s.CoherentAt l)
    (hs : (s.lift l).state = .offline) : (s.reportOffline l v r b now).CoherentAt l := by
  obtain ⟨⟨h1, h2, h3, h4, h5, h6, h7⟩, hq⟩ := h
  have hr : (s.lift l).rescue = none := by simpa [hs] using h1
  have hd : (s.lift l).queueData = none := by simpa [hs] using h2
  have hi : (s.lift l).entry.inService = true := by simpa [hs] using h7
  have hl : l ∉ s.queue := by simp [hq, hs]
  have hm : (s.lift l).beforeOffline ≠ some .manual → (s.lift l).manualReason = none := fun hb => by
    simpa [hs, hb] using h5
  have hn : ((s.modLift l fun c => { c with beforeOffline := none }).enterNormal l).CoherentAt l :=
    enterNormal_coherentAt (by simpa using hr) (by simpa using hi) fun hc => absurd hc hl
  have hnormal : (((s.modLift l fun c => { c with beforeOffline := none }).enterNormal l).reportNormal l v
      now).CoherentAt l := reportNormal_coherentAt v now hn (by rw [enterNormal_eq, lift_moved_same]; rfl)
  have hstalled : (s.lift l).beforeOffline ≠ some .manual →
      ((s.modLift l fun c => { c with beforeOffline := none }).enterStalled l now).CoherentAt l := fun hb =>
    enterStalled_coherentAt now (by rw [lift_modLift_same]; exact ⟨hr, hd, rfl, hm hb, hi⟩) hl
  unfold State.reportOffline
  dsimp only
  split
  next hb =>
    refine reportManual_coherentAt v r ?_ ?_ <;> rw [modLift_enter s l _ .manual rfl]
    · exact moved_coherentAt (by simpa [LiftContext.Coherent, hr, hd, hi, hb]
        using h5) (by simp [hl])
    · simp
  next hb =>
    refine reportReleased_coherentAt v r b ?_ ?_ <;> rw [modLift_enter s l _ .released rfl]
    · exact moved_bare_coherentAt ⟨hr, hd, rfl, hm (by rw [hb]; simp), hi⟩
        (by simp) hl
    · simp
  next hb =>
    split
    · exact hstalled (by rw [hb]; simp)
    · exact hnormal
  next hb =>
    split
    · exact hstalled (by rw [hb]; simp)
    · exact hnormal
  · exact hnormal

/-- A report acted on by the lift's state keeps the coherence of all (R5, step 7). -/
theorem reportByState_coherent (v : Verdict) (r : Report) (b : Option Nat) (now : TimeTag) (h : s.Coherent) :
    (s.reportByState l v r b now).Coherent := by
  have hl := h.at l
  have hf := reportByState_liftFrame s l v r b now
  unfold State.reportByState at hf ⊢
  cases hs : (s.lift l).state <;> rw [hs] at hf
  case excluded => exact h
  case normal => exact hf.coherent h (reportNormal_coherentAt v now hl hs)
  case suspect => exact hf.coherent h (reportSuspect_coherentAt v now hl hs)
  case stalled => exact hf.coherent h (evaluateStalled_coherentAt now hl hs)
  case queued => exact hf.coherent h (reportQueued_coherentAt v now hl hs)
  case rescuing => exact reportRescuing_coherent v r now h hs
  case released => exact hf.coherent h (reportReleased_coherentAt v r b hl hs)
  case manual => exact hf.coherent h (reportManual_coherentAt v r hl hs)
  case offline => exact hf.coherent h (reportOffline_coherentAt v r b now hl hs)

theorem hazardReplan_coherent (z : BitVec 32) (now : TimeTag) (h : s.Coherent) :
    (s.hazardReplan z now l).Coherent := by
  have hf := hazardReplan_liftFrame s z now l
  unfold State.hazardReplan at hf ⊢
  split
  next ht =>
    rw [if_pos ht] at hf
    split
    next hs => rw [hs] at hf; exact hf.coherent h (evaluateStalled_coherentAt now (h.at l) hs)
    next hs => rw [hs] at hf; exact hf.coherent h (replanQueued_coherentAt now (h.at l) hs)
    · exact (replanRescuing_runsOrEnds s l now).coherent h
    · exact h
  · exact h

end

/-- A context replaced by a coherent one in the same rescue state. -/
theorem setLift_coherent {s : State} {l : Lift} {c : LiftContext} (h : s.Coherent) (hc : c.Coherent)
    (hs : c.state = (s.lift l).state) : (s.setLift l c).Coherent := by
  refine coherent_of_at (fun k => ?_) h.2.1
  by_cases hk : k = l
  · subst hk
    exact setLift_keeps_coherentAt (h.at k) hc hs
  · have := h.at k
    rwa [State.CoherentAt, lift_setLift_other _ _ hk]

/-- A lift out of the queue and in another rescue state than QUEUED, with a coherent context. -/
theorem moved_left_coherent {s : State} {l : Lift} {c : LiftContext} (h : s.Coherent) (hc : c.Coherent)
    (hs : c.state ≠ .queued) : (moved (left s l) l c).Coherent := by
  refine coherent_of_at (fun k => ?_) (by rw [moved_queue]; exact left_queue_nodup s l h.2.1)
  by_cases hk : k = l
  · subst hk
    exact moved_coherentAt hc (by simp [not_mem_left_queue (h.2.2 k).mp, hs])
  · have := h.at k
    rw [State.CoherentAt, lift_moved_other _ _ hk, lift_left, moved_queue, mem_left_queue]
    simpa [hk] using this

/-- The context of a lift at its offline limit, out of the queue if it was there (R19). -/
def LiftContext.goneOffline (c : LiftContext) (n : Nat) : LiftContext :=
  { c with unanswered := n, state := .offline, beforeOffline := some c.state,
           queueData := if c.state = .queued then none else c.queueData }

/-- The departure for OFFLINE of a lift whose unanswered count has been set to `n` (R19). -/
theorem enterOffline_eq (s : State) (l : Lift) (n : Nat) (c : LiftContext) (hc : c = s.lift l) :
    (((s.setLift l { c with unanswered := n }).leaveQueue l).modLift l
        fun d => { d with beforeOffline := some c.state }).enter l .offline = moved (left s l) l (c.goneOffline n) := by
  subst hc
  by_cases h : (s.lift l).state = .queued
  · rw [leaveQueue_of_queued _ _ (by simpa using h), left_setLift _ _ _ (by rfl), setLift_setLift, lift_setLift_same,
      setLift_modLift,
      setLift_enter _ _ _ _ (by simp)]
    simp [LiftContext.goneOffline, h]
  · rw [leaveQueue_of_not_queued _ _ (by simpa using h), left_of_not_queued s l h, setLift_modLift,
      setLift_enter _ _ _ _ (by simp)]
    simp [LiftContext.goneOffline, h]

theorem goneOffline_coherent {c : LiftContext} (n : Nat) (h : c.Coherent) (he : c.state ≠ .excluded)
    (ho : c.state ≠ .offline) (hr : c.state ≠ .rescuing) : (c.goneOffline n).Coherent := by
  have hi := inService_of_coherent h he
  have hres := rescue_none_of_coherent h hr
  obtain ⟨-, h2, h3, -, h5, -, -⟩ := h
  have hb : c.beforeOffline = none := by simpa [ho] using h3
  have hm : c.manualReason.isSome ↔ c.state = .manual := by simpa [hb] using h5
  by_cases hq : c.state = .queued
  · simpa [LiftContext.Coherent, LiftContext.goneOffline, hi, hres, hq] using hm
  · have hd : c.queueData = none := by simpa [hq] using h2
    simpa [LiftContext.Coherent, LiftContext.goneOffline, hi, hres, hq, hd, he, ho, hr] using hm

end Sys2Proof.Machine
end

section
/-! SUPPORT. What the ring's events and the expiries keep: the loaded tables,
and the coherence of lift contexts and queue.
The machinery that follows an event (the evaluation owed, the lane record, the next descriptors, the transmitter) keeps
what the part remembers of reports, hazards and reservoir as well. -/

namespace Sys2Proof.Machine

open Slice0

/-! ### The relations -/

/-- `u` differs from `s` in no lift context, no place in the queue, no table and neither view. -/
structure Untouched (s u : State) : Prop where
  lifts : u.lifts = s.lifts
  queue : u.queue = s.queue
  tables : SameTables s u
  hazard : u.hazard = s.hazard
  reservoir : u.reservoir = s.reservoir

/-- What the machinery that follows an event keeps. -/
structure CycleKeeps (s u : State) : Prop where
  tables : SameTables s u
  hazard : u.hazard = s.hazard
  reservoir : u.reservoir = s.reservoir
  reports : ∀ k : Lift, SameReport (s.lift k) (u.lift k)
  coherent : s.Coherent → u.Coherent

/-- What every event on the ring and every expiry keeps. -/
structure EventKeeps (s u : State) : Prop where
  tables : SameTables s u
  coherent : s.Coherent → u.Coherent

theorem sameTables_refl (s : State) : SameTables s s := ⟨rfl, rfl, rfl, rfl, rfl, rfl, fun _ => ⟨rfl, rfl⟩⟩

theorem sameTables_trans {s u v : State} (h : SameTables s u) (k : SameTables u v) : SameTables s v := by
  obtain ⟨h1, h2, h3, h4, h5, h6, h7⟩ := h
  obtain ⟨k1, k2, k3, k4, k5, k6, k7⟩ := k
  exact ⟨k1.trans h1, k2.trans h2, k3.trans h3, k4.trans h4, k5.trans h5, k6.trans h6,
    fun l => ⟨(k7 l).1.trans (h7 l).1, (k7 l).2.trans (h7 l).2⟩⟩

theorem sameReport_trans {c d e : LiftContext} (h : SameReport c d) (k : SameReport d e) : SameReport c e := by
  obtain ⟨h1, h2, h3, h4, h5⟩ := h
  obtain ⟨k1, k2, k3, k4, k5⟩ := k
  exact ⟨k1.trans h1, k2.trans h2, k3.trans h3, k4.trans h4, k5.trans h5⟩

theorem RescueFrame.sameTables {s u : State} (h : RescueFrame s u) : SameTables s u :=
  ⟨h.faultTable, h.recipes, h.params, by rw [h.scan], by rw [h.scan], h.prefixHeld, fun l => ⟨h.entry l, h.landings l⟩⟩

namespace Untouched

theorem refl (s : State) : Untouched s s := ⟨rfl, rfl, sameTables_refl s, rfl, rfl⟩

theorem trans {s u v : State} (h : Untouched s u) (k : Untouched u v) : Untouched s v :=
  ⟨k.lifts.trans h.lifts, k.queue.trans h.queue, sameTables_trans h.tables k.tables, k.hazard.trans h.hazard,
    k.reservoir.trans h.reservoir⟩

theorem lift {s u : State} (h : Untouched s u) (l : Lift) : u.lift l = s.lift l := by rw [State.lift, h.lifts]; rfl

theorem cycleKeeps {s u : State} (h : Untouched s u) : CycleKeeps s u :=
  ⟨h.tables, h.hazard, h.reservoir, fun k => by rw [h.lift k]; exact ⟨rfl, rfl, rfl, rfl, rfl⟩,
    coherent_of_same h.lifts h.queue⟩

theorem eventKeeps {s u : State} (h : Untouched s u) : EventKeeps s u := ⟨h.tables, h.cycleKeeps.coherent⟩

end Untouched

namespace CycleKeeps

theorem refl (s : State) : CycleKeeps s s := (Untouched.refl s).cycleKeeps

theorem trans {s u v : State} (h : CycleKeeps s u) (k : CycleKeeps u v) : CycleKeeps s v :=
  ⟨sameTables_trans h.tables k.tables, k.hazard.trans h.hazard, k.reservoir.trans h.reservoir,
    fun i => sameReport_trans (h.reports i) (k.reports i), k.coherent ∘ h.coherent⟩

theorem eventKeeps {s u : State} (h : CycleKeeps s u) : EventKeeps s u := ⟨h.tables, h.coherent⟩

/-- What a running execution does within an event. -/
theorem of_runsOrEnds {l : Lift} {now : TimeTag} {s u : State} (h : RunsOrEnds l now s u) (hf : RescueFrame s u) :
    CycleKeeps s u := ⟨hf.sameTables, hf.hazard, hf.reservoir, h.liftFrame.reports, h.coherent⟩

end CycleKeeps

namespace EventKeeps

theorem refl (s : State) : EventKeeps s s := (Untouched.refl s).eventKeeps

theorem trans {s u v : State} (h : EventKeeps s u) (k : EventKeeps u v) : EventKeeps s v :=
  ⟨sameTables_trans h.tables k.tables, k.coherent ∘ h.coherent⟩

end EventKeeps

/-! ### Plain updates -/

theorem atTime_untouched (s : State) (t : TimeTag) : Untouched s (s.atTime t) :=
  ⟨rfl, rfl, ⟨rfl, rfl, rfl, rfl, rfl, rfl, fun _ => ⟨rfl, rfl⟩⟩, rfl, rfl⟩

theorem link_untouched (s : State) (p : LinkPort) : Untouched s { s with link := p } :=
  ⟨rfl, rfl, ⟨rfl, rfl, rfl, rfl, rfl, rfl, fun _ => ⟨rfl, rfl⟩⟩, rfl, rfl⟩

theorem orders_untouched (s : State) (o : OrderDispatcher) : Untouched s { s with orders := o } :=
  ⟨rfl, rfl, ⟨rfl, rfl, rfl, rfl, rfl, rfl, fun _ => ⟨rfl, rfl⟩⟩, rfl, rfl⟩

theorem exchange_untouched (s : State) (x : Option Exchange) : Untouched s { s with exchange := x } :=
  ⟨rfl, rfl, ⟨rfl, rfl, rfl, rfl, rfl, rfl, fun _ => ⟨rfl, rfl⟩⟩, rfl, rfl⟩

theorem lanes_untouched (s : State) (a b : LaneRecord) : Untouched s { s with laneA := a, laneB := b } :=
  ⟨rfl, rfl, ⟨rfl, rfl, rfl, rfl, rfl, rfl, fun _ => ⟨rfl, rfl⟩⟩, rfl, rfl⟩

theorem callAdmission_untouched (s : State) : Untouched s s.callAdmission :=
  ⟨rfl, rfl, ⟨rfl, rfl, rfl, rfl, rfl, rfl, fun _ => ⟨rfl, rfl⟩⟩, rfl, rfl⟩

/-- The Scan Engine's fields beside its two banks. -/
theorem scan_untouched (s : State) (e : ScanEngine) (ha : e.bankA = s.scan.bankA) (hb : e.bankB = s.scan.bankB) :
    Untouched s { s with scan := e } :=
  ⟨rfl, rfl, ⟨rfl, rfl, rfl, ha, hb, rfl, fun _ => ⟨rfl, rfl⟩⟩, rfl, rfl⟩

theorem setPhase_untouched (s : State) (p : ScanPhase) : Untouched s (s.setPhase p) := scan_untouched s _ rfl rfl

theorem setSlot_untouched (s : State) (l : Lift) (o : Option Order) : Untouched s (s.setSlot l o) :=
  orders_untouched s _

theorem raiseStation_untouched (s : State) (r : StationReason) : Untouched s (s.raiseStation r) := link_untouched s _

theorem transmit_untouched (s : State) : Untouched s s.transmit := by
  rw [transmit_link_only s]
  exact link_untouched s _

theorem commandReply_untouched (s : State) (f : Frame) : Untouched s (s.commandReply f) := by
  rcases commandReply_cases s f with ⟨-, e⟩ | ⟨-, e⟩ <;> rw [e]
  · exact link_untouched s _
  · exact .refl s

theorem makeReply_untouched (s : State) (d : BitVec 6) (st : CommandStatus) : Untouched s (s.makeReply d st) :=
  commandReply_untouched s _

theorem takeRemote_untouched (s : State) (c : RemoteCommand) : Untouched s (s.takeRemote c) := by
  rcases takeRemote_cases s c with ⟨-, e⟩ | ⟨-, e⟩ | ⟨-, e⟩ | ⟨-, e⟩ <;> rw [e]
  · exact makeReply_untouched s _ _
  · exact makeReply_untouched s _ _
  · exact makeReply_untouched s _ _
  · exact orders_untouched s _

/-! ### The ring and its descriptors -/

theorem updateLane_untouched (s : State) (l : Lane) (valid : Bool) : Untouched s (s.updateLane l valid) := by
  have h : Untouched s (s.setLaneRecord l ((s.laneRecord l).after valid)) := by
    cases l
    · exact lanes_untouched s _ s.laneB
    · exact lanes_untouched s s.laneA _
  unfold State.updateLane
  dsimp only
  split
  · exact h.trans (raiseStation_untouched _ _)
  · split
    · exact h.trans (raiseStation_untouched _ _)
    · exact h

theorem closeExchange_untouched (s : State) (x : Exchange) (valid : Bool) : Untouched s (s.closeExchange x valid) :=
  ((updateLane_untouched s x.lane valid).trans (lanes_untouched _ _ _)).trans (exchange_untouched _ none)

theorem beginExchange_untouched (s : State) (asked : Lane) (f : Frame) (k : ReplyKind) :
    Untouched s (s.beginExchange asked f k) := exchange_untouched s _

theorem tryPoll_untouched (s : State) (d : Descriptor) (asked : Lane) (n : Nat) (start : TimeTag) (gap : Nat) :
    Untouched s (s.tryPoll d asked n start gap) := (beginExchange_untouched s _ _ _).trans (setPhase_untouched _ _)

theorem confirmPoll_untouched (s : State) (d : Descriptor) (f : FirstReply) (asked : Lane) (start : TimeTag)
    (gap : Nat) :
    Untouched s (s.confirmPoll d f asked start gap) := (beginExchange_untouched s _ _ _).trans (setPhase_untouched _ _)

theorem markSent_untouched (s : State) (l : Lift) (o : Order) : Untouched s (s.markSent l o) := by
  unfold State.markSent
  dsimp only
  split <;> split <;> exact orders_untouched s _

theorem rejudge_untouched (q : List RemoteCommand) (s : State) : Untouched s (s.rejudge q).1 := by
  induction q generalizing s with
  | nil => exact orders_untouched s _
  | cons c cs ih =>
    unfold State.rejudge
    split
    · exact (makeReply_untouched s _ _).trans (ih _)
    · exact orders_untouched s _

theorem takeSlot_untouched (s : State) (d : Descriptor) (now : TimeTag) : Untouched s (s.takeSlot d now).1 := by
  unfold State.takeSlot
  split
  · split
    · exact ((markSent_untouched s _ _).trans (beginExchange_untouched _ _ _ _)).trans (setPhase_untouched _ _)
    · exact .refl s
  · have h := rejudge_untouched s.orders.passQueue s
    split
    next e => rw [e] at h; exact h
    next e => rw [e] at h; exact (h.trans (beginExchange_untouched _ _ _ _)).trans (setPhase_untouched _ _)

theorem takeDescriptor_untouched (s : State) (d : Descriptor) (now : TimeTag) :
    Untouched s (s.takeDescriptor d now).1 := by
  unfold State.takeDescriptor
  cases d.kind with
  | pause =>
    dsimp only
    split
    · exact .refl s
    · exact setPhase_untouched s _
  | pollLift =>
    dsimp only
    split
    · exact .refl s
    · exact tryPoll_untouched _ _ _ _ _ _
  | pollPower => exact tryPoll_untouched _ _ _ _ _ _
  | pollHazard => exact tryPoll_untouched _ _ _ _ _ _
  | orderSlot => exact takeSlot_untouched _ _ _

theorem takeFrom_untouched (ds : List Descriptor) (s : State) (i : Nat) (now : TimeTag) :
    Untouched s (s.takeFrom ds i now).1 := by
  induction ds generalizing s i with
  | nil => exact .refl s
  | cons d ds ih =>
    have h := (scan_untouched s { s.scan with current := some i } rfl rfl).trans (takeDescriptor_untouched _ d now)
    unfold State.takeFrom
    split
    next e => rw [e] at h; exact h.trans (ih _ _)
    next e => rw [e] at h; exact h

theorem swapScan_untouched (s : State) : Untouched s s.swapScan :=
  (scan_untouched s { s.scan with active := s.scan.active.other, swapPending := false } rfl rfl).trans
    (raiseStation_untouched _ _)

theorem endCycle_untouched (s : State) (now : TimeTag) : Untouched s (s.endCycle now) := by
  unfold State.endCycle
  extract_lets a e b
  have h1 : Untouched s a := by
    unfold a
    split
    · exact swapScan_untouched s
    · exact .refl s
  have h2 : Untouched a b := scan_untouched a _ rfl rfl
  split
  · exact (h1.trans h2).trans (raiseStation_untouched b _)
  · exact h1.trans h2

/-! ### Grants and evaluations -/

theorem beginRescue_reports (s : State) (l : Lift) (passed : List Lift) (k : Lift) :
    SameReport (s.lift k) ((s.beginRescue l passed).lift k) := by
  by_cases hk : k = l
  · subst hk
    rw [lift_beginRescue_same]
    exact ⟨rfl, rfl, rfl, rfl, rfl⟩
  · obtain ⟨q, e, -⟩ := foldl_raiseBypass_context (s.dequeue l) passed k
    rw [lift_beginRescue_other s passed hk, e, lift_dequeue, if_neg hk]
    exact ⟨rfl, rfl, rfl, rfl, rfl⟩

theorem walks_reports (n : Nat) (s : State) (now : TimeTag) (k : Lift) :
    SameReport (s.lift k) ((State.walks n s now).lift k) := by
  induction n generalizing s with
  | zero => exact ⟨rfl, rfl, rfl, rfl, rfl⟩
  | succ n ih =>
    unfold State.walks
    split
    · split
      · exact sameReport_trans (sameReport_trans (beginRescue_reports s _ _ k)
          ((startStep_runsOrEnds _ _ _ _).liftFrame.reports k)) (ih _)
      · exact ⟨rfl, rfl, rfl, rfl, rfl⟩
    · exact ⟨rfl, rfl, rfl, rfl, rfl⟩

theorem evaluateAdmission_cycleKeeps (s : State) (now : TimeTag) : CycleKeeps s (s.evaluateAdmission now) :=
  have h := (evaluateAdmission_rescueFrame s now).1
  ⟨h.sameTables, h.hazard, h.reservoir, walks_reports _ s now, evaluateAdmission_coherent now⟩

theorem settle_cycleKeeps (s : State) (now : TimeTag) : CycleKeeps s (s.settle now) := by
  unfold State.settle
  split
  · exact evaluateAdmission_cycleKeeps s now
  · exact .refl s

theorem finish_cycleKeeps (s : State) (now : TimeTag) : CycleKeeps s (s.finish now) :=
  (settle_cycleKeeps s now).trans (transmit_untouched _).cycleKeeps

/-! ### The scan cycle -/

theorem renewCreep_cycleKeeps (s : State) (l : Lift) (now : TimeTag) : CycleKeeps s (s.renewCreep l now) :=
  .of_runsOrEnds (renewCreep_runsOrEnds s l now) (renewCreep_rescueFrame s l now)

/-- A fold of steps that each keep this keeps it. -/
theorem foldl_cycleKeeps {α : Type} (f : State → α → State) (h : ∀ s a, CycleKeeps s (f s a)) (xs : List α)
    (s : State) :
    CycleKeeps s (xs.foldl f s) := by
  induction xs generalizing s with
  | nil => exact .refl s
  | cons x xs ih => exact (h s x).trans (ih (f s x))

theorem openCycle_cycleKeeps (s : State) (now : TimeTag) : CycleKeeps s (s.openCycle now) := by
  unfold State.openCycle
  extract_lets e a
  have h : Untouched s a.setProbes := Untouched.trans (u := a) (scan_untouched s a.scan rfl rfl) (lanes_untouched a _ _)
  refine (h.cycleKeeps.trans (foldl_cycleKeeps _ (fun u l => ?_) _ _)).trans (settle_cycleKeeps _ now)
  split
  · exact renewCreep_cycleKeeps u l now
  · exact .refl u

theorem startCycle_cycleKeeps (s : State) (now : TimeTag) : CycleKeeps s (s.startCycle now) := by
  have h := openCycle_cycleKeeps s now
  unfold State.startCycle
  extract_lets a
  have k := (takeFrom_untouched (a.scan.bank a.scan.active).descriptors a 0 now).cycleKeeps
  split
  next e => rw [e] at k; exact (h.trans k).trans (endCycle_untouched _ now).cycleKeeps
  next e => rw [e] at k; exact h.trans k

theorem advance_cycleKeeps (s : State) (i : Nat) (now : TimeTag) : CycleKeeps s (s.advance i now) := by
  have k := (takeFrom_untouched ((s.scan.bank s.scan.active).descriptors.drop i) s i now).cycleKeeps
  unfold State.advance
  split
  next u e =>
    rw [e] at k
    have hu := k.trans (endCycle_untouched u now).cycleKeeps
    dsimp only
    split
    · exact hu.trans (startCycle_cycleKeeps _ now)
    · exact hu
  next e => rw [e] at k; exact k

theorem endWork_cycleKeeps (s : State) (start : TimeTag) (gap : Nat) (now : TimeTag) :
    CycleKeeps s (s.endWork start gap now) := by
  unfold State.endWork
  split
  · exact advance_cycleKeeps s _ now
  · exact (setPhase_untouched s _).cycleKeeps

theorem expireGap_cycleKeeps (s : State) (now : TimeTag) : CycleKeeps s (s.expireGap now) := by
  unfold State.expireGap
  split
  · split
    · exact advance_cycleKeeps s _ now
    · exact .refl s
  · exact .refl s

theorem expireCycle_cycleKeeps (s : State) (now : TimeTag) : CycleKeeps s (s.expireCycle now) := by
  unfold State.expireCycle
  split
  · split
    · exact startCycle_cycleKeeps s now
    · exact .refl s
  · exact .refl s

theorem goOn_cycleKeeps (s : State) (g : GoingOn) (start : TimeTag) (gap : Nat) (now : TimeTag) :
    CycleKeeps s (s.goOn g start gap now) := by
  cases g with
  | ended => exact endWork_cycleKeeps s start gap now
  | retry d asked n => exact (tryPoll_untouched s d asked n start gap).cycleKeeps
  | confirm d f lane => exact (confirmPoll_untouched s d f lane start gap).cycleKeeps

/-! ### What an exchange brings -/

theorem offerCopy_untouched (s : State) (l : Lift) (p : List Word) (r : Report) : Untouched s (s.offerCopy l p r) := by
  unfold State.offerCopy
  split
  · exact .refl s
  · split
    · exact .refl s
    · split
      · exact (link_untouched s _).trans (link_untouched _ _)
      · exact .refl s

theorem storeReport_coherent {s : State} (l : Lift) (r : Report) (now : TimeTag) (h : s.Coherent) :
    (s.storeReport l r now).Coherent := setLift_coherent h (h.1 l) rfl

theorem takeReport_eventKeeps (s : State) (l : Lift) (src : Nat) (p : List Word) (r : Report) (now : TimeTag) :
    EventKeeps s (s.takeReport l src p r now) := by
  have hc : Untouched s ((s.offerCopy l p r).transmit) := (offerCopy_untouched s l p r).trans (transmit_untouched _)
  unfold State.takeReport
  split
  · exact .refl s
  · refine hc.eventKeeps.trans (.trans ?_ (settle_cycleKeeps _ now).eventKeeps)
    exact ⟨((storeReport_rescueFrame _ l r now).trans (reportByState_rescueFrame _ l _ r _ now)).sameTables,
      fun h => reportByState_coherent _ _ _ now (storeReport_coherent l r now h)⟩

/-- One unanswered poll (R19, R131). -/
theorem unansweredPollsAreCounted : UnansweredPollsAreCounted := by
  rintro s l now u c n rfl rfl rfl
  have hm : (s.modLift l fun c => { c with unanswered := min 15 (c.unanswered + 1) })
      = s.setLift l { s.lift l with unanswered := min 15 ((s.lift l).unanswered + 1) } := rfl
  have hcount : ∀ m, ((s.setLift l { s.lift l with unanswered := m }).lift l).unanswered = m := fun m => by simp
  have hstate : ∀ m, ((s.setLift l { s.lift l with unanswered := m }).lift l).state = (s.lift l).state := fun m => by
    simp
  refine ⟨fun h => by rw [State.unansweredPoll, if_pos h], fun h hlt => ?_, fun h hle => ?_⟩
  · rw [State.unansweredPoll, if_neg h]
    dsimp only
    rw [hm, hcount, setLift_params, if_pos hlt]
  · rw [State.unansweredPoll, if_neg h]
    dsimp only
    rw [hm, hcount, setLift_params, if_neg (Nat.not_lt.mpr hle), hstate]
    refine ⟨fun hs => by simp only [hs], fun hs => by simp only [hs], fun ho hr => ?_⟩
    split
    next hs => exact absurd hs hr
    next hs => exact absurd hs ho
    next hs => exact absurd hs h
    · exact enterOffline_eq s l _ _ rfl

end Sys2Proof.Machine
end

section
/-! SUPPORT. Every event on the ring and every expiry keeps the loaded tables and the coherence of lift contexts and
queue. -/

namespace Sys2Proof.Machine

open Slice0

/-! ### What an exchange is for -/

theorem unansweredPoll_coherent {s : State} (l : Lift) (now : TimeTag) (h : s.Coherent) :
    (s.unansweredPoll l now).Coherent := by
  obtain ⟨hexcl, hbelow, hat⟩ := unansweredPollsAreCounted s l now _ _ _ rfl rfl rfl
  have hcount : (s.setLift l { s.lift l with unanswered := min 15 ((s.lift l).unanswered + 1) }).Coherent :=
    setLift_coherent h (h.1 l) rfl
  by_cases he : (s.lift l).state = .excluded
  · rw [hexcl he]; exact h
  by_cases hn : min 15 ((s.lift l).unanswered + 1) < s.params.offlineLimit
  · rw [hbelow he hn]; exact hcount
  obtain ⟨hoff, hresc, helse⟩ := hat he (Nat.not_lt.mp hn)
  by_cases ho : (s.lift l).state = .offline
  · rw [hoff ho]; exact hcount
  by_cases hr : (s.lift l).state = .rescuing
  · rw [hresc hr]
    exact endExecution_coherent _ now hcount (by simpa using hr)
  · rw [helse ho hr]
    exact moved_left_coherent h (goneOffline_coherent _ (h.1 l) he ho hr) (by simp)

theorem unansweredPoll_eventKeeps (s : State) (l : Lift) (now : TimeTag) : EventKeeps s (s.unansweredPoll l now) :=
  ⟨(unansweredPoll_rescueFrame s l now).sameTables, unansweredPoll_coherent l now⟩

theorem takePower_eventKeeps (s : State) (p : List Word) (now : TimeTag) : EventKeeps s (s.takePower p now) := by
  unfold State.takePower
  dsimp only
  split <;>
    exact ⟨⟨rfl, rfl, rfl, rfl, rfl, rfl, fun _ => ⟨rfl, rfl⟩⟩, coherent_of_same rfl rfl⟩

theorem foldl_hazardReplan_coherent (z : BitVec 32) (now : TimeTag) (ls : List Lift) {s : State} (h : s.Coherent) :
    (ls.foldl (fun s l => s.hazardReplan z now l) s).Coherent := by
  induction ls generalizing s with
  | nil => exact h
  | cons l ls ih => exact ih (hazardReplan_coherent z now h)

theorem takeHazard_coherent {s : State} (p : List Word) (now : TimeTag) (h : s.Coherent) :
    (s.takeHazard p now).Coherent := by
  unfold State.takeHazard
  extract_lets zones changed a b
  have ha : a.Coherent := coherent_of_same (s := s) (u := a) rfl rfl h
  have e : b = allLifts.foldl (fun s l => s.hazardReplan changed now l) a := rfl
  have hb : b.Coherent := by
    rw [e]
    exact foldl_hazardReplan_coherent changed now allLifts ha
  split
  · exact (callAdmission_untouched b).cycleKeeps.coherent hb
  · exact hb

theorem takeHazard_eventKeeps (s : State) (p : List Word) (now : TimeTag) : EventKeeps s (s.takeHazard p now) :=
  ⟨sameTables_trans ⟨rfl, rfl, rfl, rfl, rfl, rfl, fun _ => ⟨rfl, rfl⟩⟩ (takeHazard_rescueFrame s p now).sameTables,
    takeHazard_coherent p now⟩

theorem deliver_eventKeeps (s : State) (l : Lift) (p : Poster) (ok : Bool) (now : TimeTag) :
    EventKeeps s (s.deliver l p ok now) :=
  (CycleKeeps.of_runsOrEnds (deliver_runsOrEnds s l p ok now) (deliver_rescueFrame s l p ok now)).eventKeeps

theorem useSend_eventKeeps (s : State) (l : Lift) (o : Order) (now : TimeTag) : EventKeeps s (s.useSend l o now) := by
  unfold State.useSend
  split
  · exact (setSlot_untouched s l none).eventKeeps.trans (deliver_eventKeeps _ l _ _ now)
  · exact (setSlot_untouched s l _).eventKeeps

theorem orderOutcome_eventKeeps (s : State) (l : Lift) (tag : BitVec 4) (out : EchoOutcome) (now : TimeTag) :
    EventKeeps s (s.orderOutcome l tag out now) := by
  unfold State.orderOutcome
  split
  · split
    · cases out with
      | echo t refused =>
        dsimp only
        split
        · exact (setSlot_untouched s l none).eventKeeps.trans (deliver_eventKeeps _ l _ _ now)
        · exact useSend_eventKeeps s l _ now
      | silent => exact useSend_eventKeeps s l _ now
    · exact .refl s
  · exact .refl s

theorem liftReply_eventKeeps (s : State) (d : Descriptor) (r : Reply) (now : TimeTag) :
    EventKeeps s (s.liftReply d r now).1 := by
  unfold State.liftReply
  split
  · dsimp only
    split
    · exact .refl s
    · exact takeReport_eventKeeps s _ _ _ _ now
  · exact .refl s

theorem jobReply_eventKeeps (s : State) (job : Job) (r : Reply) (now : TimeTag) :
    EventKeeps s (s.jobReply job r now).1 := by
  have hs : ∀ u, EventKeeps s u → EventKeeps s (u.settle now) := fun u h => h.trans (settle_cycleKeeps u now).eventKeeps
  unfold State.jobReply
  cases job with
  | poll d asked left =>
    dsimp only
    split
    · refine hs _ ?_
      split
      · exact takePower_eventKeeps s _ now
      · exact .refl s
    · refine hs _ ?_
      split
      · exact takeHazard_eventKeeps s _ now
      · exact .refl s
    · exact liftReply_eventKeeps s d r now
  | confirm d first =>
    dsimp only
    split
    · exact takeReport_eventKeeps s _ _ _ _ now
    · exact .refl s
  | abandoned => exact .refl s
  | order l tag => exact hs _ (orderOutcome_eventKeeps s l tag _ now)
  | command node => exact (commandReply_untouched s _).eventKeeps

theorem pollMissed_eventKeeps (s : State) (d : Descriptor) (asked : Lane) (left : Nat) (now : TimeTag) :
    EventKeeps s (s.pollMissed d asked left now).1 := by
  unfold State.pollMissed
  split
  · exact .refl s
  · cases left with
    | succ n => exact .refl s
    | zero =>
      dsimp only
      split
      · exact (unansweredPoll_eventKeeps s _ now).trans (settle_cycleKeeps _ now).eventKeeps
      · exact .refl s

theorem jobMissed_eventKeeps (s : State) (job : Job) (now : TimeTag) : EventKeeps s (s.jobMissed job now).1 := by
  unfold State.jobMissed
  cases job with
  | poll d asked left => exact pollMissed_eventKeeps s d asked left now
  | confirm d first =>
    dsimp only
    split
    · exact takeReport_eventKeeps s _ _ _ _ _
    · exact .refl s
  | abandoned => exact .refl s
  | order l tag => exact (orderOutcome_eventKeeps s l tag _ now).trans (settle_cycleKeeps _ now).eventKeeps
  | command node => exact (makeReply_untouched s _ _).eventKeeps

/-! ### The end of an exchange -/

theorem sendAllStop_untouched (s : State) : Untouched s s.sendAllStop :=
  ⟨rfl, rfl, ⟨rfl, rfl, rfl, rfl, rfl, rfl, fun _ => ⟨rfl, rfl⟩⟩, rfl, rfl⟩

theorem endExchange_eventKeeps (s : State) (x : Exchange) (valid : Bool) (k : State → Job → State × GoingOn)
    (now : TimeTag) (hk : ∀ job, EventKeeps s (k s job).1) : EventKeeps s (s.endExchange x valid k now) := by
  unfold State.endExchange
  split
  · exact ((closeExchange_untouched s x valid).trans (sendAllStop_untouched _)).eventKeeps
  · split
    next start gap job _ =>
      exact ((hk job).trans (closeExchange_untouched _ x valid).eventKeeps).trans
        (goOn_cycleKeeps _ _ start gap now).eventKeeps
    · exact (closeExchange_untouched s x valid).eventKeeps

theorem ringFrame_eventKeeps (s : State) (kind : ReplyKind) (r : Reply) (now : TimeTag) :
    EventKeeps s (s.ringFrame kind r now) := by
  unfold State.ringFrame
  split
  · split
    · exact endExchange_eventKeeps s _ true _ now fun job => jobReply_eventKeeps s job r now
    · exact .refl s
  · exact .refl s

theorem closeWindow_eventKeeps (s : State) (now : TimeTag) : EventKeeps s (s.closeWindow now) := by
  unfold State.closeWindow
  split
  · split
    · exact endExchange_eventKeeps s _ false _ now fun job => jobMissed_eventKeeps s job now
    · exact .refl s
  · exact .refl s

theorem sendEnd_untouched (s : State) (now : TimeTag) : Untouched s (s.sendEnd now) := by
  unfold State.sendEnd
  split
  · split
    · exact .refl s
    · exact exchange_untouched s _
  · exact .refl s

/-! ### Expiries -/

theorem expireStep_eventKeeps (s : State) (l : Lift) (now : TimeTag) : EventKeeps s (s.expireStep l now) :=
  (CycleKeeps.of_runsOrEnds (expireStep_runsOrEnds s l now) (expireStep_rescueFrame s l now)).eventKeeps

theorem expirePower_eventKeeps (s : State) (now : TimeTag) : EventKeeps s (s.expirePower now) := by
  unfold State.expirePower
  split
  · exact ⟨⟨rfl, rfl, rfl, rfl, rfl, rfl, fun _ => ⟨rfl, rfl⟩⟩, coherent_of_same rfl rfl⟩
  · exact .refl s

theorem expireSilence_untouched (s : State) (now : TimeTag) : Untouched s (s.expireSilence now) := by
  unfold State.expireSilence
  split
  · exact link_untouched s _
  · exact .refl s

/-! ### Whole commands -/

/-- The frame of every command: the time, what it does, the evaluation owed and the transmitter. -/
theorem command_eventKeeps (s u : State) (t : TimeTag) (h : EventKeeps (s.atTime t) u) : EventKeeps s (u.finish t) :=
  ((atTime_untouched s t).eventKeeps.trans h).trans (finish_cycleKeeps u t).eventKeeps

theorem replyArrives_eventKeeps (s : State) (kind : ReplyKind) (r : Reply) (t : TimeTag) :
    EventKeeps s (s.replyArrives kind r t) := command_eventKeeps s _ t (ringFrame_eventKeeps _ kind r t)

theorem ringWords_eventKeeps (s : State) (lane : Lane) (ws : List Word) (whole : Bool) (t : TimeTag) :
    EventKeeps s (s.ringWords lane ws whole t) := by
  unfold State.ringWords
  split
  · split
    · exact replyArrives_eventKeeps s _ _ t
    · exact (atTime_untouched s t).eventKeeps
  · exact (atTime_untouched s t).eventKeeps

theorem arrive_untouched (s : State) (t : TimeTag) : Untouched s (s.arrive t) := link_untouched s _

theorem remoteArrives_eventKeeps (s : State) (c : RemoteCommand) (t : TimeTag) :
    EventKeeps s (s.remoteArrives c t) := by
  unfold State.remoteArrives
  split
  · exact (atTime_untouched s t).eventKeeps
  · exact command_eventKeeps s _ t ((arrive_untouched _ t).trans (takeRemote_untouched _ c)).eventKeeps

/-- Every ring event and every expiry, the arrival of a remote command and the end of a transmission keep the tables and
the coherence of lift contexts and queue. -/
theorem exec_eventKeeps (c : Instr) (s u : State) (hr : requestOf c = none) (hp : c ≠ .powerOnReset)
    (ha : ∀ t, c ≠ .allStopSendEnd t) (hm : ∀ t d p, c ≠ .managementRequestDiscard t d p)
    (hl : ∀ t ws b, c ≠ .linkFrameDiscard t ws b) (he : exec c s = .next u) : EventKeeps s u := by
  cases c
  case powerOnReset => exact absurd rfl hp
  case allStopSendEnd t => exact absurd rfl (ha t)
  case managementRequestDiscard t d p => exact absurd rfl (hm t d p)
  case linkFrameDiscard t ws b => exact absurd rfl (hl t ws b)
  case remoteCommand t d p => cases he; exact remoteArrives_eventKeeps s _ t
  case exchangeSendEnd t => cases he; exact command_eventKeeps s _ t (sendEnd_untouched _ t).eventKeeps
  case statusReport t r => cases he; exact replyArrives_eventKeeps s _ r t
  case powerReport t r => cases he; exact replyArrives_eventKeeps s _ r t
  case hazardReport t r => cases he; exact replyArrives_eventKeeps s _ r t
  case orderEcho t r => cases he; exact replyArrives_eventKeeps s _ r t
  case commandReply t r => cases he; exact replyArrives_eventKeeps s _ r t
  case replyWindowClose t => cases he; exact command_eventKeeps s _ t (closeWindow_eventKeeps _ t)
  case ringFrameDiscard t lane ws b => cases he; exact ringWords_eventKeeps s lane ws b t
  case descriptorGapExpiry t => cases he; exact command_eventKeeps s _ t (expireGap_cycleKeeps _ t).eventKeeps
  case cycleStart t => cases he; exact command_eventKeeps s _ t (expireCycle_cycleKeeps _ t).eventKeeps
  case stepTimerExpiry t l => cases he; exact command_eventKeeps s _ t (expireStep_eventKeeps _ l t)
  case powerStaleExpiry t => cases he; exact command_eventKeeps s _ t (expirePower_eventKeeps _ t)
  case silenceExpiry t => cases he; exact command_eventKeeps s _ t (expireSilence_untouched _ t).eventKeeps
  case transmitEnd t => cases he; exact command_eventKeeps s _ t (link_untouched _ _).eventKeeps
  all_goals exact absurd hr (by simp [requestOf])

end Sys2Proof.Machine

/-- Settles O60: each such command keeps the tables by `exec_eventKeeps`. -/
theorem ringEventsKeepTheTables : Obligations.RingEventsKeepTheTables :=
  fun c s u hr hp ha hm hl he => (Sys2Proof.Machine.exec_eventKeeps c s u hr hp ha hm hl he).tables
end

section
/-! SUPPORT. Writes of the Lift Table and the Landing Lists as equations (R2, R3, R7, R8, R39, R40). -/

namespace Sys2Proof.Machine

open Slice0

/-! ### An accepted LIFT write -/

/-- The context of a lift in service after a LIFT write that leaves it in service (R3, R46). -/
def LiftContext.rewritten (c : LiftContext) (e : LiftEntry) : LiftContext :=
  let a := { c with entry := e }
  let b := if c.entry.ringNode ≠ e.ringNode then a.rewired else a
  let d :=
    if c.entry.encoderScale ≠ e.encoderScale ∨ c.entry.countSense ≠ e.countSense ∨ c.entry.shaftTop ≠ e.shaftTop then
      { b with pos := unanchorCount b.pos }
    else b
  if e.shaftTop < c.entry.shaftTop then { d with pos := clampToTop e.shaftTop d.pos } else d

/-- Outside the fields that a new ring node clears and the position, a rewritten context holds the new entry and is
otherwise the old one. -/
theorem rewritten_eq (c : LiftContext) (e : LiftEntry) :
    c.rewritten e =
      { c with entry := e, lastReport := (c.rewritten e).lastReport, occupancy := (c.rewritten e).occupancy,
               unanswered := (c.rewritten e).unanswered, suspectCount := (c.rewritten e).suspectCount,
               offMarkerSince := (c.rewritten e).offMarkerSince, pos := (c.rewritten e).pos } := by
  unfold LiftContext.rewritten
  dsimp only
  split <;> split <;> split <;> rfl

/-- What a new ring node clears (R3). -/
theorem rewritten_new_node (c : LiftContext) (e : LiftEntry) (h : c.entry.ringNode ≠ e.ringNode) :
    (c.rewritten e).lastReport = none ∧ (c.rewritten e).occupancy = none ∧ (c.rewritten e).unanswered = 0
      ∧ (c.rewritten e).suspectCount = 0 ∧ (c.rewritten e).offMarkerSince = none := by
  unfold LiftContext.rewritten
  dsimp only
  rw [if_pos h]
  split <;> split <;> exact ⟨rfl, rfl, rfl, rfl, rfl⟩

/-- A new ring node, encoder scale, count sense or shaft top unanchors the position (R3). -/
theorem rewritten_unanchored (c : LiftContext) (e : LiftEntry)
    (h : c.entry.ringNode ≠ e.ringNode ∨ c.entry.encoderScale ≠ e.encoderScale ∨ c.entry.countSense ≠ e.countSense
      ∨ c.entry.shaftTop ≠ e.shaftTop) :
    (c.rewritten e).pos.anchored = false ∧ (c.rewritten e).pos.lastCount = none
      ∧ (c.rewritten e).pos.doubt = true := by
  have hclamp : ∀ p : Position, p.anchored = false ∧ p.lastCount = none ∧ p.doubt = true →
      (clampToTop e.shaftTop p).anchored = false ∧ (clampToTop e.shaftTop p).lastCount = none
        ∧ (clampToTop e.shaftTop p).doubt = true := fun p ⟨h1, h2, h3⟩ => by
    unfold clampToTop
    split
    · exact ⟨h1, h2, rfl⟩
    · exact ⟨h1, h2, h3⟩
  unfold LiftContext.rewritten
  dsimp only
  by_cases hs : c.entry.encoderScale ≠ e.encoderScale ∨ c.entry.countSense ≠ e.countSense
      ∨ c.entry.shaftTop ≠ e.shaftTop
  · rw [if_pos hs]
    split
    · exact hclamp _ ⟨rfl, rfl, rfl⟩
    · exact ⟨rfl, rfl, rfl⟩
  · rw [if_neg hs, if_pos (h.resolve_right hs)]
    split
    · exact hclamp _ ⟨rfl, rfl, rfl⟩
    · exact ⟨rfl, rfl, rfl⟩

theorem rewritten_self (c : LiftContext) : c.rewritten c.entry = c := by
  simp [LiftContext.rewritten]

/-- A LIFT write to a lift in service before and after it: its context rewritten, and with a new ring node the last-copy
record removed (R3, R153). -/
theorem rewrite_eq (s : State) (l : Lift) (e : LiftEntry) :
    s.rewrite l e =
      if (s.lift l).entry.ringNode ≠ e.ringNode then (s.setLift l ((s.lift l).rewritten e)).setLastCopy l none
      else s.setLift l ((s.lift l).rewritten e) := by
  have hcopy : ∀ (u : State) (f : LiftContext → LiftContext),
      (u.setLastCopy l none).modLift l f = (u.modLift l f).setLastCopy l none := fun _ _ => rfl
  unfold State.rewrite LiftContext.rewritten
  dsimp only
  rw [modLift_eq s]
  split <;> split <;> split <;> simp only [hcopy, setLift_modLift]

/-- The four ways an accepted LIFT write takes effect (R3, R7, R8). -/
theorem storeLift_enters (s : State) (l : Lift) (e : LiftEntry) (h : (s.lift l).state = .excluded)
    (he : e.inService = true) :
    s.storeLift l e =
      (raised (s.setLift l (fresh e (s.lift l).landings .normal)) (l.val + 1) 1).setLastCopy l none := by
  rw [State.storeLift, if_pos h]
  dsimp only
  rw [if_pos he, State.enterService, modLift_eq s, setLift_modLift, setLift_enter _ _ _ _ (by rfl),
    moved_new_state _ _ _ (by rw [h]; simp)]
  rfl

theorem storeLift_stays_out (s : State) (l : Lift) (e : LiftEntry) (h : (s.lift l).state = .excluded)
    (he : e.inService = false) : s.storeLift l e = s.setLift l { s.lift l with entry := e } := by
  rw [State.storeLift, if_pos h]
  dsimp only
  rw [if_neg (by simp [he])]
  rfl

theorem storeLift_leaves (s : State) (l : Lift) (e : LiftEntry) (h : (s.lift l).state ≠ .excluded)
    (he : e.inService = false) :
    s.storeLift l e =
      (((raised (s.setLift l (fresh e (s.lift l).landings .excluded)) (l.val + 1) 1).setSlot l none).setLastCopy l
        none).abandonPoll l := by
  rw [State.storeLift, if_neg h, if_neg (by simp [he]), State.leaveService, modLift_eq s, setLift_modLift,
    setLift_enter _ _ _ _ (by rfl), moved_new_state _ _ _ (by simpa [LiftContext.fresh] using h.symm)]
  rfl

theorem storeLift_stays_in (s : State) (l : Lift) (e : LiftEntry) (h : (s.lift l).state ≠ .excluded)
    (he : e.inService = true) : s.storeLift l e = s.rewrite l e := by
  rw [State.storeLift, if_neg h, if_pos he]

theorem lift_rewrite (s : State) (l k : Lift) (e : LiftEntry) :
    (s.rewrite l e).lift k = if k = l then (s.lift l).rewritten e else s.lift k := by
  rw [rewrite_eq]
  split
  · exact lift_setLift s l k _
  · exact lift_setLift s l k _

@[simp] theorem rewrite_queue (s : State) (l : Lift) (e : LiftEntry) : (s.rewrite l e).queue = s.queue := by
  rw [rewrite_eq]; split <;> rfl

/-- The lifts after an accepted LIFT write: the written one holds the new entry, the others are as they were. -/
theorem lift_storeLift (s : State) (l k : Lift) (e : LiftEntry) :
    (k = l → ((s.storeLift l e).lift k).entry = e) ∧ (k ≠ l → (s.storeLift l e).lift k = s.lift k) := by
  have hset : ∀ c : LiftContext, c.entry = e → (k = l → ((s.setLift l c).lift k).entry = e)
      ∧ (k ≠ l → (s.setLift l c).lift k = s.lift k) := fun c hc =>
    ⟨fun hk => by rw [hk, lift_setLift_same, hc], lift_setLift_other s c⟩
  by_cases h : (s.lift l).state = .excluded <;> cases he : e.inService
  · rw [storeLift_stays_out s l e h he]; exact hset _ rfl
  · rw [storeLift_enters s l e h he]; exact hset _ rfl
  · rw [storeLift_leaves s l e h he]; exact hset _ rfl
  · rw [storeLift_stays_in s l e h he, lift_rewrite]
    exact ⟨fun hk => by rw [if_pos hk, rewritten_eq], fun hk => by rw [if_neg hk]⟩

theorem storeLift_admissionDue (s : State) (l : Lift) (e : LiftEntry) :
    (s.storeLift l e).admissionDue = s.admissionDue := by
  by_cases h : (s.lift l).state = .excluded <;> cases he : e.inService
  · rw [storeLift_stays_out s l e h he]; rfl
  · rw [storeLift_enters s l e h he]; rfl
  · rw [storeLift_leaves s l e h he]; rfl
  · rw [storeLift_stays_in s l e h he, rewrite_eq]; split <;> rfl

/-! ### Coherence under writes -/

theorem rewritten_coherent {c : LiftContext} {e : LiftEntry} (h : c.Coherent) (hs : c.state ≠ .excluded)
    (he : e.inService = true) : (c.rewritten e).Coherent := by
  have hi := inService_of_coherent h hs
  rw [rewritten_eq]
  simpa [LiftContext.Coherent, he, hi] using h

/-- A context replaced, with the lift's place in the queue in agreement. -/
theorem replaced_coherent {s u : State} {l : Lift} {c : LiftContext} (h : s.Coherent)
    (hl : u.lifts = (s.setLift l c).lifts) (hu : u.queue = s.queue) (hc : c.Coherent)
    (hq : l ∈ s.queue ↔ c.state = .queued) : u.Coherent := by
  refine coherent_of_same (s := s.setLift l c) hl hu (coherent_of_at (fun k => ?_) h.2.1)
  by_cases hk : k = l
  · subst hk
    exact setLift_coherentAt hc hq
  · have := h.at k
    rwa [State.CoherentAt, lift_setLift_other _ _ hk]

/-- An accepted LIFT write keeps coherence: it is refused in QUEUED and RESCUING (R2). -/
theorem storeLift_coherent {s : State} {l : Lift} (e : LiftEntry) (h : s.Coherent) (hq : (s.lift l).state ≠ .queued) :
    (s.storeLift l e).Coherent := by
  have hl : l ∉ s.queue := fun hm => hq ((h.2.2 l).mp hm)
  by_cases hs : (s.lift l).state = .excluded <;> cases he : e.inService
  · rw [storeLift_stays_out s l e hs he]
    have hc := h.1 l
    have hi : (s.lift l).entry.inService = false := by
      obtain ⟨_, _, _, _, _, _, h7⟩ := hc
      exact h7.mp hs
    exact setLift_coherent h (by simpa [LiftContext.Coherent, he, hi] using hc) rfl
  · rw [storeLift_enters s l e hs he]
    refine replaced_coherent (l := l) (c := fresh e (s.lift l).landings .normal) h rfl rfl ?_ (by simp [fresh, hl])
    have hf := fresh_coherent e (s.lift l).landings
    rw [he] at hf
    exact hf
  · rw [storeLift_leaves s l e hs he]
    refine replaced_coherent (l := l) (c := fresh e (s.lift l).landings .excluded) h rfl rfl ?_ (by simp [fresh, hl])
    have hf := fresh_coherent e (s.lift l).landings
    rw [he] at hf
    exact hf
  · rw [storeLift_stays_in s l e hs he]
    refine replaced_coherent (l := l) (c := (s.lift l).rewritten e) h ?_ (by simp)
      (rewritten_coherent (h.1 l) hs he) ?_
    · rw [rewrite_eq]; split <;> rfl
    · rw [rewritten_eq]; exact h.2.2 l

theorem storeLandings_coherent {s : State} (l : Lift) (ls : List Landing) (h : s.Coherent) :
    (s.storeLandings l ls).Coherent := by
  unfold State.storeLandings
  dsimp only
  split <;> exact setLift_coherent h (h.1 l) rfl

theorem not_queued_of_takesWrites {st : RescueState} (h : st.takesWrites = true) : st ≠ .queued := by
  rintro rfl; exact absurd h (by decide)

theorem writeLift_coherent {s : State} (i : Nat) (ws : List Word) (h : s.Coherent) : (s.writeLift i ws).1.Coherent := by
  unfold State.writeLift
  split
  · exact h
  · split
    · exact h
    next hw =>
      split
      · exact h
      · exact storeLift_coherent _ h (not_queued_of_takesWrites (by simpa using hw))

theorem writeLandings_coherent {s : State} (i : Nat) (ws : List Word) (h : s.Coherent) :
    (s.writeLandings i ws).1.Coherent := by
  unfold State.writeLandings
  split
  · exact h
  · split
    · exact h
    · split
      · exact h
      · exact storeLandings_coherent _ _ h

end Sys2Proof.Machine
end

section
/-! SUPPORT. Management requests, the RESTART sequence and every step keep the coherence of lift contexts and queue. -/

namespace Sys2Proof.Machine

open Slice0

/-! ### Writes, reads and swaps -/

theorem expirePower_coherent {s : State} (now : TimeTag) (h : s.Coherent) : (s.expirePower now).Coherent :=
  (expirePower_eventKeeps s now).coherent h

theorem expireSilence_coherent {s : State} (now : TimeTag) (h : s.Coherent) : (s.expireSilence now).Coherent :=
  (expireSilence_untouched s now).eventKeeps.coherent h

theorem floorWritten_coherent {s : State} (old new : Nat) (h : s.Coherent) : (s.floorWritten old new).Coherent := by
  unfold State.floorWritten
  split
  · exact (raiseStation_untouched s _).eventKeeps.coherent h
  · exact h

theorem paramStored_coherent {s : State} (n old new : Nat) (now : TimeTag) (h : s.Coherent) :
    (s.paramStored n old new now).Coherent := by
  unfold State.paramStored
  extract_lets a b c d
  have ha : a.Coherent := by
    unfold a
    split
    · exact floorWritten_coherent old new h
    · exact h
  have hb : b.Coherent := by
    unfold b
    split
    · exact expirePower_coherent now ha
    · exact ha
  have hc : c.Coherent := by
    unfold c
    split
    · exact expireSilence_coherent now hb
    · exact hb
  have hd : d.Coherent := evaluateAdmission_coherent now hc
  split
  · exact (expireCycle_cycleKeeps d now).coherent hd
  · exact hd

theorem writeFaultClass_lifts (s : State) (i : Nat) (ws : List Word) :
    (s.writeFaultClass i ws).1.lifts = s.lifts ∧ (s.writeFaultClass i ws).1.queue = s.queue := by
  unfold State.writeFaultClass
  split
  · split <;> exact ⟨rfl, rfl⟩
  · exact ⟨rfl, rfl⟩

theorem writeScan_lifts (s : State) (i : Nat) (ws : List Word) :
    (s.writeScan i ws).1.lifts = s.lifts ∧ (s.writeScan i ws).1.queue = s.queue := by
  unfold State.writeScan
  dsimp only
  split
  · exact ⟨rfl, rfl⟩
  · split
    · exact ⟨rfl, rfl⟩
    · split
      · split <;> exact ⟨rfl, rfl⟩
      · split
        · exact ⟨rfl, rfl⟩
        · split <;> exact ⟨rfl, rfl⟩

theorem writeRecipe_lifts (s : State) (i : Nat) (ws : List Word) :
    (s.writeRecipe i ws).1.lifts = s.lifts ∧ (s.writeRecipe i ws).1.queue = s.queue := by
  unfold State.writeRecipe
  split
  · exact ⟨rfl, rfl⟩
  · split
    · exact ⟨rfl, rfl⟩
    · split <;> exact ⟨rfl, rfl⟩

theorem writeParameter_coherent {s : State} (n : Nat) (ws : List Word) (now : TimeTag) (h : s.Coherent) :
    (s.writeParameter n ws now).1.Coherent := by
  unfold State.writeParameter
  split
  · exact h
  · exact h
  next range w _ _ _ =>
    split
    · exact h
    · exact paramStored_coherent _ _ _ now (coherent_of_same (s := s) rfl rfl h)

theorem writeEntry_coherent {s : State} (tb : Table) (i : Nat) (ws : List Word) (now : TimeTag) (h : s.Coherent) :
    (s.writeEntry tb i ws now).1.Coherent := by
  cases tb with
  | lift => exact writeLift_coherent i ws h
  | landings => exact writeLandings_coherent i ws h
  | faultClass => exact coherent_of_same (writeFaultClass_lifts s i ws).1 (writeFaultClass_lifts s i ws).2 h
  | scan => exact coherent_of_same (writeScan_lifts s i ws).1 (writeScan_lifts s i ws).2 h
  | recipe => exact coherent_of_same (writeRecipe_lifts s i ws).1 (writeRecipe_lifts s i ws).2 h
  | parameters => exact writeParameter_coherent i ws now h

/-- A READ ENTRY changes nothing (R160). -/
theorem readEntry_state (s : State) (tb : Table) (i : Nat) (later : List Word) : (s.readEntry tb i later).1 = s := by
  unfold State.readEntry
  split
  · rfl
  · split <;> rfl

/-- A READ CONTEXT changes nothing (R163). -/
theorem readContext_state (s : State) (n : Nat) (later : List Word) (now : TimeTag) :
    (s.readContext n later now).1 = s := by
  unfold State.readContext
  split
  · rfl
  · split
    · rfl
    · split <;> rfl

theorem takeScanSwap_coherent {s : State} (now : TimeTag) (h : s.Coherent) : (s.takeScanSwap now).Coherent := by
  have hs : s.swapScan.Coherent := (swapScan_untouched s).eventKeeps.coherent h
  unfold State.takeScanSwap
  split
  · exact (startCycle_cycleKeeps _ now).coherent hs
  · split
    · exact hs
    · exact coherent_of_same (s := s) rfl rfl h

theorem requestSwap_coherent {s : State} (sel : Nat) (now : TimeTag) (h : s.Coherent) :
    (s.requestSwap sel now).1.Coherent := by
  have hr : s.swapRecipe.Coherent := coherent_of_same (s := s) rfl rfl h
  unfold State.requestSwap
  split
  · unfold State.requestSwapScan
    split
    · exact h
    · exact takeScanSwap_coherent now h
  · exact hr
  · unfold State.requestSwapBoth
    split
    · exact h
    · exact takeScanSwap_coherent now hr
  · exact h

/-! ### Lift control -/

/-- HOLD of a QUEUED lift: out of the queue, held, and through STALLED (R22). -/
theorem holdLift_of_queued (s : State) (l : Lift) (now : TimeTag) (h : (s.lift l).state = .queued) :
    s.holdLift l now =
      (moved (left s l) l { s.lift l with hold := true, queueData := none, state := .stalled }).evaluateStalled l
        now := by
  unfold State.holdLift
  dsimp only
  rw [modLift_eq s, if_pos (decide_eq_true h), leaveQueue_of_queued _ _ (by simpa using h),
    left_setLift _ _ _ (by rfl), setLift_setLift, lift_setLift_same, State.enterStalled,
    setLift_enter _ _ _ _ (by rw [lift_left])]

theorem holdLift_of_not_queued (s : State) (l : Lift) (now : TimeTag) (h : (s.lift l).state ≠ .queued) :
    s.holdLift l now = s.setLift l { s.lift l with hold := true } := by
  unfold State.holdLift
  dsimp only
  rw [modLift_eq s, if_neg (by simpa using h)]

/-- What stands between HOLD of a QUEUED lift and its evaluation is coherent: a held lift in STALLED. -/
theorem held_stalled_coherent {s : State} {l : Lift} (h : s.Coherent) (hq : (s.lift l).state = .queued) :
    (moved (left s l) l { s.lift l with hold := true, queueData := none, state := .stalled }).Coherent := by
  have hc := h.1 l
  have hi := inService_of_coherent hc (by simp [hq])
  have hr := rescue_none_of_coherent hc (by simp [hq])
  obtain ⟨-, -, h3, -, h5, -, -⟩ := hc
  have hb : (s.lift l).beforeOffline = none := by simpa [hq] using h3
  have hm : (s.lift l).manualReason = none := by simpa [hq, hb] using h5
  exact moved_left_coherent h (coherent_of_bare ⟨hr, rfl, hb, hm, hi⟩ (by simp)) (by simp)

/-- HOLD outside RESCUING keeps coherence; a QUEUED lift leaves the queue as it is held (R22). -/
theorem holdLift_coherent {s : State} {l : Lift} (now : TimeTag) (h : s.Coherent) (hs : (s.lift l).state ≠ .rescuing) :
    (s.holdLift l now).Coherent := by
  by_cases hq : (s.lift l).state = .queued
  · have hu := held_stalled_coherent h hq
    rw [holdLift_of_queued s l now hq]
    exact (evaluateStalled_liftFrame _ l now).coherent hu (evaluateStalled_coherentAt now (hu.at l) (by simp))
  · rw [holdLift_of_not_queued s l now hq]
    exact setLift_coherent h (by simpa [LiftContext.Coherent, hs, hq] using h.1 l) rfl

/-- A hold flag cleared keeps a context coherent. -/
theorem unheld_coherent {c : LiftContext} (h : c.Coherent) : ({ c with hold := false } : LiftContext).Coherent := by
  obtain ⟨h1, h2, h3, h4, h5, -, h7⟩ := h
  exact ⟨h1, h2, h3, h4, h5, fun hf => absurd hf (by simp), h7⟩

theorem releaseLift_coherent {s : State} (l : Lift) (now : TimeTag) (h : s.Coherent) :
    (s.releaseLift l now).Coherent := by
  have hu : (s.setLift l { s.lift l with hold := false }).Coherent := setLift_coherent h (unheld_coherent (h.1 l)) rfl
  unfold State.releaseLift
  dsimp only
  rw [modLift_eq s]
  split
  next hs => exact (evaluateStalled_liftFrame _ l now).coherent hu (evaluateStalled_coherentAt now (hu.at l) hs)
  · exact hu

/-- What the acceptance table of R21 lets through. -/
theorem accepted_iff (a : Action) (st : RescueState) :
    a.accepted st = true ↔
      st ≠ .excluded ∧ (a = .hold ∨ a = .forceManual → st ≠ .rescuing) ∧ (a = .abort → st = .rescuing)
        ∧ (a = .clear → st = .released ∨ st = .manual) := by
  cases a <;> cases st <;> decide

theorem act_coherent {s : State} {l : Lift} {a : Action} (now : TimeTag) (h : s.Coherent)
    (ha : a.accepted (s.lift l).state = true) : (s.act l a now).Coherent := by
  obtain ⟨he, hr, -, hc⟩ := (accepted_iff a _).mp ha
  cases a with
  | hold => exact holdLift_coherent now h (hr (.inl rfl))
  | release => exact releaseLift_coherent l now h
  | abort => exact (abortExecution_runsOrEnds s l now).coherent h
  | forceManual =>
    exact (enterManual_liftFrame s l _).coherent h (enterManual_keeps_coherentAt _ (h.at l) he)
  | clear =>
    refine (enterNormal_liftFrame s l).coherent h (enterNormal_keeps_coherentAt (h.at l) ?_ he)
    rcases hc rfl with hst | hst <;> simp [hst]

theorem control_coherent {s : State} (n : Nat) (a : Action) (now : TimeTag) (h : s.Coherent) :
    (s.control n a now).1.Coherent := by
  unfold State.control
  split
  · exact h
  · split
    next ha => exact act_coherent now h ha
    · exact h

theorem liftControl_coherent {s : State} (n : Nat) (later : List Word) (now : TimeTag) (h : s.Coherent) :
    (s.liftControl n later now).1.Coherent := by
  unfold State.liftControl
  split
  · exact h
  · split
    · exact control_coherent n _ now h
    · split <;> exact h

theorem extendStep_coherent {s : State} (n : Nat) (later : List Word) (h : s.Coherent) :
    (s.extendStep n later).1.Coherent := by
  unfold State.extendStep
  split
  · exact h
  · split
    · exact h
    · split
      · exact (modCreep_stepFrame s _ _).coherent h
      · exact h

/-! ### RESTART -/

theorem beginRestart_coherent {s : State} (h : s.Coherent) : s.beginRestart.Coherent := by
  unfold State.beginRestart
  dsimp only
  split <;> exact coherent_of_same (s := s) rfl rfl h

theorem lift_restartClear (s : State) (l : Lift) :
    s.restartClear.lift l =
      fresh (s.lift l).entry (s.lift l).landings (if (s.lift l).entry.inService then .normal else .excluded) := by
  show (s.lifts.map LiftContext.restarted)[l.val] = _
  rw [Vector.getElem_map]
  rfl

theorem restartClear_queue (s : State) : s.restartClear.queue = [] := rfl

/-- The clear of a RESTART leaves coherent contexts and an empty queue, whatever stood before (R24, R164). -/
theorem restartClear_coherent (s : State) : s.restartClear.Coherent := by
  refine coherent_of_at (fun l => ?_) List.nodup_nil
  rw [State.CoherentAt, lift_restartClear, restartClear_queue]
  refine ⟨fresh_coherent _ _, ?_⟩
  cases (s.lift l).entry.inService <;> simp [fresh]

/-- Step 4 of the RESTART sequence with a valid active bank, and without one (R136, R164). -/
theorem restartCycle_of_valid (s : State) (now : TimeTag) (h : (s.scan.bank s.scan.active).valid = true) :
    s.restartCycle now = ({ s with restart := .idle } : State).startCycle now := if_pos h

theorem restartCycle_of_invalid (s : State) (now : TimeTag) (h : (s.scan.bank s.scan.active).valid = false) :
    s.restartCycle now =
      { s with restart := .idle,
               scan := { s.scan with running := false, current := none, startTime := none } } :=
  if_neg (Bool.eq_false_iff.mp h)

theorem restartCycle_coherent {s : State} (now : TimeTag) (h : s.Coherent) : (s.restartCycle now).Coherent := by
  cases hv : (s.scan.bank s.scan.active).valid
  · rw [restartCycle_of_invalid s now hv]
    exact coherent_of_same (s := s) rfl rfl h
  · rw [restartCycle_of_valid s now hv]
    exact (startCycle_cycleKeeps _ now).coherent (coherent_of_same (s := s) rfl rfl h)

theorem endAllStop_coherent {s : State} (now : TimeTag) (h : s.Coherent) : (s.endAllStop now).Coherent := by
  unfold State.endAllStop
  split
  · exact restartCycle_coherent now (restartClear_coherent s)
  · exact h

/-! ### Whole commands -/

theorem serve_coherent {s : State} (r : Request) (held : Option Prefix) (now : TimeTag) (h : s.Coherent) :
    (s.serve r held now).1.Coherent := by
  unfold State.serve
  cases r with
  | identify => exact h
  | storePrefix tb i ws =>
    dsimp only
    unfold State.takePrefix
    split
    · exact h
    · exact coherent_of_same (s := s) rfl rfl h
  | write tb i ws => exact writeEntry_coherent tb _ _ now h
  | read tb i later => dsimp only; rw [readEntry_state]; exact h
  | swap sel => exact requestSwap_coherent _ now h
  | readContext l later => dsimp only; rw [readContext_state]; exact h
  | liftControl l later => exact liftControl_coherent _ later now h
  | control l a => exact control_coherent _ a now h
  | extendStep l later => exact extendStep_coherent _ later h
  | restart => exact beginRestart_coherent h
  | unknown c => exact h
  | empty => exact h

theorem agentTakes_coherent {s : State} (r : Request) (now : TimeTag) (h : s.Coherent) :
    (s.agentTakes r now).Coherent := by
  have hc : (s.consume r).Coherent := coherent_of_same (s := s) rfl rfl h
  rcases agentTakes_cases s r now with ⟨-, e⟩ | ⟨-, e⟩ <;> rw [e]
  · exact coherent_of_same (s := s.consume r) rfl rfl hc
  · exact coherent_of_same (s := ((s.consume r).serve r s.prefixHeld now).1) rfl rfl (serve_coherent r _ now hc)

theorem atTime_coherent {s : State} (t : TimeTag) (h : s.Coherent) : (s.atTime t).Coherent :=
  (atTime_untouched s t).eventKeeps.coherent h

theorem arrive_coherent {s : State} (t : TimeTag) (h : s.Coherent) : (s.arrive t).Coherent :=
  (arrive_untouched s t).eventKeeps.coherent h

theorem finish_coherent {s : State} (t : TimeTag) (h : s.Coherent) : (s.finish t).Coherent :=
  (finish_cycleKeeps s t).coherent h

theorem takeRequest_coherent {s : State} (r : Request) (n : Nat) (t : TimeTag) (h : s.Coherent) :
    (s.takeRequest r n t).Coherent := by
  have ha := arrive_coherent t (atTime_coherent t h)
  rcases takeRequest_cases s r n t with ⟨-, e⟩ | ⟨-, -, e⟩ | ⟨-, -, e⟩ <;> rw [e]
  · exact atTime_coherent t h
  · exact finish_coherent t ha
  · exact finish_coherent t (agentTakes_coherent r t ha)

theorem requestArrives_coherent {s : State} (d : BitVec 6) (p : List Word) (t : TimeTag) (h : s.Coherent) :
    (s.requestArrives d p t).Coherent := by
  unfold State.requestArrives
  split
  · exact takeRequest_coherent _ _ t h
  · split
    · exact atTime_coherent t h
    · exact finish_coherent t (arrive_coherent t (atTime_coherent t h))

theorem linkWords_coherent {s : State} (ws : List Word) (whole : Bool) (t : TimeTag) (h : s.Coherent) :
    (s.linkWords ws whole t).Coherent := by
  have ha := arrive_coherent t (atTime_coherent t h)
  unfold State.linkWords
  split
  next f _ =>
    refine finish_coherent t ?_
    unfold State.routeKind
    split
    · split
      · unfold State.routeRequest
        split
        · exact ha
        · exact agentTakes_coherent _ t ha
      · exact ha
    · split
      · exact (takeRemote_untouched _ _).eventKeeps.coherent ha
      · exact ha
  · exact atTime_coherent t h

/-- The row of a management request is that request taken at node 0. -/
theorem exec_request {c : Instr} {r : Request} {n : Nat} {t : TimeTag} (h : requestOf c = some (r, n, t)) (s : State) :
    exec c s = .next (s.takeRequest r n t) := by
  cases c <;> simp only [requestOf, Option.some.injEq, Prod.mk.injEq, reduceCtorEq] at h <;>
    obtain ⟨rfl, rfl, rfl⟩ := h <;> rfl

theorem reset_coherent : State.reset.Coherent := by
  refine coherent_of_at (fun l => ?_) List.nodup_nil
  have e : State.reset.lift l = LiftContext.fresh LiftEntry.powerOn [] .excluded := by
    show (Vector.replicate 24 _)[l.val] = _
    rw [Vector.getElem_replicate]
  rw [State.CoherentAt, e]
  exact ⟨fresh_coherent LiftEntry.powerOn [], by simp [LiftContext.fresh, State.reset]⟩

/-- Every command keeps the coherence of lift contexts and queue. -/
theorem exec_coherent {c : Instr} {s u : State} (h : s.Coherent) (he : exec c s = .next u) : u.Coherent := by
  cases hr : requestOf c with
  | some q =>
    rw [exec_request (r := q.1) (n := q.2.1) (t := q.2.2) hr s] at he
    cases he
    exact takeRequest_coherent _ _ _ h
  | none =>
    by_cases hp : c = .powerOnReset
    · subst hp
      cases he
      exact coherent_of_same (s := State.reset) rfl rfl reset_coherent
    by_cases ha : ∃ t, c = .allStopSendEnd t
    · obtain ⟨t, rfl⟩ := ha
      cases he
      exact finish_coherent t (endAllStop_coherent t (atTime_coherent t h))
    by_cases hm : ∃ t d p, c = .managementRequestDiscard t d p
    · obtain ⟨t, d, p, rfl⟩ := hm
      cases he
      exact requestArrives_coherent d p t h
    by_cases hl : ∃ t ws b, c = .linkFrameDiscard t ws b
    · obtain ⟨t, ws, b, rfl⟩ := hl
      cases he
      exact linkWords_coherent ws b t h
    · exact (exec_eventKeeps c s u hr hp (fun t e => ha ⟨t, e⟩) (fun t d p e => hm ⟨t, d, p, e⟩)
        (fun t ws b e => hl ⟨t, ws, b, e⟩) he).coherent h

/-- Every step keeps coherence; an idle step changes nothing. -/
theorem step_coherent {s u : State} (h : s.Coherent) (he : step s = .next u) : u.Coherent := by
  unfold step at he
  split at he
  · cases he
    exact h
  next c cs _ => exact exec_coherent (coherent_of_same (s := s) (u := { s with pending := cs }) rfl rfl h) he

end Sys2Proof.Machine

/-- Settles O53: coherence is an invariant of every command, by the frame of what it does to one lift and the entries
into
rescue states. -/
theorem stepKeepsLiftsCoherent : Obligations.StepKeepsLiftsCoherent :=
  fun _ _ h he => Sys2Proof.Machine.step_coherent h he
end

section
/-! SUPPORT. A management request that is carried out, as one equation; the STALLED evaluation; lift control (R11,
R21 to
R23, R156). -/

namespace Sys2Proof.Machine

open Slice0

/-! ### A request carried out and answered -/

/-- A reply joins its FIFO and a free transmitter takes the head of that FIFO before any other source (R152). -/
theorem transmit_reply (u : State) (status kind : Nat) (ws : List Word) :
    (u.reply status kind ws).transmit = answered u (reply status kind ws) := by
  have ht : (u.reply status kind ws).link.transmitting = u.link.transmitting := rfl
  have hm : (u.reply status kind ws).link.mgmtReplies = u.link.mgmtReplies ++ [reply status kind ws] := rfl
  unfold State.transmit answered
  cases hf : u.link.transmitting with
  | some w =>
    rw [ht, hf]
    rfl
  | none =>
    cases hq : u.link.mgmtReplies with
    | cons g gs =>
      rw [ht, hf, State.nextUpward, hm, hq]
      rfl
    | nil =>
      have hl : ({ u.link with mgmtReplies := [] } : LinkPort) = u.link := by rw [← hq]
      rw [ht, hf, State.nextUpward, hm, hq]
      show { u with link := { ({ u.link with mgmtReplies := [] } : LinkPort) with transmitting := _ } } = _
      rw [hl]

/-- The state in which the Agent serves a request that it carries out: the arrival taken, the held words consumed. -/
theorem consume_arrived (s : State) (r : Request) (t : TimeTag) (h : r ≠ .empty) :
    ((s.atTime t).arrive t).consume r = taken s t := by
  unfold State.consume
  rw [if_neg h]
  rfl

/-- A request that the Agent carries out (R150, R156, R158). -/
theorem takeRequest_of_serves {s : State} {r : Request} {n : Nat} {t : TimeTag} (hs : Serves s) (hn : n ≤ 16)
    (hr : r ≠ .empty) :
    s.takeRequest r n t =
      ((((taken s t).serve r s.prefixHeld t).1.reply ((taken s t).serve r s.prefixHeld t).2.status.code
        (r.code (Config.openKindCode s.freeIndex)) ((taken s t).serve r s.prefixHeld t).2.words).finish t) := by
  obtain ⟨hroom, hidle, -⟩ := hs
  rcases takeRequest_cases s r n t with ⟨h, -⟩ | ⟨-, h, -⟩ | ⟨-, -, e⟩
  · exact absurd h (Nat.not_lt.mpr hn)
  · exact absurd hroom (Nat.not_lt.mpr h)
  · rcases agentTakes_cases ((s.atTime t).arrive t) r t with ⟨h, -⟩ | ⟨-, e'⟩
    · exact absurd hidle h
    · rw [e, e', consume_arrived s r t hr]
      rfl

/-- A request carried out that calls no evaluation: the state it leaves, with the reply handed to the transmit side. -/
theorem exec_answers {s u : State} {c : Instr} {r : Request} {n : Nat} {t : TimeTag} {st : ReplyStatus}
    {ws : List Word} {code : Nat} (hc : requestOf c = some (r, n, t)) (hs : Serves s) (hn : n ≤ 16) (hr : r ≠ .empty)
    (h : (taken s t).serve r s.prefixHeld t = (u, ⟨st, ws⟩)) (hd : u.admissionDue = false)
    (hcode : r.code (Config.openKindCode s.freeIndex) = code) :
    exec c s = .next (answered u (reply st.code code ws)) := by
  rw [exec_request hc, takeRequest_of_serves hs hn hr, h, hcode]
  exact congrArg _ ((finish_of_not_due (u.reply st.code code ws) t hd).trans (transmit_reply u _ _ _))

/-- A request refused leaves the state as the arrival left it (R156). -/
theorem exec_refuses {s : State} {c : Instr} {r : Request} {n : Nat} {t : TimeTag} {st : ReplyStatus} {code : Nat}
    (hc : requestOf c = some (r, n, t)) (hs : Serves s) (hn : n ≤ 16) (hr : r ≠ .empty)
    (h : (taken s t).serve r s.prefixHeld t = (taken s t).refuse st)
    (hcode : r.code (Config.openKindCode s.freeIndex) = code) :
    exec c s = .next (answered (taken s t) (reply st.code code [])) :=
  exec_answers hc hs hn hr h hs.2.2 hcode

@[simp] theorem lift_taken (s : State) (t : TimeTag) (l : Lift) : (taken s t).lift l = s.lift l := rfl
@[simp] theorem taken_params (s : State) (t : TimeTag) : (taken s t).params = s.params := rfl

/-! ### Lift control -/

/-- The row of an action of LIFT CONTROL. -/
def controlRow (a : Action) (t : TimeTag) (i : Byte) : Instr :=
  match a with
  | .hold => .hold t i
  | .release => .release t i
  | .abort => .abort t i
  | .forceManual => .forceManual t i
  | .clear => .clear t i

theorem requestOf_controlRow (a : Action) (t : TimeTag) (i : Byte) :
    requestOf (controlRow a t i) = some (.control i a, 2, t) := by
  cases a <;> rfl

theorem control_of_none {s : State} {n : Nat} (a : Action) (now : TimeTag) (h : liftOfNumber n = none) :
    s.control n a now = s.refuse .range := by
  rw [State.control, h]

theorem control_of_some {s : State} {n : Nat} {l : Lift} (a : Action) (now : TimeTag) (h : liftOfNumber n = some l) :
    s.control n a now = if a.accepted (s.lift l).state then (s.act l a now).done else s.refuse .state := by
  rw [State.control, h]

/-- An action accepted that calls no evaluation. -/
theorem exec_control {s u : State} {t : TimeTag} {i : Byte} {l : Lift} (a : Action) (hs : Serves s)
    (hl : liftOfNumber i.toNat = some l) (ha : a.accepted (s.lift l).state = true) (hu : (taken s t).act l a t = u)
    (hd : u.admissionDue = false) : exec (controlRow a t i) s = .next (answered u (reply 0 0x60 [])) := by
  refine exec_answers (st := .done) (requestOf_controlRow a t i) hs (by decide) (by simp) ?_ hd rfl
  show (taken s t).control i.toNat a t = _
  rw [control_of_some a t hl, lift_taken, if_pos ha, hu]
  rfl

/-- An action accepted, whatever it calls. -/
theorem exec_control_finish {s : State} {t : TimeTag} {i : Byte} {l : Lift} (a : Action) (hs : Serves s)
    (hl : liftOfNumber i.toNat = some l) (ha : a.accepted (s.lift l).state = true) :
    exec (controlRow a t i) s = .next ((((taken s t).act l a t).reply 0 0x60 []).finish t) := by
  have h : (taken s t).serve (.control i a) s.prefixHeld t = ((taken s t).act l a t).done := by
    show (taken s t).control i.toNat a t = _
    rw [control_of_some a t hl, lift_taken, if_pos ha]
  rw [exec_request (requestOf_controlRow a t i), takeRequest_of_serves hs (by decide) (by simp), h]
  rfl

theorem action_ofCode_none {v : Word} (h : v = 0 ∨ 5 < v.toNat) : Action.ofCode v.toNat = none := by
  rcases h with rfl | h
  · rfl
  · unfold Action.ofCode
    split <;> first | omega | rfl

/-! ### The STALLED evaluation -/

theorem evaluateStalled_recovers {s : State} {l : Lift} {lr : LastReport} (now : TimeTag)
    (hs : (s.lift l).state = .stalled) (hr : (s.lift l).lastReport = some lr) (ht : lr.verdict.trapping = false) :
    s.evaluateStalled l now = moved s l (cleared (s.lift l)) := by
  rw [State.evaluateStalled, hr]
  dsimp only
  rw [if_pos (by simp [ht]), enterNormal_eq, left_of_not_queued s l (by simp [hs])]

theorem evaluateStalled_noAuto {s : State} {l : Lift} {lr : LastReport} (now : TimeTag)
    (hs : (s.lift l).state = .stalled) (hr : (s.lift l).lastReport = some lr) (ht : lr.verdict.trapping = true)
    (hc : lr.verdict.cls = .stallNoAuto) :
    s.evaluateStalled l now = moved s l (handed (s.lift l) .noAutoFault) := by
  rw [State.evaluateStalled, hr]
  dsimp only
  rw [if_neg (by simp [ht]), if_pos hc, enterManual_eq, left_of_not_queued s l (by simp [hs])]

theorem evaluateStalled_plans {s : State} {l : Lift} (now : TimeTag)
    (h : ∀ lr, (s.lift l).lastReport = some lr → lr.verdict.trapping = true ∧ lr.verdict.cls ≠ .stallNoAuto) :
    s.evaluateStalled l now = s.planStalled l now := by
  unfold State.evaluateStalled
  split
  next lr hr => rw [if_neg (by simp [h lr hr]), if_neg (h lr hr).2]
  · rfl

/-- Every way a STALLED evaluation can go (R11). -/
theorem evaluateStalled_cases {s : State} {l : Lift} (now : TimeTag) (hs : (s.lift l).state = .stalled) :
    (∃ lr, (s.lift l).lastReport = some lr ∧ lr.verdict.trapping = false
      ∧ s.evaluateStalled l now = moved s l (cleared (s.lift l)))
    ∨ (∃ lr, (s.lift l).lastReport = some lr ∧ lr.verdict.trapping = true ∧ lr.verdict.cls = .stallNoAuto
      ∧ s.evaluateStalled l now = moved s l (handed (s.lift l) .noAutoFault))
    ∨ ((∀ lr, (s.lift l).lastReport = some lr → lr.verdict.trapping = true ∧ lr.verdict.cls ≠ .stallNoAuto)
      ∧ s.evaluateStalled l now = s.planStalled l now) := by
  cases hr : (s.lift l).lastReport with
  | none => exact .inr (.inr ⟨by simp, evaluateStalled_plans now (by simp [hr])⟩)
  | some lr =>
    cases ht : lr.verdict.trapping with
    | false => exact .inl ⟨lr, rfl, ht, evaluateStalled_recovers now hs hr ht⟩
    | true =>
      by_cases hc : lr.verdict.cls = .stallNoAuto
      · exact .inr (.inl ⟨lr, rfl, ht, hc, evaluateStalled_noAuto now hs hr ht hc⟩)
      · have h : ∀ lr', (s.lift l).lastReport = some lr' →
            lr'.verdict.trapping = true ∧ lr'.verdict.cls ≠ .stallNoAuto := fun lr' e => by
          rw [hr] at e
          cases e
          exact ⟨ht, hc⟩
        exact .inr (.inr ⟨fun lr' e => h lr' (hr.trans e), evaluateStalled_plans now h⟩)

/-- The plan that a free run makes for a lift. -/
def State.freePlan (s : State) (l : Lift) (now : TimeTag) : Plan := planFree (planInput s l now)

@[simp] theorem lift_runPlanner_same (s : State) (l : Lift) (now : TimeTag) :
    (s.runPlanner l now).lift l = planned (s.lift l) now (s.freePlan l now) := lift_writePlan_same s l now _

theorem planStalled_held {s : State} {l : Lift} (now : TimeTag) (hh : (s.lift l).hold = true) :
    s.planStalled l now = s.runPlanner l now := by
  rw [State.planStalled]
  rw [lift_runPlanner_same, if_pos (by exact hh)]

theorem planStalled_queues {s : State} {l : Lift} (now : TimeTag) (hh : (s.lift l).hold = false)
    (hp : (s.freePlan l now).feasible = true) :
    s.planStalled l now = (s.runPlanner l now).enterQueued l now := by
  rw [State.planStalled]
  rw [lift_runPlanner_same, if_neg (by simp [planned, hh]), if_pos (by exact hp)]

theorem planStalled_gives_up {s : State} {l : Lift} (now : TimeTag) (hh : (s.lift l).hold = false)
    (hp : (s.freePlan l now).feasible = false) :
    s.planStalled l now =
      (s.runPlanner l now).enterManual l (planned (s.lift l) now (s.freePlan l now)).planReason := by
  rw [State.planStalled]
  rw [lift_runPlanner_same, if_neg (by simp [planned, hh]), if_neg (by simp [planned, LiftContext.planFeasible, hp])]

/-- The manual reason of an infeasible plan is its own (R11, R13). -/
theorem planReason_planned {c : LiftContext} {now : TimeTag} {p : Plan} {why : Infeasibility}
    (h : p.reason = some why) : (planned c now p).planReason = why.manualReason := by
  simp [LiftContext.planReason, planned, h]

theorem lift_enterQueued_same (s : State) (l : Lift) (now : TimeTag) :
    (s.enterQueued l now).lift l = queuedAt (s.lift l) now := by
  rw [enterQueued_eq, lift_callAdmission, lift_enqueue, lift_moved_same]

theorem mem_enterQueued_queue (s : State) (l k : Lift) (now : TimeTag) :
    k ∈ (s.enterQueued l now).queue ↔ k = l ∨ k ∈ s.queue := by
  rw [enterQueued_eq, callAdmission_queue, mem_enqueue, moved_queue]

@[simp] theorem enterQueued_outstanding (s : State) (l : Lift) (now : TimeTag) :
    (s.enterQueued l now).outstanding = s.outstanding := by
  rw [enterQueued_eq]
  exact moved_outstanding s l _

@[simp] theorem enterQueued_admissionDue (s : State) (l : Lift) (now : TimeTag) :
    (s.enterQueued l now).admissionDue = true := by
  rw [enterQueued_eq, callAdmission_admissionDue]

@[simp] theorem runPlanner_queue (s : State) (l : Lift) (now : TimeTag) : (s.runPlanner l now).queue = s.queue :=
  writePlan_queue s l now _
@[simp] theorem runPlanner_outstanding (s : State) (l : Lift) (now : TimeTag) :
    (s.runPlanner l now).outstanding = s.outstanding := writePlan_outstanding s l now _
@[simp] theorem runPlanner_admissionDue (s : State) (l : Lift) (now : TimeTag) :
    (s.runPlanner l now).admissionDue = s.admissionDue := writePlan_admissionDue s l now _

theorem runPlanner_state (s : State) (l : Lift) (now : TimeTag) :
    ((s.runPlanner l now).lift l).state = (s.lift l).state := by
  rw [lift_runPlanner_same]
  rfl

/-- An infeasible plan of a STALLED lift hands it to staff, where the queue and the reservation stand (R11). -/
theorem enterManual_of_stalled {s : State} {l : Lift} (now : TimeTag) (why : ManualReason)
    (hs : (s.lift l).state = .stalled) :
    (s.runPlanner l now).enterManual l why =
      moved (s.runPlanner l now) l (handed (planned (s.lift l) now (s.freePlan l now)) why) := by
  rw [enterManual_eq, left_of_not_queued _ _ (by rw [runPlanner_state, hs]; simp), lift_runPlanner_same]

/-- The STALLED evaluation (R11). -/
theorem stalledIsEvaluated : StalledIsEvaluated := by
  rintro s l now lr hs hr u c p rfl rfl rfl
  refine ⟨evaluateStalled_recovers now hs hr, evaluateStalled_noAuto now hs hr, fun ht hc => ?_⟩
  have he : s.evaluateStalled l now = s.planStalled l now :=
    evaluateStalled_plans now fun lr' e => by rw [hr] at e; cases e; exact ⟨ht, hc⟩
  have hp : planFree (planInput s l now) = s.freePlan l now := rfl
  have hk : ∀ k : Lift, k ≠ l → (s.planStalled l now).lift k = s.lift k := (planStalled_liftFrame s l now).lift_other
  rw [he, hp]
  cases hh : (s.lift l).hold with
  | true =>
    rw [planStalled_held now hh] at hk ⊢
    refine ⟨by simp [planned], hk, by simp [planned], by simp [planned], by simp, fun _ => ?_, by simp, by simp⟩
    exact ⟨by rw [runPlanner_state, hs], by simp, by simp⟩
  | false =>
    cases hf : (s.freePlan l now).feasible with
    | true =>
      rw [planStalled_queues now hh hf] at hk ⊢
      rw [lift_enterQueued_same, lift_runPlanner_same]
      refine ⟨rfl, hk, rfl, rfl, by simp, by simp, fun _ _ => ?_, by simp⟩
      exact ⟨rfl, rfl, by simp, fun k => by rw [mem_enterQueued_queue, runPlanner_queue]⟩
    | false =>
      rw [planStalled_gives_up now hh hf, enterManual_of_stalled now _ hs] at hk ⊢
      rw [lift_moved_same]
      refine ⟨rfl, hk, rfl, rfl, by simp, by simp, by simp, fun _ _ => ?_⟩
      exact ⟨rfl, by simp, fun why hw => congrArg some (planReason_planned hw)⟩

/-! ### Accepted LIFT writes -/

theorem abandon_poll (start : TimeTag) (gap : Nat) (d : Descriptor) (asked : Lane) (n : Nat) (l : Lift) :
    (ScanPhase.working start gap (.poll d asked n)).abandon l =
      if d.kind = .pollLift ∧ liftOfNumber d.lift = some l then .working start gap .abandoned
      else .working start gap (.poll d asked n) := rfl

theorem abandon_confirm (start : TimeTag) (gap : Nat) (d : Descriptor) (first : FirstReply) (l : Lift) :
    (ScanPhase.working start gap (.confirm d first)).abandon l =
      if liftOfNumber d.lift = some l then .working start gap .abandoned
      else .working start gap (.confirm d first) := rfl

theorem abandonPoll_of_phase {s : State} {l : Lift} {p : ScanPhase} (h : s.scan.phase.abandon l = p) :
    s.abandonPoll l = { s with scan := { s.scan with phase := p } } := by
  rw [State.abandonPoll, h]

theorem abandonPoll_of_same {s : State} {l : Lift} (h : s.scan.phase.abandon l = s.scan.phase) :
    s.abandonPoll l = s := abandonPoll_of_phase h

theorem rewrite_outstanding (s : State) (l : Lift) (e : LiftEntry) : (s.rewrite l e).outstanding = s.outstanding := by
  rw [rewrite_eq]
  split <;> rfl

theorem rewrite_orders (s : State) (l : Lift) (e : LiftEntry) : (s.rewrite l e).orders = s.orders := by
  rw [rewrite_eq]
  split <;> rfl

theorem rewrite_notices (s : State) (l : Lift) (e : LiftEntry) :
    (s.rewrite l e).link.notices = s.link.notices := by
  rw [rewrite_eq]
  split <;> rfl

end Sys2Proof.Machine

open Sys2Proof Sys2Proof.Machine Sys2Proof.Slice0 in
/-- Settles O9, by the equations of an accepted LIFT write. -/
theorem storedEntriesTakeEffect : Obligations.StoredEntriesTakeEffect := by
  refine ⟨fun s l e => ⟨storeLift_enters s l e, storeLift_stays_out s l e, storeLift_leaves s l e⟩,
    fun s l start gap d => ⟨fun asked n hp => ?_, fun first hp => ?_, fun hp => ?_⟩, fun s l e hs he => ?_⟩
  · have h := abandon_poll start gap d asked n l
    refine ⟨fun hk hl => abandonPoll_of_phase ?_, fun hk => abandonPoll_of_same ?_⟩
    · rw [hp, h, if_pos ⟨hk, hl⟩]
    · rw [hp, h, if_neg fun hkl => hk.elim (fun hk => hk hkl.1) fun hl => hl hkl.2]
  · have h := abandon_confirm start gap d first l
    refine ⟨fun hl => abandonPoll_of_phase ?_, fun hl => abandonPoll_of_same ?_⟩
    · rw [hp, h, if_pos hl]
    · rw [hp, h, if_neg hl]
  · refine abandonPoll_of_same ?_
    unfold ScanPhase.abandon
    split
    next start gap d asked left e => exact absurd e (hp start gap d asked left default).1
    next start gap d first e => exact absurd e (hp start gap d default default first).2
    · rfl
  · have hl : (s.rewrite l e).lift l = (s.lift l).rewritten e := by rw [lift_rewrite, if_pos rfl]
    rw [storeLift_stays_in s l e hs he]
    refine ⟨(s.lift l).rewritten e, hl, ?_⟩
    have hr := rewritten_eq (s.lift l) e
    refine ⟨by rw [hr], by rw [hr], by rw [hr], by rw [hr], by rw [hr], ?_, fun hn => ?_,
      rewritten_unanchored (s.lift l) e, fun k hk => by rw [lift_rewrite, if_neg hk], ?_⟩
    · rintro rfl
      rw [rewrite_eq, if_neg (by simp), rewritten_self, setLift_lift]
    · obtain ⟨h1, h2, h3, h4, h5⟩ := rewritten_new_node (s.lift l) e hn
      refine ⟨h1, h2, h3, h4, h5, ?_⟩
      rw [rewrite_eq, if_pos hn]
      exact (vector_get_set _ l l none).trans (if_pos rfl)
    · exact ⟨rewrite_queue s l e, rewrite_outstanding s l e, rewrite_orders s l e, rewrite_notices s l e⟩

open Sys2Proof Sys2Proof.Machine Sys2Proof.Slice0 in
/-- Settles O18, by the acceptance table of R21. -/
theorem liftControlIsDecided : Obligations.LiftControlIsDecided := by
  intro s t i a hs c hc
  have hc : c = controlRow a t i := by rw [hc]; cases a <;> rfl
  subst hc
  have hrow := requestOf_controlRow a t i
  refine ⟨fun h => ?_, fun l hl hst => ?_, fun v rest hlen hv => ?_, ?_⟩
  · refine exec_refuses (st := .range) hrow hs (by decide) (by simp) ?_ rfl
    exact control_of_none a t h
  · refine exec_refuses (st := .state) hrow hs (by decide) (by simp) ?_ rfl
    show (taken s t).control i.toNat a t = _
    rw [control_of_some a t hl, lift_taken, if_neg]
    rw [accepted_iff]
    rintro ⟨h1, h2, h3, h4⟩
    rcases hst with h | ⟨rfl, h⟩ | ⟨rfl, h⟩ | ⟨rfl, h⟩ | ⟨rfl, h, h'⟩
    · exact h1 h
    · exact h2 (.inl rfl) h
    · exact h2 (.inr rfl) h
    · exact h (h3 rfl)
    · exact (h4 rfl).elim h h'
  · have hserve : ∀ st, (if (liftOfNumber i.toNat).isSome then (taken s t).refuse .invalid
        else (taken s t).refuse .range) = (taken s t).refuse st →
        exec (.liftControlInvalidAction t i (v :: rest)) s = .next (answered (taken s t) (reply st.code 0x60 [])) :=
      fun st h => exec_refuses (st := st) (r := .liftControl i (v :: rest)) (n := rest.length + 1 + 1) rfl hs (by omega)
        (by simp) (by
          show (taken s t).liftControl i.toNat (v :: rest) t = _
          rw [State.liftControl, action_ofCode_none hv]
          exact h) rfl
    cases h : (liftOfNumber i.toNat).isSome
    · exact hserve .range (by rw [h]; rfl)
    · exact hserve .invalid (by rw [h]; rfl)
  · exact exec_refuses (st := .invalid) (r := .liftControl i []) (n := 1) rfl hs (by decide) (by simp) rfl rfl

open Sys2Proof Sys2Proof.Machine Sys2Proof.Slice0 in
/-- Settles O19: outside QUEUED, and for RELEASE outside STALLED, an action is one context replaced. -/
theorem controlsActOnTheLift : Obligations.ControlsActOnTheLift := by
  intro s t i l hs hl he hq
  have hdue : (taken s t).admissionDue = false := hs.2.2
  have haccept : ∀ a : Action, (a = .hold ∨ a = .forceManual → (s.lift l).state ≠ .rescuing) →
      (a = .abort → (s.lift l).state = .rescuing) →
      (a = .clear → (s.lift l).state = .released ∨ (s.lift l).state = .manual) →
      a.accepted (s.lift l).state = true := fun a h1 h2 h3 => (accepted_iff a _).mpr ⟨he, h1, h2, h3⟩
  have hleft : left (taken s t) l = taken s t := left_of_not_queued _ l hq
  have hmanual : (taken s t).act l .forceManual t = moved (taken s t) l (handed (s.lift l) .operator) := by
    show (taken s t).enterManual l .operator = _
    rw [enterManual_eq, hleft, lift_taken]
  refine ⟨fun hr => ?_, fun hst => ?_, fun hr hm => ?_, fun hm => ?_, fun hm => ?_⟩
  · exact exec_control .hold hs hl (haccept _ (fun _ => hr) (by simp) (by simp))
      (holdLift_of_not_queued (taken s t) l t hq) hdue
  · refine exec_control .release hs hl (haccept _ (by simp) (by simp) (by simp)) ?_ hdue
    show (taken s t).releaseLift l t = _
    unfold State.releaseLift
    dsimp only
    rw [if_neg (by rw [lift_modLift_same]; exact hst)]
    rfl
  · refine exec_control .forceManual hs hl (haccept _ (fun _ => hr) (by simp) (by simp)) ?_ hdue
    rw [hmanual, moved_new_state _ _ _ (by exact fun h => hm h.symm)]
    rfl
  · refine exec_control .forceManual hs hl (haccept _ (fun _ => by simp [hm]) (by simp) (by simp)) ?_ hdue
    rw [hmanual, moved_same_state _ _ _ (by exact hm.symm)]
    simp only [handed, hm]
  · refine exec_control .clear hs hl (haccept _ (by simp) (by simp) fun _ => hm.symm) ?_ hdue
    show (taken s t).enterNormal l = _
    rw [enterNormal_eq, hleft, lift_taken, moved_new_state]
    rcases hm with hm | hm <;> simp [cleared, hm]
end

section
/-! LIFT CONTROL of a waiting lift (R22, R23): what HOLD, FORCE MANUAL and RELEASE evaluate. -/

namespace Sys2Proof.Machine

open Slice0

/-- The STALLED evaluation of a held lift with no queue data: it neither enters the queue nor calls an evaluation. -/
theorem evaluateStalled_of_held {s : State} {l : Lift} (now : TimeTag) (hs : (s.lift l).state = .stalled)
    (hh : (s.lift l).hold = true) (hq : (s.lift l).queueData = none) :
    (s.evaluateStalled l now).queue = s.queue ∧ (s.evaluateStalled l now).admissionDue = s.admissionDue
      ∧ ((s.evaluateStalled l now).lift l).hold = true ∧ ((s.evaluateStalled l now).lift l).queueData = none
      ∧ ((s.evaluateStalled l now).lift l).state ≠ .queued := by
  rcases evaluateStalled_cases now hs with ⟨_, -, -, e⟩ | ⟨_, -, -, -, e⟩ | ⟨-, e⟩
  · rw [e, lift_moved_same]
    exact ⟨by simp, by simp, hh, rfl, by simp [cleared]⟩
  · rw [e, lift_moved_same]
    exact ⟨by simp, by simp, hh, rfl, by simp [handed]⟩
  · rw [e, planStalled_held now hh, lift_runPlanner_same]
    exact ⟨by simp, by simp, hh, hq, by simp [planned, hs]⟩

/-- The STALLED evaluation of a lift that is not held: it leaves STALLED, for QUEUED only with a feasible plan. -/
theorem evaluateStalled_of_free {s : State} {l : Lift} (now : TimeTag) (hs : (s.lift l).state = .stalled)
    (hh : (s.lift l).hold = false) {u : State} (hu : u = s.evaluateStalled l now) :
    (u.lift l).hold = false ∧ (u.lift l).state ≠ .stalled
      ∧ ((u.lift l).state = .queued → l ∈ u.queue ∧ (u.lift l).planFeasible = true ∧ u.admissionDue = true
          ∧ (u.lift l).queueData = some { entryTime := now, bypass := 0 }) := by
  subst hu
  rcases evaluateStalled_cases now hs with ⟨_, -, -, e⟩ | ⟨_, -, -, -, e⟩ | ⟨-, e⟩
  · rw [e, lift_moved_same]
    exact ⟨hh, by simp [cleared], by simp [cleared]⟩
  · rw [e, lift_moved_same]
    exact ⟨hh, by simp [handed], by simp [handed]⟩
  · cases hf : (s.freePlan l now).feasible with
    | true =>
      rw [e, planStalled_queues now hh hf, lift_enterQueued_same, lift_runPlanner_same]
      refine ⟨hh, by simp [queuedAt], fun _ => ⟨?_, hf, by simp, rfl⟩⟩
      rw [mem_enterQueued_queue]
      exact .inl rfl
    | false =>
      rw [e, planStalled_gives_up now hh hf, enterManual_of_stalled now _ hs, lift_moved_same]
      exact ⟨hh, by simp [handed], by simp [handed]⟩

/-- What stands between HOLD of a QUEUED lift and its evaluation. -/
def heldStalled (s : State) (l : Lift) : State :=
  moved (left s l) l { s.lift l with hold := true, queueData := none, state := .stalled }

theorem heldStalled_due {s : State} {l : Lift} (h : (s.lift l).state = .queued) :
    (heldStalled s l).admissionDue = true := by
  rw [heldStalled, moved_admissionDue, left_of_queued s l h]

theorem not_mem_heldStalled_queue {s : State} {l : Lift} (h : (s.lift l).state = .queued) :
    l ∉ (heldStalled s l).queue := by
  rw [heldStalled, moved_queue, mem_left_queue]
  exact fun hl => hl.2 h rfl

theorem lift_heldStalled_other (s : State) {l k : Lift} (h : k ≠ l) : (heldStalled s l).lift k = s.lift k := by
  rw [heldStalled, lift_moved_other _ _ h, lift_left]

/-- RELEASE of a STALLED lift: the flag cleared, then the evaluation (R22). -/
theorem releaseLift_of_stalled {s : State} {l : Lift} (now : TimeTag) (h : (s.lift l).state = .stalled) :
    s.releaseLift l now = (s.setLift l { s.lift l with hold := false }).evaluateStalled l now := by
  unfold State.releaseLift
  dsimp only
  rw [modLift_eq s, if_pos (by rw [lift_setLift_same]; exact h)]

/-- The hold flag is no input of the planner. -/
theorem planInput_setHold (s : State) (l : Lift) (b : Bool) (now : TimeTag) :
    planInput (s.setLift l { s.lift l with hold := b }) l now = planInput s l now := by
  unfold planInput
  rw [lift_setLift_same]
  rfl

end Sys2Proof.Machine

open Sys2Proof Sys2Proof.Machine Sys2Proof.Slice0 in
/-- Settles O20: a held lift leaves the queue, a released one is evaluated. -/
theorem controlsOfWaitingLifts : Obligations.ControlsOfWaitingLifts := by
  refine ⟨fun s t i l hs hl => ⟨fun hq => ⟨?_, ?_⟩, fun hst => ?_⟩,
    fun s l now _ => ⟨fun hq => ⟨?_, ?_⟩, fun hst => ?_⟩, stalledIsEvaluated⟩
  · exact exec_control_finish .hold hs hl ((accepted_iff _ _).mpr (by simp [hq]))
  · exact exec_control_finish .forceManual hs hl ((accepted_iff _ _).mpr (by simp [hq]))
  · exact exec_control_finish .release hs hl ((accepted_iff _ _).mpr (by simp [hst]))
  · have hc : (heldStalled s l).lift l = { s.lift l with hold := true, queueData := none, state := .stalled } :=
      lift_moved_same _ _ _
    have hv : ((heldStalled s l).lift l).state = .stalled := by rw [hc]
    have hh : ((heldStalled s l).lift l).hold = true := by rw [hc]
    obtain ⟨hqueue, hdue, hhold, hdata, hstate⟩ := evaluateStalled_of_held now hv hh (by rw [hc])
    refine ⟨(heldStalled s l).evaluateStalled l now, (holdLift_of_queued s l now hq).symm, ?_, hhold, hdata, hstate, ?_,
      fun k hk => ?_, fun r hr ht hn => ?_⟩
    · rw [hqueue]
      exact not_mem_heldStalled_queue hq
    · rw [hdue]
      exact heldStalled_due hq
    · rw [(evaluateStalled_liftFrame _ l now).lift_other k hk, lift_heldStalled_other s hk]
    · obtain ⟨hplan, -, -, -, -, hheld, -⟩ := (stalledIsEvaluated (heldStalled s l) l now r hv
        (by rw [hc]; exact hr) _ _ _ rfl rfl rfl).2.2 ht hn
      exact ⟨(hheld hh).1, by rw [hplan]; rfl⟩
  · refine ⟨s.act l .forceManual now, rfl, ?_⟩
    have he : s.act l .forceManual now = moved (left s l) l (handed (s.lift l) .operator) :=
      enterManual_eq s l .operator
    rw [he, lift_moved_same, moved_queue, mem_left_queue, moved_admissionDue]
    refine ⟨fun hl => hl.2 hq rfl, rfl, rfl, rfl, rfl, ?_, fun k hk => ?_⟩
    · rw [left_of_queued s l hq]
    · rw [lift_moved_other _ _ hk, lift_left]
  · obtain ⟨v, hv⟩ : ∃ v, v = s.setLift l { s.lift l with hold := false } := ⟨_, rfl⟩
    have hc : v.lift l = { s.lift l with hold := false } := by rw [hv, lift_setLift_same]
    have hstalled : (v.lift l).state = .stalled := by rw [hc]; exact hst
    obtain ⟨hhold, hleft, hqueued⟩ := evaluateStalled_of_free now hstalled (by rw [hc]) rfl
    refine ⟨v.evaluateStalled l now, by rw [releaseLift_of_stalled now hst, hv], hhold, hleft, fun k hk => ?_, hqueued,
      by rw [hv], fun r p hr hp => ?_⟩
    · rw [(evaluateStalled_liftFrame v l now).lift_other k hk, hv, lift_setLift_other _ _ hk]
    · rw [← planInput_setHold s l false, ← hv] at hp
      obtain ⟨hrecovers, hstaff, hplans⟩ :=
        stalledIsEvaluated v l now r hstalled (by rw [hc]; exact hr) _ _ p rfl rfl hp
      refine ⟨fun ht => ?_, fun ht hn => ?_, fun ht hn => ?_⟩
      · rw [hrecovers ht, lift_moved_same]
        rfl
      · rw [hstaff ht hn, lift_moved_same]
        exact ⟨rfl, rfl⟩
      · obtain ⟨hplan, -, -, -, -, -, hq, hm⟩ := hplans ht hn
        exact ⟨hplan, fun hf => (hq (by rw [hc]) hf).1, fun hf => (hm (by rw [hc]) hf).1⟩
end

section
/-! Writes of LIFT and LANDINGS (R1, R2, R39, R159): what the gathered words decode to. -/

namespace Sys2Proof.Machine

open Slice0

/-! ### Fields and scalars -/

theorem clampScalar_eq_near {lo hi : Nat} (n : Nat) (h : lo ≤ hi) : clampScalar lo hi n = near lo hi n := by
  unfold clampScalar near
  split
  · omega
  · split <;> omega

theorem scalarAt_eq (ws : List Word) (i : Nat) {lo hi : Nat} (h : lo ≤ hi) :
    scalarAt ws i lo hi = near lo hi (w ws i) :=
  clampScalar_eq_near _ h

theorem outside_iff_near_ne (lo hi n : Nat) : outside lo hi n = true ↔ near lo hi n ≠ n := by
  simp only [outside, near, Bool.or_eq_true, decide_eq_true_eq]
  split
  · omega
  · split <;> omega

theorem yesNo_eq (n : Nat) : yesNo n = if 1 < n then none else some (n == 1) := by
  match n with
  | 0 => rfl
  | 1 => rfl
  | _ + 2 => simp [yesNo]

theorem liftKind_ofCode_eq (n : Nat) :
    LiftKind.ofCode n = if 1 < n then none else some (if n = 0 then .vertical else .inclined) := by
  match n with
  | 0 => rfl
  | 1 => rfl
  | _ + 2 => simp [LiftKind.ofCode]

theorem countSense_ofCode_eq (n : Nat) :
    CountSense.ofCode n = if 1 < n then none else some (if n = 0 then .upIncreases else .downIncreases) := by
  match n with
  | 0 => rfl
  | 1 => rfl
  | _ + 2 => simp [CountSense.ofCode]

theorem topHeight_eq_highest (ls : List Landing) : topHeight ls = highest ls := by
  unfold topHeight highest
  cases ls.getLast? <;> rfl

theorem takesWrites_iff (st : RescueState) : st.takesWrites = true ↔ TakesWrites st := by
  cases st <;> simp [RescueState.takesWrites, TakesWrites]

/-! ### LIFT data -/

theorem decodeLiftEntry_eq (ws : List Word) :
    decodeLiftEntry ws =
      if ws.length < 17 ∨ 1 < w ws 0 ∨ 1 < w ws 2 ∨ 1 < w ws 5 then none else some (liftWritten ws) := by
  have h0 : yesNo (wordAt ws 0).toNat = _ := yesNo_eq (w ws 0)
  have h2 : LiftKind.ofCode (wordAt ws 2).toNat = _ := liftKind_ofCode_eq (w ws 2)
  have h5 : CountSense.ofCode (wordAt ws 5).toNat = _ := countSense_ofCode_eq (w ws 5)
  rw [decodeLiftEntry, h0, h2, h5]
  by_cases hl : ws.length < 17
  · simp [hl]
  by_cases n0 : 1 < w ws 0
  · simp [hl, n0]
  by_cases n2 : 1 < w ws 2
  · simp [hl, n0, n2]
  by_cases n5 : 1 < w ws 5
  · simp [hl, n0, n2, n5]
  have hok : ¬ (ws.length < 17 ∨ 1 < w ws 0 ∨ 1 < w ws 2 ∨ 1 < w ws 5) := by omega
  rw [if_neg hl, if_neg n0, if_neg n2, if_neg n5, if_neg hok]
  simp only [scalarAt_eq ws _ (show 100 ≤ 20000 by decide), scalarAt_eq ws _ (show 1 ≤ 65535 by decide),
    scalarAt_eq ws _ (show 10 ≤ 500 by decide), scalarAt_eq ws _ (show 50 ≤ 400 by decide),
    scalarAt_eq ws _ (show 1 ≤ 3 by decide), scalarAt_eq ws _ (Nat.zero_le _)]
  rfl

/-- The reasons of R2 that speak of the ring node, the landings and the shaft top. -/
abbrev LiftContentRefused (s : State) (l : Lift) (ws : List Word) : Prop :=
  63 ≤ w ws 1 ∨ (w ws 1 = 0 ∧ w ws 0 = 1)
    ∨ (∃ k : Lift, k ≠ l ∧ w ws 1 ≠ 0 ∧ (s.lift k).entry.ringNode = w ws 1)
    ∨ w ws 1 = s.params.powerNode ∨ w ws 1 = s.params.hazardNode ∨ (w ws 0 = 1 ∧ (s.lift l).landings = [])
    ∨ near 100 20000 (w ws 3) < highest (s.lift l).landings

theorem liftInvalid_iff (s : State) (l : Lift) (ws : List Word) :
    LiftInvalid s l ws ↔
      (ws.length < 17 ∨ 1 < w ws 0 ∨ 1 < w ws 2 ∨ 1 < w ws 5) ∨ LiftContentRefused s l ws := by
  unfold LiftInvalid LiftContentRefused
  simp only [or_assoc, or_comm, or_left_comm]

theorem liftContentOk_iff (s : State) (l : Lift) (ws : List Word) :
    s.liftContentOk l (liftWritten ws) = true ↔ ¬ LiftContentRefused s l ws := by
  have hservice : (liftWritten ws).inService = false ↔ w ws 0 ≠ 1 := beq_eq_false_iff_ne
  simp only [LiftContentRefused, State.liftContentOk, topHeight_eq_highest, allLifts, Bool.and_eq_true,
    Bool.or_eq_true, decide_eq_true_eq, Bool.not_eq_true', Bool.and_eq_false_iff, decide_eq_false_iff_not,
    List.all_eq_true, List.mem_finRange, forall_const, List.isEmpty_eq_false_iff, not_or, not_and, not_exists,
    Nat.not_le, Nat.not_lt, ne_eq, and_assoc, hservice]
  refine and_congr Iff.rfl (and_congr ?_ (and_congr (forall_congr' fun k => ?_) (and_congr Iff.rfl
    (and_congr Iff.rfl (and_congr ?_ Iff.rfl)))))
  · exact imp_iff_not_or.symm
  · rw [or_assoc]
    exact or_iff_not_imp_left.trans (imp_congr Iff.rfl or_iff_not_imp_left)
  · exact imp_iff_not_or.symm

theorem decodeLiftEntry_invalid {s : State} {l : Lift} {ws : List Word} (h : LiftInvalid s l ws) :
    (decodeLiftEntry ws).filter (s.liftContentOk l) = none := by
  rw [decodeLiftEntry_eq]
  split
  · rfl
  next hn =>
    rw [Option.filter_some, if_neg]
    rw [liftContentOk_iff]
    exact not_not_intro (((liftInvalid_iff s l ws).mp h).resolve_left hn)

theorem decodeLiftEntry_valid {s : State} {l : Lift} {ws : List Word} (h : ¬ LiftInvalid s l ws) :
    (decodeLiftEntry ws).filter (s.liftContentOk l) = some (liftWritten ws) := by
  rw [liftInvalid_iff, not_or] at h
  rw [decodeLiftEntry_eq, if_neg h.1, Option.filter_some, if_pos]
  exact (liftContentOk_iff s l ws).mpr h.2

theorem liftClamped_iff (ws : List Word) : liftClamped ws = true ↔ LiftOutOfRange ws := by
  simp only [liftClamped, liftScalars, List.any_cons, List.any_nil, Bool.or_eq_true, Bool.false_eq_true, or_false,
    outside_iff_near_ne]
  rfl

/-! ### LANDINGS data -/

theorem field_high (v : Word) : field v 8 8 = v.toNat / 256 := by
  have := v.isLt
  unfold field
  omega

theorem field_low (v : Word) : field v 0 2 = v.toNat % 4 := by
  unfold field
  omega

theorem doorSide_ofCode_eq {n : Nat} (h : n < 4) :
    DoorSide.ofCode n = if n = 0 then none else some (if n = 1 then .front else if n = 2 then .rear else .both) := by
  interval_cases n <;> rfl

/-- A landing of LANDINGS data that R39 refuses by itself. -/
abbrev LandingBad (ws : List Word) (i : Nat) : Prop :=
  20000 < w ws (1 + 2 * i) ∨ 31 < w ws (2 + 2 * i) / 256 ∨ w ws (2 + 2 * i) % 4 = 0

/-- A landing of LANDINGS data that does not lie above the one below it (R39). -/
abbrev LandingNotAbove (ws : List Word) (i : Nat) : Prop := i ≠ 0 ∧ w ws (1 + 2 * i) ≤ w ws (1 + 2 * (i - 1))

theorem decodeLanding_eq (ws : List Word) (i : Nat) :
    decodeLanding ws i = if LandingBad ws i then none else some (landingWritten ws i) := by
  have hside := doorSide_ofCode_eq (Nat.mod_lt (w ws (2 + 2 * i)) (show 0 < 4 by decide))
  unfold decodeLanding
  simp only [field_high, field_low]
  change (if 20000 < w ws (1 + 2 * i) ∨ 31 < w ws (2 + 2 * i) / 256 then none
    else (DoorSide.ofCode (w ws (2 + 2 * i) % 4)).map _) = _
  rw [hside]
  by_cases hb : 20000 < w ws (1 + 2 * i) ∨ 31 < w ws (2 + 2 * i) / 256
  · rw [if_pos hb, if_pos (by tauto)]
  · by_cases h0 : w ws (2 + 2 * i) % 4 = 0
    · rw [if_neg hb, if_pos h0, if_pos (.inr (.inr h0))]
      rfl
    · have hok : ¬ LandingBad ws i := fun h => h.elim (hb ∘ .inl) fun h => h.elim (hb ∘ .inr) h0
      rw [if_neg hb, if_neg h0, if_neg hok]
      rfl

/-- The first `n` landings that LANDINGS data writes. -/
def landingsWritten (ws : List Word) (n : Nat) : List Landing := (List.range n).map (landingWritten ws)

theorem landingsWritten_succ (ws : List Word) (n : Nat) :
    landingsWritten ws (n + 1) = landingsWritten ws n ++ [landingWritten ws n] := by
  simp [landingsWritten, List.range_succ]

theorem topHeight_landingsWritten (ws : List Word) {n : Nat} (h : n ≠ 0) :
    topHeight (landingsWritten ws n) = w ws (1 + 2 * (n - 1)) := by
  obtain ⟨m, rfl⟩ := Nat.exists_eq_succ_of_ne_zero h
  simp [landingsWritten_succ, topHeight, landingWritten]

theorem landing_above_iff (ws : List Word) (n : Nat) :
    (n = 0 ∨ topHeight (landingsWritten ws n) < (landingWritten ws n).height) ↔ ¬ LandingNotAbove ws n := by
  by_cases h : n = 0
  · simp [h]
  · rw [topHeight_landingsWritten ws h]
    simp [LandingNotAbove, landingWritten, h]

theorem decodeLandings_valid (ws : List Word) :
    ∀ n, (∀ i < n, ¬ LandingBad ws i ∧ ¬ LandingNotAbove ws i) → decodeLandings ws n = some (landingsWritten ws n)
  | 0, _ => rfl
  | n + 1, h => by
    obtain ⟨hbad, habove⟩ := h n (Nat.lt_succ_self n)
    rw [decodeLandings, decodeLandings_valid ws n fun i hi => h i (Nat.lt_succ_of_lt hi), decodeLanding_eq, if_neg hbad,
      landingsWritten_succ]
    exact if_pos ((landing_above_iff ws n).mpr habove)

theorem decodeLandings_invalid (ws : List Word) :
    ∀ n, (∃ i < n, LandingBad ws i ∨ LandingNotAbove ws i) → decodeLandings ws n = none
  | 0, h => by simp at h
  | n + 1, h => by
    by_cases hbelow : ∃ i < n, LandingBad ws i ∨ LandingNotAbove ws i
    · rw [decodeLandings, decodeLandings_invalid ws n hbelow]
    · obtain ⟨i, hi, hr⟩ := h
      have hin : i = n := by
        by_contra hne
        exact hbelow ⟨i, by omega, hr⟩
      subst hin
      rw [decodeLandings, decodeLandings_valid ws i fun j hj => by
        rw [← not_or]
        exact fun hj' => hbelow ⟨j, hj, hj'⟩, decodeLanding_eq]
      rcases hr with hbad | habove
      · rw [if_pos hbad]
      · split
        next ls d e1 e2 =>
          have hls : landingsWritten ws i = ls := Option.some.inj e1
          have hd : landingWritten ws i = d := by
            split at e2
            · cases e2
            · exact Option.some.inj e2
          rw [← hls, ← hd, if_neg (by rw [landing_above_iff]; exact not_not_intro habove)]
        · rfl

theorem decodeLandingList_cons (top : Nat) (v : Word) (vs : List Word) :
    decodeLandingList top (v :: vs) =
      if w (v :: vs) 0 < 2 ∨ 12 < w (v :: vs) 0 ∨ (v :: vs).length < 1 + 2 * w (v :: vs) 0 then none
      else (decodeLandings (v :: vs) (w (v :: vs) 0)).filter fun ls => decide (topHeight ls ≤ top) := rfl

theorem decodeLandingList_valid {top : Nat} {ws : List Word} (h : ¬ LandingsInvalid top ws) :
    decodeLandingList top ws = some (landingsWritten ws (w ws 0)) := by
  simp only [LandingsInvalid, not_or, not_exists, not_and] at h
  obtain ⟨hne, h2, h12, hlen, hbad, habove, htop⟩ := h
  obtain ⟨v, vs, rfl⟩ := List.exists_cons_of_ne_nil hne
  rw [decodeLandingList_cons, if_neg (by omega), decodeLandings_valid _ _ fun i hi => ⟨?_, ?_⟩, Option.filter_some,
    if_pos]
  · rw [topHeight_landingsWritten _ (by omega)]
    exact decide_eq_true (by omega)
  · have := hbad i hi
    tauto
  · exact fun hn => habove i hi hn.1 hn.2

theorem decodeLandingList_invalid {top : Nat} {ws : List Word} (h : LandingsInvalid top ws) :
    decodeLandingList top ws = none := by
  cases ws with
  | nil => rfl
  | cons v vs =>
    rw [decodeLandingList_cons]
    split
    · rfl
    next hc =>
      by_cases hr : ∃ i < w (v :: vs) 0, LandingBad (v :: vs) i ∨ LandingNotAbove (v :: vs) i
      · rw [decodeLandings_invalid _ _ hr]
        rfl
      · have hr' : ∀ i < w (v :: vs) 0, ¬ LandingBad (v :: vs) i ∧ ¬ LandingNotAbove (v :: vs) i := fun i hi => by
          rw [← not_or]
          exact fun hi' => hr ⟨i, hi, hi'⟩
        have htop : top < w (v :: vs) (1 + 2 * (w (v :: vs) 0 - 1)) := by
          rcases h with h | h | h | h | ⟨i, hi, h⟩ | ⟨i, hi, h⟩ | h
          · cases h
          · omega
          · omega
          · omega
          · exact absurd h (hr' i hi).1
          · exact absurd h (hr' i hi).2
          · exact h
        rw [decodeLandings_valid _ _ hr', Option.filter_some, if_neg]
        rw [topHeight_landingsWritten _ (by omega), decide_eq_true_eq]
        omega

/-! ### The two writes -/

theorem serve_write (s : State) (t : TimeTag) (tb : Table) (i : Byte) (ws : List Word) :
    (taken s t).serve (.write tb i ws) s.prefixHeld t = (taken s t).writeEntry tb i.toNat (data s tb i ws) t := rfl

theorem writeLift_of_lift {s : State} {i : Nat} {l : Lift} (ws : List Word) (h : liftOfNumber i = some l) :
    s.writeLift i ws =
      if TakesWrites (s.lift l).state then
        match (decodeLiftEntry ws).filter (s.liftContentOk l) with
        | none => s.refuse .invalid
        | some e => (s.storeLift l e, doneOr (liftClamped ws))
      else s.refuse .inUse := by
  rw [State.writeLift, h]
  dsimp only
  by_cases ht : TakesWrites (s.lift l).state
  · rw [if_pos ht, (takesWrites_iff _).mpr ht]
    rfl
  · rw [if_neg ht, if_pos (by rw [Bool.not_eq_true', ← Bool.not_eq_true, takesWrites_iff]; exact ht)]

theorem writeLandings_of_lift {s : State} {i : Nat} {l : Lift} (ws : List Word) (h : liftOfNumber i = some l) :
    s.writeLandings i ws =
      if TakesWrites (s.lift l).state then
        match decodeLandingList (s.lift l).entry.shaftTop ws with
        | none => s.refuse .invalid
        | some ls => (s.storeLandings l ls).done
      else s.refuse .inUse := by
  rw [State.writeLandings, h]
  dsimp only
  by_cases ht : TakesWrites (s.lift l).state
  · rw [if_pos ht, (takesWrites_iff _).mpr ht]
    rfl
  · rw [if_neg ht, if_pos (by rw [Bool.not_eq_true', ← Bool.not_eq_true, takesWrites_iff]; exact ht)]

/-- An accepted LANDINGS write as one context (R3, log 15). -/
theorem storeLandings_eq (s : State) (l : Lift) (ls : List Landing) :
    s.storeLandings l ls =
      s.setLift l
        (if (s.lift l).state = .excluded ∨ (s.lift l).landings = ls then { s.lift l with landings := ls }
         else { s.lift l with landings := ls, plan := none,
                              pos := { (s.lift l).pos with anchored := false, doubt := true } }) := by
  unfold State.storeLandings
  dsimp only
  split <;> rfl

end Sys2Proof.Machine

open Sys2Proof Sys2Proof.Machine Sys2Proof.Slice0 in
/-- Settles O8: the data decodes to the entry written exactly when R2 does not call it invalid. -/
theorem liftWriteIsDecided : Obligations.LiftWriteIsDecided := by
  intro s t i ws hs hlen
  obtain ⟨d, hd⟩ : ∃ d, d = data s .lift i ws := ⟨_, rfl⟩
  have hserve : (taken s t).serve (.write .lift i ws) s.prefixHeld t = (taken s t).writeLift i.toNat d := by
    rw [hd]
    exact serve_write s t .lift i ws
  have hrefuse : ∀ st : ReplyStatus, (taken s t).writeLift i.toNat d = (taken s t).refuse st →
      exec (.writeEntryLift t i ws) s = .next (answered (taken s t) (reply st.code 0x20 [])) := fun st h =>
    exec_refuses (st := st) (r := .write .lift i ws) (n := ws.length + 1) rfl hs (by omega) (by simp)
      (hserve.trans h) rfl
  rw [← hd]
  refine ⟨fun hn => hrefuse .range (by rw [State.writeLift, hn]), fun l hl => ?_⟩
  have hw := writeLift_of_lift (s := taken s t) d hl
  refine ⟨fun ht => hrefuse .inUse ?_, fun ht hi => hrefuse .invalid ?_, fun ht hi => ?_⟩
  · rw [hw, lift_taken, if_neg ht]
  · rw [hw, lift_taken, if_pos ht, decodeLiftEntry_invalid (s := taken s t) hi]
  · rw [lift_taken, if_pos ht, decodeLiftEntry_valid (s := taken s t) hi] at hw
    obtain ⟨hentry, -⟩ := lift_storeLift (taken s t) l l (liftWritten d)
    refine ⟨(taken s t).storeLift l (liftWritten d), (doneOr (liftClamped d)).status.code, ?_, rfl, ?_, ?_, hentry rfl,
      fun k hk => ?_⟩
    · refine exec_answers (r := .write .lift i ws) (n := ws.length + 1) rfl hs (by omega) (by simp) (hserve.trans hw) ?_
        rfl
      rw [storeLift_admissionDue]
      exact hs.2.2
    · rw [← liftClamped_iff]
      cases liftClamped d <;> decide
    · cases liftClamped d <;> decide
    · rw [(lift_storeLift (taken s t) l k (liftWritten d)).2 hk, lift_taken]

open Sys2Proof Sys2Proof.Machine Sys2Proof.Slice0 in
/-- Settles O10: the landings decode one by one, from index 0 upward. -/
theorem landingsWriteIsDecided : Obligations.LandingsWriteIsDecided := by
  intro s t i ws hs hlen
  obtain ⟨d, hd⟩ : ∃ d, d = data s .landings i ws := ⟨_, rfl⟩
  have hserve : (taken s t).serve (.write .landings i ws) s.prefixHeld t = (taken s t).writeLandings i.toNat d := by
    rw [hd]
    exact serve_write s t .landings i ws
  have hrefuse : ∀ st : ReplyStatus, (taken s t).writeLandings i.toNat d = (taken s t).refuse st →
      exec (.writeEntryLandings t i ws) s = .next (answered (taken s t) (reply st.code 0x21 [])) := fun st h =>
    exec_refuses (st := st) (r := .write .landings i ws) (n := ws.length + 1) rfl hs (by omega) (by simp)
      (hserve.trans h) rfl
  rw [← hd]
  refine ⟨fun hn => hrefuse .range (by rw [State.writeLandings, hn]), fun l hl => ?_⟩
  have hw := writeLandings_of_lift (s := taken s t) d hl
  refine ⟨fun ht => hrefuse .inUse ?_, fun ht hi => hrefuse .invalid ?_, fun ht hi ls hls => ?_⟩
  · rw [hw, lift_taken, if_neg ht]
  · rw [hw, lift_taken, if_pos ht, decodeLandingList_invalid hi]
  · have hls : ls = landingsWritten d (w d 0) := hls
    rw [lift_taken, if_pos ht, decodeLandingList_valid hi, ← hls] at hw
    refine exec_answers (st := .done) (r := .write .landings i ws) (n := ws.length + 1) rfl hs (by omega) (by simp) ?_
      hs.2.2 rfl
    rw [hserve, hw]
    exact congrArg State.done (storeLandings_eq (taken s t) l ls)
end

section
/-! The state after the reset pin. -/

namespace Sys2Proof.Machine

open Slice0

theorem vector_get_replicate {α : Type} {n : Nat} (a : α) (i : Fin n) : (Vector.replicate n a).get i = a :=
  Vector.getElem_replicate i.isLt

theorem lift_reset (l : Lift) : State.reset.lift l = fresh LiftEntry.powerOn [] .excluded :=
  vector_get_replicate (n := 24) _ l

theorem reset_balanced : State.reset.Balanced := by
  have h : (allLifts.map fun l => (State.reset.lift l).reserved) = List.replicate 24 0 := by
    refine List.eq_replicate_iff.mpr ⟨by simp [allLifts], fun b hb => ?_⟩
    obtain ⟨l, -, rfl⟩ := List.mem_map.mp hb
    rw [lift_reset]
    rfl
  show 0 = _
  rw [h, List.sum_replicate, smul_zero]

theorem reset_carsInShaft : State.reset.CarsInShaft := fun l => by
  rw [lift_reset]
  exact ⟨Nat.zero_le _, List.Pairwise.nil, by simp [fresh], fun _ => rfl⟩

end Sys2Proof.Machine

open Sys2Proof Sys2Proof.Machine Sys2Proof.Slice0 in
/-- Settles O52: every context is the fresh one, every queue is empty, nothing is in flight. -/
theorem resetIsSafe : Obligations.ResetIsSafe := by
  refine ⟨reset_coherent, reset_balanced, fun l r hr => ?_, ?_, ?_, ?_, ?_, fun _ => rfl, rfl, List.Pairwise.nil,
    reset_carsInShaft⟩
  · rw [lift_reset] at hr
    cases hr
  · exact ⟨Nat.zero_le _, Nat.zero_le _, Nat.zero_le _, Nat.zero_le _⟩
  · exact ⟨List.nodup_nil, by simp [State.reset, LinkPort.powerOn]⟩
  · show Params.powerOn.InRange
    decide
  · exact ⟨fun _ => rfl, fun _ => rfl, fun h => absurd (show RestartPhase.idle = .quieting from h) (by decide),
      fun _ => rfl, fun _ => rfl, rfl⟩

open Sys2Proof Sys2Proof.Machine Sys2Proof.Slice0 in
/-- Settles O3: the reset pin leaves the power-on state, whatever went before. -/
theorem powerOnResetGivesPowerOnValues : Obligations.PowerOnResetGivesPowerOnValues := by
  intro s
  refine ⟨{ State.reset with freeIndex := s.freeIndex, pending := s.pending }, rfl, rfl, lift_reset, rfl, rfl, rfl, rfl,
    rfl, rfl, rfl, rfl, rfl, rfl, fun l => ⟨?_, ?_, ?_⟩, rfl, rfl, rfl, rfl, rfl, rfl, rfl, rfl, rfl, rfl, rfl, rfl,
        rfl,
    rfl, rfl, rfl, rfl, rfl, rfl, rfl, rfl, fun i => ⟨rfl, ?_⟩, rfl, fun i => ⟨rfl, ?_⟩, fun i => ?_, rfl⟩
  · exact vector_get_replicate (n := 24) _ l
  · exact vector_get_replicate (n := 24) _ l
  · exact vector_get_replicate (n := 24) _ l
  · exact vector_get_replicate (n := 64) _ i
  · exact vector_get_replicate (n := 96) _ i
  · exact vector_get_replicate (n := 64) _ i
end

section
/-! A grant (R14, R82, R84) and the ends of an execution (R16). -/

namespace Sys2Proof.Machine

open Slice0

/-! ### The lifts passed over -/

theorem foldl_raiseBypass_not_mem (s : State) (passed : List Lift) {k : Lift} (h : k ∉ passed) :
    (passed.foldl State.raiseBypass s).lift k = s.lift k := by
  induction passed generalizing s with
  | nil => rfl
  | cons x xs ih =>
    obtain ⟨hx, hxs⟩ := not_or.mp (List.mem_cons.not.mp h)
    rw [List.foldl_cons, ih _ hxs, lift_raiseBypass, if_neg hx]

/-- Each lift passed over once has its bypass count raised once. -/
theorem foldl_raiseBypass_mem (s : State) {passed : List Lift} (hn : passed.Nodup) {k : Lift} (h : k ∈ passed) :
    (passed.foldl State.raiseBypass s).lift k = (s.lift k).bypassed := by
  induction passed generalizing s with
  | nil => cases h
  | cons x xs ih =>
    obtain ⟨hx, hxs⟩ := List.nodup_cons.mp hn
    rw [List.foldl_cons]
    by_cases hk : k = x
    · subst hk
      rw [foldl_raiseBypass_not_mem _ _ hx, lift_raiseBypass, if_pos rfl]
    · rw [ih _ hxs ((List.mem_cons.mp h).resolve_left hk), lift_raiseBypass, if_neg hk]

/-- The record of a grant whose lift holds plan `p` (R14). -/
theorem newRescue_of_plan {c : LiftContext} {p : Plan} (bank : RecipeBankId) (h : c.plan = some p) :
    c.newRescue bank =
      { bank := bank, step := if p.mode = .gravity then c.entry.gravityStart else c.entry.assistedStart, budget := 0,
        stack := [], creepReservation := p.creepCost, doorReservation := p.doorCost, creepReleased := false,
        abortPending := false, attempt := c.attempt, originalDistance := p.distance, working := Working.empty } := by
  simp [LiftContext.newRescue, LiftContext.startIndex, h]

theorem beginRescue_outstanding (s : State) (l : Lift) (passed : List Lift) {p : Plan}
    (h : (s.lift l).plan = some p) :
    (s.beginRescue l passed).outstanding = s.outstanding + (p.creepCost + p.doorCost) := by
  rw [beginRescue_eq s l passed _ rfl, moved_outstanding, newRescue_of_plan _ h]

/-- What the fit test admits stays within the level less the floor (R82). -/
theorem outstanding_le_of_fits {s : State} {l : Lift} {p : Plan} (hp : (s.lift l).plan = some p)
    (hf : s.fits l = true) :
    ((s.outstanding + p.totalCost : Nat) : Int) ≤ (s.reservoir.level : Int) - s.params.reserveFloor := by
  have h := (of_decide_eq_true hf).2
  rw [LiftContext.totalCost, hp, State.headroom] at h
  dsimp only at h
  omega

/-! ### The STALLED evaluation spends nothing and posts nothing -/

@[simp] theorem slot_enterQueued (s : State) (l k : Lift) (now : TimeTag) :
    (s.enterQueued l now).slot k = s.slot k := by
  rw [enterQueued_eq, slot_callAdmission, slot_enqueue, slot_moved]

@[simp] theorem slot_runPlanner (s : State) (l k : Lift) (now : TimeTag) : (s.runPlanner l now).slot k = s.slot k :=
  slot_writePlan s l k now _

theorem evaluateStalled_spends_nothing {s : State} {l : Lift} (now : TimeTag) (hs : (s.lift l).state = .stalled)
    (hr : (s.lift l).rescue = none) {u : State} (hu : u = s.evaluateStalled l now) :
    u.outstanding = s.outstanding ∧ (u.lift l).rescue = none ∧ (u.lift l).state ≠ .rescuing ∧ u.slot l = s.slot l := by
  subst hu
  rcases evaluateStalled_cases now hs with ⟨_, -, -, e⟩ | ⟨_, -, -, -, e⟩ | ⟨-, e⟩
  · rw [e, lift_moved_same]
    exact ⟨by simp, hr, by simp [cleared], by simp⟩
  · rw [e, lift_moved_same]
    exact ⟨by simp, rfl, by simp [handed], by simp⟩
  · cases hh : (s.lift l).hold with
    | true =>
      rw [e, planStalled_held now hh, lift_runPlanner_same]
      exact ⟨by simp, hr, by simp [planned, hs], by simp⟩
    | false =>
      cases hf : (s.freePlan l now).feasible with
      | true =>
        rw [e, planStalled_queues now hh hf, lift_enterQueued_same, lift_runPlanner_same]
        exact ⟨by simp, hr, by simp [queuedAt], by simp⟩
      | false =>
        rw [e, planStalled_gives_up now hh hf, enterManual_of_stalled now _ hs, lift_moved_same]
        exact ⟨by simp, rfl, by simp [handed], by simp⟩

/-! ### The ends of an execution -/

/-- A state in which an execution of a lift has ended: `n` reserved, `o` left in the slot,
an evaluation called (R16). -/
abbrev Ended (l : Lift) (n : Nat) (o : Option Order) (u : State) : Prop :=
  u.outstanding = n ∧ u.admissionDue = true ∧ (u.lift l).rescue = none ∧ (u.lift l).state ≠ .rescuing ∧ u.slot l = o

/-- The lift context that step 1 of an ending leaves (R16). -/
abbrev Dropped (d : State) (l : Lift) (c : LiftContext) : Prop :=
  d.lift l = { c with rescue := none } ∧ c.state = .rescuing

theorem enterManual_of_dropped {d : State} {l : Lift} {c : LiftContext} (why : ManualReason) (h : Dropped d l c) :
    (d.enterManual l why).callAdmission.lift l = handed c why
      ∧ Ended l d.outstanding (d.slot l) (d.enterManual l why).callAdmission := by
  obtain ⟨hc, hs⟩ := h
  have e : d.enterManual l why = moved d l (handed c why) := by
    rw [enterManual_eq, left_of_not_queued _ _ (by simp [hc, hs]), hc]
    rfl
  rw [e, lift_callAdmission, lift_moved_same]
  refine ⟨rfl, moved_outstanding d l _, rfl, ?_, ?_, slot_moved d l l _⟩ <;>
    rw [lift_callAdmission, lift_moved_same] <;> simp [handed]

theorem enterReleased_of_dropped {d : State} {l : Lift} {c : LiftContext} (h : Dropped d l c) :
    (d.enterReleased l).callAdmission.lift l = { c with state := .released, rescue := none }
      ∧ Ended l d.outstanding (d.slot l) (d.enterReleased l).callAdmission := by
  obtain ⟨hc, -⟩ := h
  have hl : (d.enterReleased l).lift l = { c with state := .released, rescue := none } := by
    obtain ⟨u, rfl, e | e⟩ := enterReleased_cases d l <;> rw [e]
    · rw [lift_moved_same, hc]
    · rw [lift_raiseLift, lift_moved_same, hc]
  have ho : (d.enterReleased l).outstanding = d.outstanding ∧ (d.enterReleased l).slot l = d.slot l := by
    obtain ⟨u, rfl, e | e⟩ := enterReleased_cases d l <;> rw [e]
    · exact ⟨moved_outstanding d l _, slot_moved d l l _⟩
    · exact ⟨moved_outstanding d l _, slot_moved d l l _⟩
  rw [lift_callAdmission, hl]
  exact ⟨rfl, ho.1, rfl, by rw [lift_callAdmission, hl], by rw [lift_callAdmission, hl]; simp, ho.2⟩

/-- What a retry enters STALLED with (R16). -/
def retried (d : State) (l : Lift) (c : LiftContext) : State :=
  moved (d.setLift l { c with rescue := none, attempt := c.attempt + 1 }) l
    { c with state := .stalled, rescue := none, attempt := c.attempt + 1 }

theorem lift_retried (d : State) (l : Lift) (c : LiftContext) :
    (retried d l c).lift l = { c with state := .stalled, rescue := none, attempt := c.attempt + 1 } :=
  lift_moved_same _ _ _

theorem endRetry_of_dropped {d : State} {l : Lift} {c : LiftContext} (now : TimeTag) (h : Dropped d l c)
    (ha : c.attempt < c.entry.maxAttempts) : d.endRetry l now = (retried d l c).evaluateStalled l now := by
  obtain ⟨hc, -⟩ := h
  rw [State.endRetry, if_pos (by rw [hc]; exact ha), modLift_eq d, hc, enterStalled_eq, lift_setLift_same]
  rfl

theorem endRetry_last {d : State} {l : Lift} {c : LiftContext} (now : TimeTag) (h : Dropped d l c)
    (ha : ¬ c.attempt < c.entry.maxAttempts) : d.endRetry l now = d.enterManual l .attemptsExhausted := by
  rw [State.endRetry, if_neg (by rw [h.1]; exact ha)]

theorem retried_ended {d : State} {l : Lift} {c : LiftContext} (now : TimeTag) :
    Ended l d.outstanding (d.slot l) ((retried d l c).evaluateStalled l now).callAdmission := by
  have hl := lift_retried d l c
  obtain ⟨ho, hr, hs, hslot⟩ := evaluateStalled_spends_nothing (s := retried d l c) now (by rw [hl]) (by rw [hl]) rfl
  refine ⟨ho.trans (moved_outstanding _ l _), rfl, ?_, ?_, hslot.trans (slot_moved _ l l _)⟩
  · rw [lift_callAdmission, hr]
  · rw [lift_callAdmission]
    exact hs

/-- What an ending leaves in the lift's slot, which held `o` (R16). -/
def Ending.slotLeft (why : Ending) (o : Option Order) : Option Order :=
  match why with
  | .safety => some { kind := .stopAndHold, poster := .part, sends := 15, tag := none }
  | .lostContact => none
  | _ => o

/-- The reasons with which an ending hands a lift to staff (R16). -/
abbrev HandsOver (c : LiftContext) (r : RescueRecord) (why : Ending) (reason : ManualReason) : Prop :=
  (why = .stepLimit ∧ reason = .stepLimit) ∨ (why = .safety ∧ reason = .noAutoFault)
    ∨ (why = .lostContact ∧ reason = .lostContact)
    ∨ ((∃ o, why = .reached o) ∧ r.abortPending = true ∧ reason = .aborted)
    ∨ (why = .reached .manual ∧ r.abortPending = false ∧ reason = .stepFailed)
    ∨ (why = .reached .retry ∧ r.abortPending = false ∧ c.entry.maxAttempts ≤ c.attempt ∧ reason = .attemptsExhausted)

/-- An ending hands the lift to staff for one reason, or releases it, or makes another attempt (R16). -/
theorem endAs_cases {d : State} {l : Lift} {c : LiftContext} (r : RescueRecord) (why : Ending) (now : TimeTag)
    (h : Dropped d l c) :
    (∃ d' reason, Dropped d' l c ∧ d'.outstanding = d.outstanding ∧ d'.slot l = why.slotLeft (d.slot l)
        ∧ HandsOver c r why reason ∧ d.endAs l why r.abortPending now = d'.enterManual l reason)
    ∨ (why = .reached .released ∧ r.abortPending = false ∧ d.endAs l why r.abortPending now = d.enterReleased l)
    ∨ (why = .reached .retry ∧ r.abortPending = false ∧ c.attempt < c.entry.maxAttempts
        ∧ d.endAs l why r.abortPending now = (retried d l c).evaluateStalled l now) := by
  cases why with
  | reached outcome =>
    cases ha : r.abortPending with
    | true => exact .inl ⟨d, .aborted, h, rfl, rfl, by simp [HandsOver, ha], rfl⟩
    | false =>
      cases outcome with
      | released => exact .inr (.inl ⟨rfl, rfl, rfl⟩)
      | retry =>
        by_cases hn : c.attempt < c.entry.maxAttempts
        · exact .inr (.inr ⟨rfl, rfl, hn, endRetry_of_dropped now h hn⟩)
        · exact .inl ⟨d, .attemptsExhausted, h, rfl, rfl, by simp [HandsOver, ha, Nat.not_lt.mp hn],
            endRetry_last now h hn⟩
      | manual => exact .inl ⟨d, .stepFailed, h, rfl, rfl, by simp [HandsOver, ha], rfl⟩
  | stepLimit => exact .inl ⟨d, .stepLimit, h, rfl, rfl, by simp [HandsOver], rfl⟩
  | safety =>
    exact .inl ⟨d.postPartStop l, .noAutoFault, h, rfl, slot_setSlot_same d l _, by simp [HandsOver], rfl⟩
  | lostContact =>
    exact .inl ⟨d.setSlot l none, .lostContact, h, rfl, slot_setSlot_same d l none, by simp [HandsOver], rfl⟩

theorem handsOver_unique {c : LiftContext} {r : RescueRecord} {why : Ending} {a b : ManualReason}
    (ha : HandsOver c r why a) (hb : HandsOver c r why b) : a = b := by
  cases why with
  | reached outcome => cases outcome <;> cases hr : r.abortPending <;> simp_all [HandsOver]
  | stepLimit => simp_all [HandsOver]
  | safety => simp_all [HandsOver]
  | lostContact => simp_all [HandsOver]

/-- The endings of an execution (R16). -/
theorem executionsEnd : ExecutionsEnd := by
  rintro s l r why now hs hr u c free rfl rfl rfl
  obtain ⟨d, hd⟩ : ∃ d, d = s.dropExecution l := ⟨_, rfl⟩
  have he := hd.trans (dropExecution_eq s l r hr)
  have hdrop : Dropped d l (s.lift l) := ⟨by rw [he]; exact lift_setLift_same s l _, hs⟩
  have hfree : d.outstanding = s.outstanding - r.held := by rw [he]
  have hslot : d.slot l = (s.slot l).map fun o => { o with poster := .part } := by
    rw [he]
    exact slot_setSlot_same _ l _
  have hqueue : d.queue = s.queue := by rw [he]; rfl
  have hleft : why.slotLeft (d.slot l) = (match why with
      | .safety => some { kind := .stopAndHold, poster := .part, sends := 15, tag := none }
      | .lostContact => none
      | _ => (s.slot l).map fun o => { o with poster := .part }) := by
    rw [hslot]
    cases why <;> rfl
  have hother := endExecution_liftFrame s l why now
  have hu : s.endExecution l why now = (d.endAs l why r.abortPending now).callAdmission := by
    rw [endExecution_eq, hr, hd]
    rfl
  rcases endAs_cases r why now hdrop with ⟨d', reason, hd', ho, ho', hover, e⟩ | ⟨rfl, ha, e⟩ | ⟨rfl, ha, hn, e⟩
  · rw [e] at hu
    obtain ⟨hl, h1, h2, h3, h4, h5⟩ := enterManual_of_dropped reason hd'
    rw [← hu] at hl h1 h2 h3 h4 h5
    refine ⟨h1.trans (ho.trans hfree), h2, h3, h4, fun k hk => ⟨hother.lift_other k hk, hother.slot_other k hk⟩,
      h5.trans (ho'.trans hleft), fun other h => ?_, fun hw hp => ?_, fun hw hp hn => ?_⟩
    · rw [hl, handsOver_unique hover h]
    · subst hw
      simp [HandsOver, hp] at hover
    · subst hw
      simp [HandsOver, hp] at hover
      omega
  · rw [e] at hu
    obtain ⟨hl, h1, h2, h3, h4, h5⟩ := enterReleased_of_dropped hdrop
    rw [← hu] at hl h1 h2 h3 h4 h5
    refine ⟨h1.trans hfree, h2, h3, h4, fun k hk => ⟨hother.lift_other k hk, hother.slot_other k hk⟩, h5.trans hleft,
      fun other h => ?_, fun _ _ => hl, fun hw => by simp at hw⟩
    simp [ha] at h
  · rw [e] at hu
    obtain ⟨h1, h2, h3, h4, h5⟩ := retried_ended (d := d) (c := s.lift l) (l := l) now
    rw [← hu] at h1 h2 h3 h4 h5
    refine ⟨h1.trans hfree, h2, h3, h4, fun k hk => ⟨hother.lift_other k hk, hother.slot_other k hk⟩, h5.trans hleft,
      fun other h => ?_, fun hw => by simp at hw, fun _ _ _ => ⟨retried d l (s.lift l), lift_retried _ _ _, ?_, ?_, hu⟩⟩
    · simp [ha] at h
      omega
    · exact (moved_outstanding _ _ _).trans hfree
    · exact (moved_queue _ _ _).trans hqueue

end Sys2Proof.Machine

open Sys2Proof Sys2Proof.Machine Sys2Proof.Slice0 in
/-- Settles O50: a grant as one context, and the endings. -/
theorem grantReservesAndStarts : Obligations.GrantReservesAndStarts := by
  refine ⟨fun s l passed p hp hl hn hs u hu => ?_, executionsEnd⟩
  have hlift : u.lift l = (s.lift l).granted ((s.lift l).newRescue s.recipes.active) := by
    rw [hu, lift_beginRescue_same]
  have hother : ∀ k : Lift, k ≠ l → u.lift k = (passed.foldl State.raiseBypass (s.dequeue l)).lift k := fun k hk => by
    rw [hu, lift_beginRescue_other s passed hk]
  have hout : u.outstanding = s.outstanding + (p.creepCost + p.doorCost) := by
    rw [hu, beginRescue_outstanding s l passed hp]
  refine ⟨by omega, by rw [hlift]; rfl, fun h => ?_, by rw [hlift]; rfl, by rw [hlift]; exact hp, ?_,
      fun k hk q hq => ?_,
    fun k hk hkp => ?_, fun hf ht => ?_, fun now => ?_⟩
  · rw [hu, mem_beginRescue_queue] at h
    exact h.2 rfl
  · rw [hlift, ← newRescue_of_plan s.recipes.active hp]
    rfl
  · have hkl : k ≠ l := fun e => hl (e ▸ hk)
    rw [hother k hkl, foldl_raiseBypass_mem _ hn hk, lift_dequeue, if_neg hkl, LiftContext.bypassed, hq]
    rfl
  · rw [hother k hk, foldl_raiseBypass_not_mem _ _ hkp, lift_dequeue, if_neg hk]
  · have := outstanding_le_of_fits hp hf
    rw [hout, ← ht]
    exact this
  · rw [State.grant, ← hu]
    show u.startStep l (s.lift l).startIndex now = _
    rw [LiftContext.startIndex, hp]
end

section
/-! The end of ALL STOP (R24, R164): the state cleared, the cycle restarted, RESTARTED on its way up. -/

namespace Sys2Proof.Machine

open Slice0

/-! ### A cycle start with no order to send -/

/-- `u` differs from `s` in the exchange in flight and in the descriptor and phase of the Scan Engine only. -/
abbrev Scans (s u : State) : Prop :=
  u = { s with exchange := u.exchange, scan := { s.scan with current := u.scan.current, phase := u.scan.phase } }

theorem Scans.trans {s u v : State} (h : Scans s u) (k : Scans u v) : Scans s v := by
  unfold Scans at h k ⊢
  rw [k, h]

/-- No order and no remote command waits. -/
abbrev NoOrders (s : State) : Prop := (∀ l : Lift, s.slot l = none) ∧ s.orders.passQueue = []

theorem Scans.noOrders {s u : State} (h : Scans s u) (hs : NoOrders s) : NoOrders u := by
  unfold Scans at h
  rw [h]
  exact hs

theorem chooseOrder_of_noOrders {s : State} (h : NoOrders s) : s.chooseOrder = none := by
  have hfind : ∀ (stop : Bool) (ls : List Lift), ls.find? (s.holdsClass stop) = none := fun stop ls =>
    List.find?_eq_none.mpr fun l _ => by simp [State.holdsClass, h.1 l]
  rw [State.chooseOrder, hfind, hfind]

/-- An ORDER SLOT passes with nothing to send (R142). -/
theorem takeSlot_of_noOrders {s : State} (d : Descriptor) (now : TimeTag) (h : NoOrders s) :
    s.takeSlot d now = (s, true) := by
  have hq : s.setPassQueue [] = s := by rw [State.setPassQueue, ← h.2]
  rw [State.takeSlot, chooseOrder_of_noOrders h, h.2, State.rejudge, hq]

theorem tryPoll_scans (s : State) (d : Descriptor) (asked : Lane) (left : Nat) (start : TimeTag) (gap : Nat) :
    Scans s (s.tryPoll d asked left start gap) := rfl

/-- A descriptor taken with nothing to send; a POLL POWER holds the cycle (R130). -/
theorem takeDescriptor_of_noOrders {s : State} (d : Descriptor) (now : TimeTag) (h : NoOrders s) :
    Scans s (s.takeDescriptor d now).1 ∧ (d.kind = .pollPower → (s.takeDescriptor d now).2 = false) := by
  unfold State.takeDescriptor
  cases hk : d.kind with
  | pause =>
    dsimp only
    split
    · exact ⟨rfl, by simp⟩
    · exact ⟨rfl, by simp⟩
  | pollLift =>
    dsimp only
    split
    · exact ⟨rfl, by simp⟩
    · exact ⟨tryPoll_scans _ _ _ _ _ _, by simp⟩
  | pollPower => exact ⟨tryPoll_scans _ _ _ _ _ _, fun _ => rfl⟩
  | pollHazard => exact ⟨tryPoll_scans _ _ _ _ _ _, fun _ => rfl⟩
  | orderSlot =>
    rw [takeSlot_of_noOrders d now h]
    exact ⟨rfl, by simp⟩

theorem takeFrom_of_noOrders (ds : List Descriptor) {s : State} (i : Nat) (now : TimeTag) (h : NoOrders s) :
    Scans s (s.takeFrom ds i now).1
      ∧ ((∃ d ∈ ds, d.kind = .pollPower) → (s.takeFrom ds i now).2 = false) := by
  induction ds generalizing s i with
  | nil => exact ⟨rfl, by simp⟩
  | cons d ds ih =>
    obtain ⟨v, hv⟩ : ∃ v, v = ({ s with scan := { s.scan with current := some i } } : State) := ⟨_, rfl⟩
    have hsv : Scans s v := by rw [hv]
    obtain ⟨hd, hp⟩ := takeDescriptor_of_noOrders d now (hsv.noOrders h)
    unfold State.takeFrom
    rw [← hv]
    split
    next u e =>
      rw [e] at hd hp
      have hsu := hsv.trans hd
      obtain ⟨hu, hq⟩ := ih (i + 1) (hsu.noOrders h)
      refine ⟨hsu.trans hu, fun ⟨d', hd', hk⟩ => ?_⟩
      rcases List.mem_cons.mp hd' with rfl | hmem
      · exact absurd (hp hk) (by simp)
      · exact hq ⟨d', hmem, hk⟩
    next u e =>
      rw [e] at hd
      exact ⟨hsv.trans hd, fun _ => rfl⟩

/-- A valid bank holds a POLL POWER (R128). -/
theorem pollPower_of_valid {b : ScanBank} (h : b.valid = true) : ∃ d ∈ b.descriptors, d.kind = .pollPower := by
  simp only [ScanBank.valid, Bool.and_eq_true, List.any_eq_true, decide_eq_true_eq] at h
  exact h.1.2

theorem foldl_eq_self_of_forall {s : State} (f : State → Lift → State) (ls : List Lift) (h : ∀ l, f s l = s) :
    ls.foldl f s = s := by
  induction ls with
  | nil => rfl
  | cons l ls ih => rw [List.foldl_cons, h, ih]

theorem inCreep_of_no_rescue {s : State} {l : Lift} (h : (s.lift l).rescue = none) : s.inCreep l = false := by
  rw [State.inCreep, State.runningStep, h]
  rfl

/-- What a cycle start sets before it takes a descriptor, where no execution runs and both lanes are as at power-on. -/
def cycleOpened (s : State) (now : TimeTag) : State :=
  { s with scan := { s.scan with running := true, startTime := some now, current := some 0, creepSeen := false } }

theorem openCycle_at_rest {s : State} (now : TimeTag) (hr : ∀ l : Lift, (s.lift l).rescue = none)
    (ha : s.laneA = LaneRecord.powerOn) (hb : s.laneB = LaneRecord.powerOn) (hd : s.admissionDue = false) :
    s.openCycle now = cycleOpened s now := by
  have hany : allLifts.any s.inCreep = false := List.any_eq_false.mpr fun l _ => by simp [inCreep_of_no_rescue (hr l)]
  have hprobe : ∀ n, probeAt n LaneRecord.powerOn LaneRecord.powerOn = .idle := fun n =>
    if_neg (by simp [LaneRecord.powerOn])
  have hset : (cycleOpened s now).setProbes = cycleOpened s now := by
    have ha' : (cycleOpened s now).laneA = LaneRecord.powerOn := ha
    have hb' : (cycleOpened s now).laneB = LaneRecord.powerOn := hb
    rw [State.setProbes, ha', hb', hprobe]
    conv_rhs => rw [show cycleOpened s now =
      { cycleOpened s now with laneA := (cycleOpened s now).laneA, laneB := (cycleOpened s now).laneB } from rfl, ha',
          hb']
    rfl
  unfold State.openCycle
  rw [hany]
  show State.settle (allLifts.foldl _ (cycleOpened s now).setProbes) now = _
  rw [hset, foldl_eq_self_of_forall _ _ fun l => by rw [inCreep_of_no_rescue (s := cycleOpened s now) (hr l)]; rfl]
  exact settle_of_not_due (cycleOpened s now) now hd

/-- A cycle start on a valid bank, with nothing to renew and nothing to send. -/
theorem startCycle_at_rest {s : State} (now : TimeTag) (hr : ∀ l : Lift, (s.lift l).rescue = none)
    (ha : s.laneA = LaneRecord.powerOn) (hb : s.laneB = LaneRecord.powerOn) (hd : s.admissionDue = false)
    (ho : NoOrders s) (hv : (s.scan.bank s.scan.active).valid = true) :
    Scans (cycleOpened s now) (s.startCycle now) := by
  obtain ⟨hscans, hstops⟩ := takeFrom_of_noOrders (s.scan.bank s.scan.active).descriptors (s := cycleOpened s now)
      0 now ho
  have hf := hstops (pollPower_of_valid hv)
  unfold State.startCycle
  rw [openCycle_at_rest now hr ha hb hd]
  have hbank : (cycleOpened s now).scan.bank (cycleOpened s now).scan.active = s.scan.bank s.scan.active := by
    unfold cycleOpened ScanEngine.bank
    rfl
  dsimp only
  rw [hbank]
  split
  next u e =>
    rw [e] at hf
    cases hf
  next u e =>
    rw [e] at hscans
    exact hscans

/-! ### The transmitter after the clear -/

/-- What a free transmitter takes where one notice waits, with no command reply and no copy (R152). -/
theorem transmit_of_notice {v : State} {e : NoticeEntry} (hn : v.link.notices = [e]) (hc : v.link.cmdReplies = [])
    (hp : v.link.copies = []) :
    ∃ p, v.transmit = { v with link := p } ∧ p.cmdReplies = [] ∧ p.copies = [] ∧ (∀ x ∈ p.notices, x = e)
      ∧ p.lastArrival = v.link.lastArrival ∧ p.isolated = v.link.isolated ∧ p.lastCopy = v.link.lastCopy
      ∧ (∀ f, v.link.transmitting = some f →
          p.transmitting = some f ∧ p.mgmtReplies = v.link.mgmtReplies ∧ p.notices = [e])
      ∧ (∀ f fs, v.link.transmitting = none → v.link.mgmtReplies = f :: fs →
          p.transmitting = some f.words ∧ p.mgmtReplies = fs ∧ p.notices = [e])
      ∧ (v.link.transmitting = none → v.link.mgmtReplies = [] →
          p.mgmtReplies = [] ∧ (v.link.isolated = true → p.transmitting = none ∧ p.notices = [e])
            ∧ (v.link.isolated = false → p.notices = [] ∧ p.transmitting = some (v.buildNotice e).words)) := by
  have hall : ∀ x ∈ v.link.notices, x = e := by simp [hn]
  unfold State.transmit State.nextUpward
  cases ht : v.link.transmitting with
  | some f => exact ⟨v.link, rfl, hc, hp, hall, rfl, rfl, rfl, by simp [ht, hn], by simp, by simp⟩
  | none =>
    cases hm : v.link.mgmtReplies with
    | cons g gs => exact ⟨_, rfl, hc, hp, hall, rfl, rfl, rfl, by simp, by simp [hn], by simp⟩
    | nil =>
      rw [hc, hn, hp]
      cases hi : v.link.isolated with
      | true => exact ⟨v.link, rfl, hc, hp, hall, rfl, hi, rfl, by simp, by simp, by simp [hn, hm, ht]⟩
      | false => exact ⟨_, rfl, hc, hp, by simp, rfl, hi, rfl, by simp, by simp, by simp [hm]⟩

/-- Whether a source has a frame to send is read off the port. -/
theorem nextUpward_isNone_congr {s u : State} (h : u.link = s.link) :
    u.nextUpward.isNone = s.nextUpward.isNone := by
  unfold State.nextUpward
  rw [h]
  cases s.link.mgmtReplies with
  | cons => rfl
  | nil =>
    cases s.link.cmdReplies with
    | cons => rfl
    | nil =>
      cases (if s.link.isolated then [] else s.link.notices) with
      | cons => rfl
      | nil => cases s.link.copies <;> rfl

/-- Where no source has a frame it may send, the transmitter stays as it is. -/
theorem transmit_of_served {s u : State} (hs : s.LinkServed) (hl : u.link = s.link) : u.transmit = u := by
  unfold State.transmit
  cases ht : u.link.transmitting with
  | some f => rfl
  | none =>
    have hn := hs (by rw [← hl, ht])
    rw [← nextUpward_isNone_congr hl] at hn
    rw [Option.isNone_iff_eq_none.mp hn]

/-- The end of a command that calls no evaluation and gives no source a frame. -/
theorem finish_of_served {s u : State} (now : TimeTag) (hs : s.Settled) (hserved : s.LinkServed) (hl : u.link = s.link)
    (hd : u.admissionDue = s.admissionDue) : u.finish now = u :=
  (finish_of_not_due u now (hd.trans hs)).trans (transmit_of_served hserved hl)

/-! ### The state after the sequence -/

/-- The Scan Engine and the exchange after step 4 of the RESTART sequence (R136, R164). -/
theorem restartCycle_eq (s : State) (now : TimeTag) :
    ∃ x sc, s.restartClear.restartCycle now = { s.restartClear with restart := .idle, exchange := x, scan := sc }
      ∧ sc.bankA = s.scan.bankA ∧ sc.bankB = s.scan.bankB ∧ sc.active = s.scan.active ∧ sc.swapPending = false
      ∧ sc.creepSeen = false ∧ sc.cycleCounter = 0
      ∧ ((s.scan.bank s.scan.active).valid = true → sc.running = true ∧ sc.startTime = some now)
      ∧ ((s.scan.bank s.scan.active).valid = false →
          sc.running = false ∧ sc.startTime = none ∧ sc.current = none ∧ x = none) := by
  have hbank : s.restartClear.scan.bank s.restartClear.scan.active = s.scan.bank s.scan.active := rfl
  cases hv : (s.scan.bank s.scan.active).valid with
  | false =>
    rw [restartCycle_of_invalid _ _ (hbank ▸ hv)]
    exact ⟨_, _, rfl, rfl, rfl, rfl, rfl, rfl, rfl, by simp, fun _ => ⟨rfl, rfl, rfl, rfl⟩⟩
  | true =>
    rw [restartCycle_of_valid _ _ (hbank ▸ hv)]
    have hr : ∀ l : Lift, (s.restartClear.lift l).rescue = none := fun l => by
      rw [lift_restartClear]
      rfl
    have ho : NoOrders s.restartClear := ⟨fun l => vector_get_replicate (n := 24) none l, rfl⟩
    have hscans := startCycle_at_rest (s := { s.restartClear with restart := .idle }) now hr rfl rfl rfl ho
      (hbank ▸ hv)
    unfold Scans at hscans
    refine ⟨_, _, hscans, rfl, rfl, rfl, rfl, rfl, rfl, fun _ => ⟨rfl, rfl⟩, by simp⟩

end Sys2Proof.Machine

open Sys2Proof Sys2Proof.Machine Sys2Proof.Slice0 in
/-- Settles O25: the clear as one state, the cycle started on it, and what the transmitter takes. -/
theorem restartClearsTheRuntimeState : Obligations.RestartClearsTheRuntimeState := by
  refine fun s t => ⟨fun hr => ?_, fun hr hs hserved => ?_⟩
  · obtain ⟨x, sc, hv, hbankA, hbankB, hactive, hswap, hcreep, hcounter, hvalid, hinvalid⟩ :=
      restartCycle_eq (s.atTime t) t
    have hexec : exec (.allStopSendEnd t) s = .next ((s.atTime t).restartClear.restartCycle t).transmit := by
      show Host.Outcome.next (((s.atTime t).endAllStop t).finish t) = _
      rw [State.endAllStop, if_pos (by exact hr), finish_of_not_due _ _ (by rw [hv]; rfl)]
    rw [hv] at hexec
    obtain ⟨p, hp, hcmd, hcopies, hnotices, harrival, hisolated, hlast, hbusy, hreply, hfree⟩ :=
      transmit_of_notice (v := { (s.atTime t).restartClear with restart := .idle, exchange := x, scan := sc })
        (e := ⟨0, 128⟩) rfl rfl rfl
    rw [hp] at hexec
    refine ⟨_, hexec, rfl, ⟨rfl, rfl, rfl, hbankA, hbankB, rfl, fun l => ?_⟩, rfl, rfl, rfl, rfl, rfl, hcmd, hcopies,
        rfl,
      hnotices, rfl, fun l => ⟨?_, ?_, ?_, ?_⟩, rfl, rfl, rfl, rfl, harrival, hisolated, hswap, hcreep, hactive,
      hcounter, hvalid, hinvalid, hbusy, hreply, hfree⟩
    · have h : ({ (s.atTime t).restartClear with
                    restart := .idle, exchange := x, scan := sc, link := p } : State).lift l = _ :=
        lift_restartClear (s.atTime t) l
      rw [h]
      exact ⟨rfl, rfl⟩
    · exact lift_restartClear (s.atTime t) l
    · exact vector_get_replicate (n := 24) none l
    · exact vector_get_replicate (n := 24) 0 l
    · show p.lastCopy.get l = none
      rw [hlast]
      exact vector_get_replicate (n := 24) none l
  · show Host.Outcome.next (((s.atTime t).endAllStop t).finish t) = _
    rw [State.endAllStop, if_neg (by exact hr)]
    exact congrArg Host.Outcome.next (finish_of_served (u := s.atTime t) t hs hserved rfl rfl)
end

section
/-! The end of an exchange (R113, R131, R132): what a missing reply and an abandoned poll bring about. -/

namespace Sys2Proof.Machine

open Slice0

/-! ### The end of an exchange, as one equation -/

/-- The end of an exchange touches the lane records, the exchange in flight and the notice list (R113, R115, R116). -/
theorem closeExchange_eq (s : State) (x : Exchange) (valid : Bool) :
    ∃ a b ns, s.closeExchange x valid =
      { s with laneA := a, laneB := b, exchange := none, link := { s.link with notices := ns } } := by
  have hset : ∀ r, ∃ a b, s.setLaneRecord x.lane r = { s with laneA := a, laneB := b } := fun r => by
    cases x.lane
    · exact ⟨_, _, rfl⟩
    · exact ⟨_, _, rfl⟩
  obtain ⟨a, b, h⟩ := hset ((s.laneRecord x.lane).after valid)
  unfold State.closeExchange State.updateLane
  dsimp only
  rw [h]
  split
  · exact ⟨_, _, _, rfl⟩
  · split
    · exact ⟨_, _, _, rfl⟩
    · exact ⟨_, _, _, rfl⟩

/-- How the part goes on after an exchange whose outcome is `h`: the state brought about, and what follows (R113, R115,
R130). -/
def goneOn (h : State × GoingOn) (x : Exchange) (valid : Bool) (start : TimeTag) (gap : Nat) (t : TimeTag) : State :=
  ((h.1.closeExchange x valid).goOn h.2 start gap t).finish t

theorem goneOn_ended (u : State) (x : Exchange) (valid : Bool) (start : TimeTag) (gap : Nat) (t : TimeTag) :
    goneOn (u, .ended) x valid start gap t = exchangeOver u x valid start gap t := rfl

theorem endExchange_of_working {s : State} {start : TimeTag} {gap : Nat} {job : Job} (x : Exchange) (valid : Bool)
    (k : State → Job → State × GoingOn) (t : TimeTag) (hr : s.restart = .idle)
    (hp : s.scan.phase = .working start gap job) :
    s.endExchange x valid k t = ((k s job).1.closeExchange x valid).goOn (k s job).2 start gap t := by
  rw [State.endExchange, if_neg (by simp [hr]), hp]

/-- REPLY_WINDOW_CLOSE after the window (R113). -/
theorem exec_closeWindow {s : State} {x : Exchange} {start sent : TimeTag} {gap window : Nat} {job : Job} (t : TimeTag)
    (hr : s.restart = .idle) (hx : s.exchange = some x) (hp : s.scan.phase = .working start gap job)
    (hw : x.waiting = some (sent, window)) (hpassed : window ≤ (t - sent).toNat) :
    exec (.replyWindowClose t) s = .next (goneOn ((s.atTime t).jobMissed job t) x false start gap t) := by
  have hclosed : windowClosed x t = true := by
    rw [windowClosed, hw]
    exact decide_eq_true hpassed
  have hx' : (s.atTime t).exchange = some x := hx
  show Host.Outcome.next (((s.atTime t).closeWindow t).finish t) = _
  rw [State.closeWindow, hx']
  dsimp only
  rw [if_pos hclosed, endExchange_of_working (s := s.atTime t) x false _ t hr hp]
  rfl

/-- A frame that meets R114 is a valid reply. -/
theorem validReply_of_meets {x : Exchange} {k : ReplyKind} {r : Reply} {t : TimeTag} (h : Meets x k r t) :
    validReply x k r t = true := by
  obtain ⟨hlane, hkind, hsource, hlong, hshort, sent, window, hw, hin⟩ := h
  have hl : r.payload.length ≤ Config.maxPayload := hshort
  rw [validReply, hw]
  simp only [decide_eq_true hlane, decide_eq_true hkind.symm, decide_eq_true hsource, decide_eq_true hlong,
    decide_eq_true hl, Bool.true_and]
  exact decide_eq_true hin

/-- A valid reply (R113). -/
theorem exec_validReply {s : State} {x : Exchange} {start : TimeTag} {gap : Nat} {job : Job} {k : ReplyKind} {r : Reply}
    {t : TimeTag} (hr : s.restart = .idle) (hx : s.exchange = some x) (hp : s.scan.phase = .working start gap job)
    (hm : Meets x k r t) :
    exec (replyOf k t r) s = .next (goneOn ((s.atTime t).jobReply job r t) x true start gap t) := by
  have hexec : exec (replyOf k t r) s = .next (s.replyArrives k r t) := by cases k <;> rfl
  have hx' : (s.atTime t).exchange = some x := hx
  rw [hexec, State.replyArrives, State.ringFrame, hx']
  dsimp only
  rw [if_pos (validReply_of_meets hm), endExchange_of_working (s := s.atTime t) x true _ t hr hp]
  rfl

/-! ### What a poll without a valid reply brings -/

theorem pollMissed_retries {s : State} {d : Descriptor} (asked : Lane) (n : Nat) (now : TimeTag)
    (h : s.pollExcluded d = false ∨ d.kind ≠ .pollLift) :
    s.pollMissed d asked (n + 1) now = (s, .retry d (retryLane d asked) n) := by
  rw [State.pollMissed, if_neg]
  rintro ⟨hk, he⟩
  rcases h with h | h
  · simp [h] at he
  · exact h hk

theorem pollMissed_lift {s : State} {d : Descriptor} {l : Lift} (asked : Lane) (now : TimeTag) (hk : d.kind = .pollLift)
    (hl : liftOfNumber d.lift = some l) (he : (s.lift l).state ≠ .excluded) :
    s.pollMissed d asked 0 now = ((s.unansweredPoll l now).settle now, .ended) := by
  rw [State.pollMissed, if_neg (by simp [State.pollExcluded, hl, he]), hk, hl]

theorem pollMissed_other {s : State} {d : Descriptor} (asked : Lane) (now : TimeTag)
    (hk : d.kind = .pollPower ∨ d.kind = .pollHazard) : s.pollMissed d asked 0 now = (s, .ended) := by
  rcases hk with hk | hk
  · rw [State.pollMissed, if_neg (by simp [hk]), hk]
  · rw [State.pollMissed, if_neg (by simp [hk]), hk]

/-- What `finish` leaves of a state that owes no evaluation: all but the port. -/
theorem finish_link_only {u : State} (now : TimeTag) (hd : u.admissionDue = false) :
    ∃ p, u.finish now = { u with link := p } :=
  ⟨u.transmit.link, (finish_of_not_due u now hd).trans (transmit_link_only u)⟩

/-- A further try of a poll, seen from the state in which the window closed (R131). -/
theorem retry_eq (s : State) (t : TimeTag) (x : Exchange) (start : TimeTag) (gap n : Nat) (d : Descriptor)
    (asked : Lane)
    (hs : s.Settled) {v : State} (hv : v = (s.atTime t).closeExchange x false) :
    ∃ a b p, goneOn (s.atTime t, .retry d asked n) x false start gap t =
      { s with
        time := t
        laneA := a
        laneB := b
        exchange := some { lane := v.chooseLane asked, dest := (s.pollOf d).1.dest.toNat, expects := (s.pollOf d).2,
                           sent := (s.pollOf d).1.words, waiting := none }
        scan := { s.scan with phase := .working start gap (.poll d asked n) }
        link := p } := by
  obtain ⟨a, b, ns, e⟩ := closeExchange_eq (s.atTime t) x false
  have hpoll : v.pollOf d = s.pollOf d := by
    rw [hv, e]
    rfl
  have hdue : (v.tryPoll d asked n start gap).admissionDue = false := by
    rw [hv, e]
    exact hs
  obtain ⟨p, hp⟩ := finish_link_only t hdue
  refine ⟨a, b, p, ?_⟩
  show (((s.atTime t).closeExchange x false).tryPoll d asked n start gap).finish t = _
  rw [← hv, hp, State.tryPoll, hpoll]
  rw [← hv] at e
  unfold State.beginExchange State.setPhase
  generalize v.chooseLane asked = lane
  rw [e]
  rfl

end Sys2Proof.Machine

open Sys2Proof Sys2Proof.Machine Sys2Proof.Slice0 in
/-- Settles O38: by what the exchange is for. -/
theorem missedPollIsRetried : Obligations.MissedPollIsRetried := by
  refine ⟨fun s t x start sent gap window n d lane hs hserved hx hw hr hp hex => ⟨fun hopen => ?_, fun hpassed => ?_⟩,
    fun s t x start gap job hr hx hp => ⟨fun sent window hw hpassed => ?_, fun k r hj hm => ?_⟩,
        unansweredPollsAreCounted⟩
  · have hclosed : windowClosed x t = false := by
      rw [windowClosed, hw]
      exact decide_eq_false (Nat.not_le.mpr hopen)
    have hx' : (s.atTime t).exchange = some x := hx
    show Host.Outcome.next (((s.atTime t).closeWindow t).finish t) = _
    rw [State.closeWindow, hx']
    dsimp only
    rw [if_neg (by simp [hclosed])]
    exact congrArg Host.Outcome.next (finish_of_served (u := s.atTime t) t hs hserved rfl rfl)
  · obtain ⟨a, b, p, e⟩ := retry_eq s t x start gap n d (retryLane d lane) hs rfl
    have hexec := exec_closeWindow t hr hx hp hw hpassed
    have hmissed : (s.atTime t).jobMissed (.poll d lane (n + 1)) t = (s.atTime t, .retry d (retryLane d lane) n) :=
      pollMissed_retries (s := s.atTime t) lane n t hex
    rw [hmissed, e] at hexec
    exact ⟨_, _, hexec, rfl, rfl, rfl, rfl, rfl, rfl, rfl, rfl, rfl, rfl, rfl, rfl, rfl, rfl, fun _ => ⟨rfl, rfl⟩⟩
  · have hexec := exec_closeWindow t hr hx hp hw hpassed
    refine ⟨fun d lane l hj hk hl he => ?_, fun d lane hj hk => ?_, fun d first l hj hl => ?_, fun hj => ?_,
      fun dest v hj hv => ?_⟩
    · subst hj
      have h : (s.atTime t).jobMissed (.poll d lane 0) t = _ := pollMissed_lift (s := s.atTime t) lane t hk hl he
      rw [hexec, h, goneOn_ended]
    · subst hj
      have h : (s.atTime t).jobMissed (.poll d lane 0) t = _ := pollMissed_other (s := s.atTime t) lane t hk
      rw [hexec, h, goneOn_ended]
    · subst hj
      rw [hexec, State.jobMissed, hl, goneOn_ended]
    · subst hj
      rw [hexec, State.jobMissed, goneOn_ended]
    · subst hj
      rw [hexec, State.jobMissed, goneOn_ended, hv]
      rfl
  · subst hj
    rw [exec_validReply hr hx hp hm, State.jobReply, goneOn_ended]
end

section
/-! Reports by rescue state (R9 to R20), each as the state it leaves. -/

namespace Sys2Proof.Machine

open Slice0

/-! ### Context changes before an entry -/

/-- A context change that keeps the rescue state is lost in the entry after it. -/
theorem moved_setLift (s : State) (l : Lift) (c d : LiftContext) (h : c.state = (s.lift l).state) :
    moved (s.setLift l c) l d = moved s l d := by
  unfold moved
  rw [lift_setLift_same, h, setLift_setLift]

theorem enterNormal_of_not_queued {s : State} {l : Lift} (h : (s.lift l).state ≠ .queued) :
    s.enterNormal l = moved s l (cleared (s.lift l)) := by
  rw [enterNormal_eq, left_of_not_queued s l h]

/-- A context change that keeps the rescue state, and the entry into STALLED after it (R9, R10, R20). -/
theorem setLift_enterStalled (s : State) (l : Lift) (c : LiftContext) (now : TimeTag)
    (h : c.state = (s.lift l).state) :
    (s.setLift l c).enterStalled l now = (moved s l { c with state := .stalled }).evaluateStalled l now := by
  rw [enterStalled_eq, lift_setLift_same, moved_setLift s l c _ h]

/-! ### The debounce (R9, R10) -/

/-- A debounce that confirms, and one that does not. -/
theorem debounce_confirms {s : State} {l : Lift} {n : Nat} (now : TimeTag) (h : s.params.confirmCount ≤ n) :
    s.debounce l n now = (moved s l (confirmed (s.lift l) n now)).evaluateStalled l now := by
  unfold State.debounce State.confirmStall
  dsimp only
  rw [modLift_eq s, if_pos (by exact h), setLift_modLift]
  exact setLift_enterStalled s l _ now rfl

theorem debounce_suspects {s : State} {l : Lift} {n : Nat} (now : TimeTag) (h : n < s.params.confirmCount) :
    s.debounce l n now = moved s l { s.lift l with suspectCount := n, state := .suspect } := by
  unfold State.debounce
  dsimp only
  rw [modLift_eq s, if_neg (by exact Nat.not_le.mpr h)]
  exact setLift_enter s l _ .suspect rfl

/-- The debounce of reports (R9, R10). -/
theorem reportsAreDebounced : ReportsAreDebounced := by
  rintro s l v r before now n u c rfl rfl
  refine ⟨fun hs hv => ?_, fun hs hv => ?_, fun hs hv hn => ?_, fun hs hv hn => ?_⟩
  · rw [State.reportByState, hs]
    dsimp only
    rw [State.reportNormal, if_neg (by simp [hv])]
  · rw [State.reportByState, hs]
    dsimp only
    rw [State.reportSuspect, if_neg (by simp [hv]), enterNormal_of_not_queued (by simp [hs])]
  · have e : s.reportByState l v r before now = s.debounce l n now := by
      rw [State.reportByState, hs]
      dsimp only
      rw [State.reportNormal, if_pos hv, hn]
    rw [e]
    exact ⟨debounce_suspects now, debounce_confirms now⟩
  · have e : s.reportByState l v r before now = s.debounce l n now := by
      rw [State.reportByState, hs]
      dsimp only
      rw [State.reportSuspect, if_pos hv, hn]
    rw [e]
    refine ⟨fun h => ?_, debounce_confirms now⟩
    rw [debounce_suspects now h, moved_same_state _ _ _ (by rw [hs]), ← hs]

/-! ### STALLED and QUEUED (R11, R13) -/

/-- A replan that leaves no feasible plan hands the lift to staff (R13). -/
theorem replanQueued_infeasible {s : State} {l : Lift} (now : TimeTag) (hf : (s.freePlan l now).feasible = false) :
    s.replanQueued l now =
      (s.runPlanner l now).enterManual l (planned (s.lift l) now (s.freePlan l now)).planReason := by
  rw [State.replanQueued]
  rw [lift_runPlanner_same, if_pos (by simp [planned, LiftContext.planFeasible, hf])]

/-- A replan with a feasible plan moves the lift in the queue only at a new merit (R13). -/
theorem replanQueued_feasible {s : State} {l : Lift} (now : TimeTag) (hf : (s.freePlan l now).feasible = true) :
    s.replanQueued l now =
      if (s.lift l).plan.map (·.merit) = some (s.freePlan l now).merit then s.runPlanner l now
      else ((s.runPlanner l now).enqueue l).callAdmission := by
  rw [State.replanQueued]
  rw [lift_runPlanner_same, if_neg (by simp [planned, LiftContext.planFeasible, hf])]
  rfl

theorem reportByState_queued {s : State} {l : Lift} (v : Verdict) (r : Report) (before : Option Nat) (now : TimeTag)
    (hs : (s.lift l).state = .queued) : s.reportByState l v r before now = s.reportQueued l v now := by
  rw [State.reportByState, hs]

/-- Reports in STALLED and in QUEUED (R11, R13). -/
theorem waitingLiftsTakeReports : WaitingLiftsTakeReports := by
  rintro s l v r before now u c p rfl rfl rfl
  have hplan : planFree (planInput s l now) = s.freePlan l now := rfl
  refine ⟨fun hs => by rw [State.reportByState, hs], fun hs hv => ?_, fun hs hv hc => ?_, fun hs hv hc => ?_⟩
  · rw [reportByState_queued v r before now hs, State.reportQueued, if_pos (by simp [hv]), enterNormal_eq]
  · rw [reportByState_queued v r before now hs, State.reportQueued, if_neg (by simp [hv]), if_pos hc, enterManual_eq]
  · have hother := (replanQueued_liftFrame s l now).lift_other
    rw [reportByState_queued v r before now hs, State.reportQueued, if_neg (by simp [hv]), if_neg hc, hplan]
    have hstate : ((s.runPlanner l now).lift l).state = .queued := (runPlanner_state s l now).trans hs
    cases hf : (s.freePlan l now).feasible with
    | true =>
      have e := replanQueued_feasible now hf
      by_cases hm : (s.lift l).plan.map (·.merit) = some (s.freePlan l now).merit
      · rw [if_pos hm] at e
        rw [e] at hother ⊢
        refine ⟨by rw [lift_runPlanner_same]; rfl, hother, fun _ => ⟨hstate, by rw [lift_runPlanner_same]; rfl, ?_, ?_⟩,
          by simp⟩
        · exact fun _ => ⟨runPlanner_queue s l now, runPlanner_admissionDue s l now⟩
        · exact fun h => absurd hm h
      · rw [if_neg hm] at e
        rw [e] at hother ⊢
        refine ⟨by rw [lift_callAdmission, lift_enqueue, lift_runPlanner_same]; rfl, hother, fun _ => ⟨hstate, ?_, ?_,
            ?_⟩,
          by simp⟩
        · rw [lift_callAdmission, lift_enqueue, lift_runPlanner_same]
          rfl
        · exact fun h => absurd h hm
        · refine fun _ => ⟨rfl, fun k => ?_⟩
          rw [callAdmission_queue, mem_enqueue, runPlanner_queue]
    | false =>
      have e := replanQueued_infeasible now hf
      rw [enterManual_eq, lift_runPlanner_same] at e
      rw [e] at hother ⊢
      rw [lift_moved_same, moved_queue, mem_left_queue, moved_admissionDue]
      refine ⟨rfl, hother, by simp, fun _ => ⟨rfl, fun hl => hl.2 hstate rfl, rfl, ?_, fun why hw => ?_⟩⟩
      · rw [left_of_queued _ _ hstate]
      · exact congrArg some (planReason_planned hw)

/-! ### RESCUING, RELEASED and MANUAL (R15, R17, R18) -/

theorem reportReleased_eq (s : State) (l : Lift) (v : Verdict) (r : Report) (before : Option Nat) {e : State}
    (he : e = if (s.lift l).occupancy = some 0 ∧ before ≠ some 0 then raised s (l.val + 1) 8 else s) :
    s.reportReleased l v r before = if r.mainsLost = false ∧ v.cls = .ignore then e.enterNormal l else e := by
  rw [he]
  unfold State.reportReleased
  dsimp only
  simp only [Bool.and_eq_true, Bool.not_eq_true', decide_eq_true_eq]
  rfl

theorem reportManual_eq (s : State) (l : Lift) (v : Verdict) (r : Report) :
    s.reportManual l v r =
      if r.mainsLost = false ∧ v.cls = .ignore ∧ (r.motion ≠ .stopped ∨ r.marker.isSome) then s.enterNormal l
      else s := by
  unfold State.reportManual
  simp only [Bool.and_eq_true, Bool.or_eq_true, Bool.not_eq_true', decide_eq_true_eq, and_assoc]

/-- Reports in RESCUING, RELEASED and MANUAL (R15, R17, R18). -/
theorem rescuedLiftsTakeReports : RescuedLiftsTakeReports := by
  rintro s l v r before now u c rfl rfl
  refine ⟨fun hs => ⟨fun h => ?_, fun h hopen => ?_⟩, fun hs e he => ⟨fun h => ?_, fun h => ?_⟩,
    fun hs => ⟨fun h => ?_, fun h => ?_⟩⟩
  · rw [State.reportByState, hs]
    dsimp only
    rw [State.reportRescuing, if_pos (by simpa using h)]
  · rw [State.reportByState, hs]
    dsimp only
    rw [State.reportRescuing, if_neg]
    simpa [hopen] using h
  · have hl : e.lift l = s.lift l := by
      rw [he]
      split <;> rfl
    rw [State.reportByState, hs]
    dsimp only
    rw [reportReleased_eq s l v r before he, if_pos h, enterNormal_of_not_queued (by simp [hl, hs]), hl]
  · rw [State.reportByState, hs]
    dsimp only
    rw [reportReleased_eq s l v r before he, if_neg]
    rintro ⟨hm, hc⟩
    rcases h with h | h
    · simp [hm] at h
    · exact h hc
  · rw [State.reportByState, hs]
    dsimp only
    rw [reportManual_eq, if_pos h, enterNormal_of_not_queued (by simp [hs])]
  · rw [State.reportByState, hs]
    dsimp only
    rw [reportManual_eq, if_neg]
    rintro ⟨hm, hc, hgo⟩
    rcases h with h | h | ⟨h, h'⟩
    · simp [hm] at h
    · exact h hc
    · rcases hgo with hgo | hgo
      · exact hgo h
      · simp [h'] at hgo

/-! ### The return from OFFLINE (R20) -/

/-- The first report of an OFFLINE lift, by the state before offline (R20). -/
theorem offlineLiftsReturn : OfflineLiftsReturn := by
  rintro s l v r before now u c rfl rfl hs
  have hwas : ∀ st : RescueState,
      (s.setLift l { s.lift l with beforeOffline := none }).enter l st =
        moved s l { s.lift l with state := st, beforeOffline := none } := fun st => setLift_enter s l _ st rfl
  have hnormal :
      (s.setLift l { s.lift l with beforeOffline := none }).enterNormal l = moved s l (cleared (s.lift l)) := by
    rw [enterNormal_of_not_queued (by rw [lift_setLift_same]; simp [hs]), lift_setLift_same]
    exact moved_setLift s l _ _ rfl
  have hrecovered : (moved s l (cleared (s.lift l))).reportByState l v r before now =
      (moved s l (cleared (s.lift l))).reportNormal l v now := by
    rw [State.reportByState, lift_moved_same]
    rfl
  have hoffline : s.reportByState l v r before now = s.reportOffline l v r before now := by rw [State.reportByState, hs]
  rw [hoffline]
  unfold State.reportOffline
  dsimp only
  rw [modLift_eq s]
  refine ⟨fun hb => ?_, fun hb => ?_, fun hb hv => ?_, fun hb => ?_⟩
  · rw [hb, hwas .manual, State.reportByState, lift_moved_same]
  · rw [hb, hwas .released, State.reportByState, lift_moved_same]
  · have e := setLift_enterStalled s l { s.lift l with beforeOffline := none } now rfl
    rcases hb with hb | hb
    · rw [hb]
      dsimp only
      rw [if_pos hv, e]
    · rw [hb]
      dsimp only
      rw [if_pos hv, e]
  · rw [hrecovered]
    rcases hb with hb | hb | ⟨hb | hb, hv⟩
    · rw [hb]
      dsimp only
      rw [hnormal]
    · rw [hb]
      dsimp only
      rw [hnormal]
    · rw [hb]
      dsimp only
      rw [if_neg (by simp [hv]), hnormal]
    · rw [hb]
      dsimp only
      rw [if_neg (by simp [hv]), hnormal]

end Sys2Proof.Machine
end

section
/-! STATUS REPORT (R5, R26, R132): a reply to a POLL LIFT, stored and handed on. -/

namespace Sys2Proof.Machine

open Slice0

/-! ### A report handed on (R5, R37, R153) -/

/-- A lift context after steps 1 to 6 of R5, with `since` and `v` as R30 to R32 draw them. -/
def LiftContext.reported (c : LiftContext) (p : Params) (rep : Report) (now : TimeTag) (since : Option TimeTag)
    (v : Verdict) : LiftContext :=
  { c with offMarkerSince := since, lastReport := some ⟨rep, now, v⟩, unanswered := 0,
           pos := track p.maxCounts c.entry c.landings c.pos rep,
           occupancy := occupancyOf p.massPerPerson rep.load,
           trappedMinutes := trappedAt now c.stallSince c.trappedMinutes }

/-- The state in which the copy of a report has been offered,
and a free transmitter has taken its next frame (log 5). -/
def State.offered (s : State) (l : Lift) (p : List Word) (rep : Report) : State := (s.offerCopy l p rep).transmit

theorem offered_untouched (s : State) (l : Lift) (p : List Word) (rep : Report) : Untouched s (s.offered l p rep) :=
  (offerCopy_untouched s l p rep).trans (transmit_untouched _)

theorem takeReport_discarded {s : State} {l : Lift} {source : Nat} (p : List Word) (rep : Report) (now : TimeTag)
    (h : (s.lift l).state = .excluded ∨ (s.lift l).entry.ringNode ≠ source) : s.takeReport l source p rep now = s := by
  rw [State.takeReport, if_pos]
  simpa [State.discardsReport] using h

theorem takeReport_taken {s : State} {l : Lift} {source : Nat} (p : List Word) (rep : Report) (now : TimeTag)
    (hs : (s.lift l).state ≠ .excluded) (hn : (s.lift l).entry.ringNode = source) {since : Option TimeTag} {v : Verdict}
    (hsince : since = offMarkerUpdate now (s.lift l).offMarkerSince rep)
    (hv : v = drawVerdict (faultEntry s.faultTable rep.fault) now since s.params.offMarkerDwell rep) :
    s.takeReport l source p rep now =
      (((s.offered l p rep).setLift l ((s.lift l).reported s.params rep now since v)).reportByState l v rep
        (s.lift l).occupancy now).settle now := by
  have hverdict : ∀ u : State, Untouched s u → u.verdictFor l rep now = (v, since) := fun u hu => by
    obtain ⟨hfault, -, hparams, -⟩ := hu.tables
    rw [State.verdictFor, hu.lift l, hfault, hparams, hv, hsince]
  have hu := offered_untouched s l p rep
  have hstore : (s.offered l p rep).storeReport l rep now =
      (s.offered l p rep).setLift l ((s.lift l).reported s.params rep now since v) := by
    obtain ⟨-, -, hparams, -⟩ := hu.tables
    unfold State.storeReport
    dsimp only
    rw [hverdict _ hu, modLift_eq (s.offered l p rep), hu.lift l, hparams]
    rfl
  rw [State.takeReport, if_neg (by simp [State.discardsReport, hs, hn])]
  dsimp only
  rw [hverdict s (.refl s), ← hstore]
  rfl

/-- Reports handed on (R5, R153). -/
theorem reportsAreTaken : ReportsAreTaken := by
  rintro s l source p rep now u c rfl rfl
  exact ⟨takeReport_discarded p rep now, fun hs hn since v hsince hv => takeReport_taken p rep now hs hn hsince hv⟩

theorem occupancyFollowsTheLoad : OccupancyFollowsTheLoad :=
  fun mass => ⟨rfl, fun kg => congrArg some (Nat.min_comm (kg / mass) 31)⟩

/-- The report copy filter (R153). -/
theorem copiesAreFiltered : CopiesAreFiltered := by
  rintro s l p r u rfl
  refine ⟨fun h => ?_, fun hi hl hc => ?_⟩
  · unfold State.offerCopy
    rcases h with h | h | h
    · rw [if_pos h]
    · rw [if_pos h]
      split <;> rfl
    · rw [if_neg (show ¬ s.link.copies.length < Config.copyFifoSize from Nat.not_lt.mpr h)]
      split
      · rfl
      · split <;> rfl
  · unfold State.offerCopy
    rw [if_neg (by simp [hi]), if_neg hl, if_pos (show s.link.copies.length < Config.copyFifoSize from hc)]
    rfl

/-! ### What a report leaves alone -/

theorem reportByState_cycleKeeps (s : State) (l : Lift) (v : Verdict) (r : Report) (before : Option Nat)
    (now : TimeTag) : CycleKeeps s (s.reportByState l v r before now) := by
  have hf := reportByState_rescueFrame s l v r before now
  exact ⟨hf.sameTables, hf.hazard, hf.reservoir, (reportByState_liftFrame s l v r before now).reports,
    reportByState_coherent v r before now⟩

/-- The end of an exchange and what follows it. -/
theorem exchangeOver_cycleKeeps (u : State) (x : Exchange) (valid : Bool) (start : TimeTag) (gap : Nat) (t : TimeTag) :
    CycleKeeps u (exchangeOver u x valid start gap t) :=
  ((closeExchange_untouched u x valid).cycleKeeps.trans (endWork_cycleKeeps _ start gap t)).trans
    (finish_cycleKeeps _ t)

/-- A report taken from its storing to the end of its exchange: what it stored stands, and nothing else that the part
remembers of reports, tables, zones and the reservoir changes. -/
theorem exchangeOver_takeReport {s : State} {l : Lift} {source : Nat} (p : List Word) (rep : Report) (t : TimeTag)
    (x : Exchange) (start : TimeTag) (gap : Nat) (hs : (s.lift l).state ≠ .excluded)
    (hn : (s.lift l).entry.ringNode = source) {since : Option TimeTag} {v : Verdict}
    (hsince : since = offMarkerUpdate t (s.lift l).offMarkerSince rep)
    (hv : v = drawVerdict (faultEntry s.faultTable rep.fault) t since s.params.offMarkerDwell rep) {u : State}
    (hu : u = exchangeOver (s.takeReport l source p rep t) x true start gap t) :
    SameTables s u ∧ u.hazard = s.hazard ∧ u.reservoir = s.reservoir
      ∧ SameReport ((s.lift l).reported s.params rep t since v) (u.lift l)
      ∧ ∀ k : Lift, k ≠ l → SameReport (s.lift k) (u.lift k) := by
  have hoff := offered_untouched s l p rep
  obtain ⟨b, hb⟩ : ∃ b, b = (s.offered l p rep).setLift l ((s.lift l).reported s.params rep t since v) := ⟨_, rfl⟩
  have hkeeps : CycleKeeps b u := by
    rw [hu, takeReport_taken p rep t hs hn hsince hv, ← hb]
    exact ((reportByState_cycleKeeps b l v rep _ t).trans (settle_cycleKeeps _ t)).trans
      (exchangeOver_cycleKeeps _ x true start gap t)
  have hlift : b.lift l = (s.lift l).reported s.params rep t since v := by rw [hb, lift_setLift_same]
  have hother : ∀ k : Lift, k ≠ l → b.lift k = s.lift k := fun k hk => by
    rw [hb, lift_setLift_other _ _ hk, hoff.lift k]
  have htables : SameTables s b := by
    obtain ⟨h1, h2, h3, h4, h5, h6, -⟩ := hoff.tables
    refine ⟨by rw [hb]; exact h1, by rw [hb]; exact h2, by rw [hb]; exact h3, by rw [hb]; exact h4,
        by rw [hb]; exact h5,
      by rw [hb]; exact h6, fun k => ?_⟩
    by_cases hk : k = l
    · subst hk
      rw [hlift]
      exact ⟨rfl, rfl⟩
    · rw [hother k hk]
      exact ⟨rfl, rfl⟩
  refine ⟨sameTables_trans htables hkeeps.tables, hkeeps.hazard.trans ?_, hkeeps.reservoir.trans ?_, ?_,
    fun k hk => ?_⟩
  · rw [hb]
    exact hoff.hazard
  · rw [hb]
    exact hoff.reservoir
  · rw [← hlift]
    exact hkeeps.reports l
  · rw [← hother k hk]
    exact hkeeps.reports k

/-! ### A reply to a POLL LIFT (R131, R132) -/

theorem liftReply_handed_on {s : State} {d : Descriptor} {l : Lift} {r : Reply} (now : TimeTag)
    (hl : liftOfNumber d.lift = some l)
    (h : careHit s.faultTable d.care (decodeReport (s.lift l).landings.length r.payload) = false) :
    s.liftReply d r now =
      (s.takeReport l r.source.toNat r.payload (decodeReport (s.lift l).landings.length r.payload) now, .ended) := by
  rw [State.liftReply, hl]
  dsimp only
  rw [if_neg (by simp [h])]

theorem liftReply_confirmed {s : State} {d : Descriptor} {l : Lift} {r : Reply} (now : TimeTag)
    (hl : liftOfNumber d.lift = some l) (hs : (s.lift l).state ≠ .excluded)
    (h : careHit s.faultTable d.care (decodeReport (s.lift l).landings.length r.payload) = true) :
    s.liftReply d r now =
      (s, .confirm d { source := r.source.toNat, payload := r.payload, arrival := now,
                       report := decodeReport (s.lift l).landings.length r.payload } r.lane) := by
  rw [State.liftReply, hl]
  dsimp only
  rw [if_pos (by simp [h, hs])]

theorem jobReply_pollLift (s : State) {d : Descriptor} (asked : Lane) (n : Nat) (r : Reply) (now : TimeTag)
    (hk : d.kind = .pollLift) : s.jobReply (.poll d asked n) r now = s.liftReply d r now := by
  rw [State.jobReply, hk]

/-- The confirmation poll of a lift (R132). -/
theorem confirmPoll_eq {v : State} {d : Descriptor} {l : Lift} (first : FirstReply) (lane : Lane) (start : TimeTag)
    (gap : Nat) (hk : d.kind = .pollLift) (hl : liftOfNumber d.lift = some l) :
    v.confirmPoll d first lane start gap =
      { v with exchange := some (pollExchange v (otherLane lane) (v.lift l).entry.ringNode 1 .status)
               scan := { v.scan with phase := .working start gap (.confirm d first) } } := by
  have hp : v.pollOf d = (pollFrame (v.lift l).entry.ringNode 1, .status) := by
    rw [State.pollOf, hk, hl]
  rw [State.confirmPoll, hp]
  rfl

end Sys2Proof.Machine

open Sys2Proof Sys2Proof.Machine Sys2Proof.Slice0 in
/-- Settles O32: the reply goes to the poll it answers, and what is handed on is stored before the lift's state acts. -/
theorem statusReportIsTaken : Obligations.StatusReportIsTaken := by
  refine ⟨fun s t x r start gap d lane n l hans hp hk hl hs rep hrep => ?_,
    fun s t x r start gap d first l hans hp hl => ?_, reportsAreTaken, occupancyFollowsTheLoad, copiesAreFiltered,
    reportsAreDebounced, waitingLiftsTakeReports, rescuedLiftsTakeReports, offlineLiftsReturn⟩
  · obtain ⟨hx, hr, hm⟩ := hans
    have hexec : exec (.statusReport t r) s = _ := exec_validReply (k := .status) hr hx hp hm
    obtain ⟨hlane, -, hsource, -⟩ := hm
    rw [jobReply_pollLift _ lane n r t hk] at hexec
    refine ⟨fun hcare => ?_, fun hcare v hv => ?_⟩
    · rw [liftReply_handed_on (s := s.atTime t) t hl (by rw [lift_atTime, ← hrep]; exact hcare), goneOn_ended, hsource,
        lift_atTime, ← hrep] at hexec
      refine ⟨hexec, fun hn => ⟨_, hexec, ?_⟩⟩
      obtain ⟨htables, hhazard, hreservoir, ⟨hlast, hpos, hocc, hoff, hun⟩, hother⟩ :=
        exchangeOver_takeReport (s := s.atTime t) r.payload rep t x start gap hs hn rfl rfl rfl
      exact ⟨htables, hhazard, hreservoir, hun, hocc, hpos, hoff, hlast, hother⟩
    · rw [liftReply_confirmed (s := s.atTime t) t hl hs (by rw [lift_atTime, ← hrep]; exact hcare), hsource, hlane,
        lift_atTime, ← hrep] at hexec
      have hring : v.lift l = s.lift l := by
        rw [hv, (closeExchange_untouched (s.atTime t) x true).lift l, lift_atTime]
      rw [hexec, goneOn]
      dsimp only [State.goOn]
      rw [← hv, confirmPoll_eq _ _ _ _ hk hl, hring]
  · obtain ⟨hx, hr, hm⟩ := hans
    have hexec : exec (.statusReport t r) s = _ := exec_validReply (k := .status) hr hx hp hm
    obtain ⟨-, -, hsource, -⟩ := hm
    rw [hexec, State.jobReply, hl, hsource]
    rfl
end

section
/-! Frames and STATUS REPORT payloads as words, read back as what was written (R26, R111). -/

namespace Sys2Proof.Machine

/-! ### Words and their fields -/

theorem wordOf_toNat {n : Nat} (h : n < 65536) : (wordOf n).toNat = n := by
  rw [wordOf, BitVec.toNat_ofNat, Nat.mod_eq_of_lt h]

theorem field_wordOf {n : Nat} (h : n < 65536) (lo len : Nat) : field (wordOf n) lo len = n / 2 ^ lo % 2 ^ len := by
  rw [field, wordOf_toNat h]

/-! ### Frames (R111) -/

theorem fields_header1 (f : Frame) :
    field f.header1 12 4 = f.kind.toNat ∧ field f.header1 6 6 = f.dest.toNat ∧ field f.header1 0 6 = f.source.toNat := by
  have hkind := f.kind.isLt
  have hdest := f.dest.isLt
  have hsource := f.source.isLt
  have hword : f.kind.toNat * 4096 + f.dest.toNat * 64 + f.source.toNat < 65536 := by omega
  simp only [Frame.header1, field_wordOf hword]
  omega

theorem fields_header2 {f : Frame} (h : f.payload.length ≤ 16) :
    field f.header2 11 5 = f.payload.length ∧ field f.header2 7 4 = f.tag.toNat := by
  have htag := f.tag.isLt
  have hword : f.payload.length * 2048 + f.tag.toNat * 128 < 65536 := by omega
  simp only [Frame.header2, field_wordOf hword]
  omega

theorem wordAt_append_singleton (ws : List Word) (c : Word) : wordAt (ws ++ [c]) ws.length = c := by
  simp [wordAt]

/-- The words of a frame agree with its length and its check word, and every header field has room for its value. -/
theorem Frame.ofWords_words {f : Frame} (h : f.payload.length ≤ 16) : Frame.ofWords f.words true = some f := by
  obtain ⟨hkind, hdest, hsource⟩ := fields_header1 f
  obtain ⟨hlength, htag⟩ := fields_header2 h
  show Frame.ofWords (f.header1 :: f.header2 :: (f.payload ++ [crc f.body])) true = some f
  rw [Frame.ofWords, hlength, htag, hkind, hdest, hsource, List.take_left, wordAt_append_singleton]
  simp [h, Config.maxPayload, Frame.body]

/-! ### Codes of the STATUS REPORT (R26) -/

theorem Motion.ofCode_code (m : Motion) : Motion.ofCode m.code = m := by cases m <;> rfl
theorem Doors.ofCode_code (d : Doors) : Doors.ofCode d.code = d := by cases d <;> rfl
theorem Ack.ofCode_code (a : Ack) : Ack.ofCode a.code = a := by cases a <;> rfl

theorem Motion.code_lt (m : Motion) : m.code < 4 := by cases m <;> decide
theorem Doors.code_lt (d : Doors) : d.code < 4 := by cases d <;> decide
theorem Ack.code_lt (a : Ack) : a.code < 4 := by cases a <;> decide

theorem bit_lt (b : Bool) : bit b < 2 := by cases b <;> decide
theorem bit_beq_one (b : Bool) : (bit b == 1) = b := by cases b <;> rfl
theorem bit_not_beq_zero (b : Bool) : (bit (!b) == 0) = b := by cases b <;> rfl

/-! ### The payload of a STATUS REPORT (R26) -/

/-- The fields of word 0, each at its place of R111. -/
theorem fields_reportHead {r : Report} (h : r.fault ≤ 63) {head : Word} (hhead : head = wordAt (encodeReport r) 0) :
    field head 10 6 = r.fault ∧ field head 8 2 = r.motion.code ∧ field head 6 2 = r.doors.code
      ∧ field head 5 1 = bit r.mainsLost ∧ field head 4 1 = bit r.chainOpen ∧ field head 2 2 = r.ack.code
      ∧ field head 1 1 = bit (!r.brakeSet) := by
  have hmotion := r.motion.code_lt
  have hdoors := r.doors.code_lt
  have hmains := bit_lt r.mainsLost
  have hchain := bit_lt r.chainOpen
  have hack := r.ack.code_lt
  have hbrake := bit_lt (!r.brakeSet)
  rw [hhead]
  show field (wordOf _) 10 6 = _ ∧ field (wordOf _) 8 2 = _ ∧ field (wordOf _) 6 2 = _ ∧ field (wordOf _) 5 1 = _
    ∧ field (wordOf _) 4 1 = _ ∧ field (wordOf _) 2 2 = _ ∧ field (wordOf _) 1 1 = _
  rw [field_wordOf (by omega), field_wordOf (by omega), field_wordOf (by omega), field_wordOf (by omega),
    field_wordOf (by omega), field_wordOf (by omega), field_wordOf (by omega)]
  omega

/-- No landing index reaches 15, the code of no marker. -/
theorem decodeMarker_getD {landings : Nat} {marker : Option Nat} (hl : landings ≤ 12) (hm : ∀ m ∈ marker, m < landings) :
    decodeMarker landings (field (wordOf (marker.getD 15)) 0 4) = marker := by
  cases marker with
  | none => rfl
  | some m =>
    have hlt : m < landings := hm m rfl
    have hfield : field (wordOf m) 0 4 = m := by
      rw [field_wordOf (by omega)]
      omega
    rw [Option.getD_some, hfield, decodeMarker, if_neg (by omega)]

/-- No load in its range reaches FFFFh, the code of a load not measured. -/
theorem decodeLoad_getD {load : Option Nat} (h : ∀ kg ∈ load, kg ≤ 2500) :
    decodeLoad (wordOf (load.getD 65535)).toNat = load := by
  cases load with
  | none => rfl
  | some kg =>
    have hkg : kg ≤ 2500 := h kg rfl
    rw [Option.getD_some, wordOf_toNat (by omega), decodeLoad, if_neg (by omega), Nat.min_eq_left hkg]

theorem decodeReport_encodeReport {landings : Nat} {r : Report} (hl : landings ≤ 12) (hfault : r.fault ≤ 63)
    (hencoder : r.encoder ≤ 65535) (hmarker : ∀ m ∈ r.marker, m < landings) (hload : ∀ kg ∈ r.load, kg ≤ 2500) :
    decodeReport landings (encodeReport r) = r := by
  obtain ⟨hf, hmotion, hdoors, hmains, hchain, hack, hbrake⟩ := fields_reportHead hfault rfl
  have hcount : (wordAt (encodeReport r) 1).toNat = r.encoder := wordOf_toNat (by omega)
  have hm : decodeMarker landings (field (wordAt (encodeReport r) 2) 0 4) = r.marker := decodeMarker_getD hl hmarker
  have hkg : decodeLoad (wordAt (encodeReport r) 3).toNat = r.load := decodeLoad_getD hload
  rw [decodeReport, hf, hmotion, hdoors, hmains, hchain, hack, hbrake, hcount, hm, hkg, Motion.ofCode_code,
    Doors.ofCode_code, Ack.ofCode_code, bit_beq_one, bit_beq_one, bit_not_beq_zero]

end Sys2Proof.Machine

open Sys2Proof Sys2Proof.Machine Sys2Proof.Slice0 in
/-- Settles O51: every field has room for its value, and no value meets a code that means something else. -/
theorem framesAndReportsReadBack : Obligations.FramesAndReportsReadBack :=
  ⟨fun _ h => Frame.ofWords_words h, fun _ _ hl hfault hencoder hmarker hload =>
    decodeReport_encodeReport hl hfault hencoder hmarker hload⟩
end

section
/-! The report conditions, the verdict and off-marker-since of a report (R27, R30 to R32). -/

namespace Sys2Proof.Machine

/-! ### Report conditions (R27) -/

theorem FaultClass.ne_ignore_iff (c : FaultClass) : c ≠ .ignore ↔ c = .stall ∨ c = .stallNoAuto := by
  cases c <;> decide

theorem faultEntry_eq_get (table : Vector FaultEntry 64) {code : Nat} (h : code < 64) :
    faultEntry table code = table.get ⟨code, h⟩ := by
  simp [faultEntry, Vector.get, h]

/-! ### The verdict (R31, R32) -/

/-- The car stands, and not with open doors at a landing (R31). -/
abbrev Report.Stands (r : Report) : Prop := r.motion = .stopped ∧ ¬ (r.doors = .opened ∧ r.marker.isSome)

theorem dwellReached_iff (t : TimeTag) (since : Option TimeTag) (dwell : Nat) :
    dwellReached t since dwell = true ↔ ∃ o, since = some o ∧ dwell * 1000 ≤ (t - o).toNat := by
  cases since with
  | none => exact ⟨nofun, nofun⟩
  | some o =>
    rw [dwellReached, decide_eq_true_eq, elapsed]
    exact ⟨fun h => ⟨o, rfl, h⟩, fun ⟨_, ho, h⟩ => Option.some_inj.mp ho ▸ h⟩

theorem standing_eq (r : Report) :
    (decide (r.motion = .stopped) && !(decide (r.doors = .opened) && r.marker.isSome)) = decide r.Stands := by
  rw [Bool.eq_iff_iff]
  simp only [Report.Stands, Bool.and_eq_true, Bool.not_eq_true', decide_eq_true_eq, ← Bool.not_eq_true]

/-- The rows of R32, the fault class before the dwell. -/
theorem drawVerdict_eq (e : FaultEntry) (t : TimeTag) (since : Option TimeTag) (dwell : Nat) (r : Report) :
    drawVerdict e t since dwell r =
      if r.Stands ∧ e.cls ≠ .ignore then ⟨true, e.cls, e.immediate⟩
      else if r.Stands ∧ dwellReached t since dwell = true then ⟨true, .stall, false⟩
      else ⟨false, e.cls, false⟩ := by
  rw [drawVerdict, standing_eq]
  simp only [Bool.and_eq_true, decide_eq_true_eq]

section
variable {e : FaultEntry} {t : TimeTag} {since : Option TimeTag} {dwell : Nat} {r : Report}

theorem drawVerdict_of_class (hs : r.Stands) (hc : e.cls ≠ .ignore) :
    drawVerdict e t since dwell r = ⟨true, e.cls, e.immediate⟩ := by
  rw [drawVerdict_eq, if_pos ⟨hs, hc⟩]

theorem drawVerdict_of_dwell (hs : r.Stands) (hc : ¬ e.cls ≠ .ignore) (hd : dwellReached t since dwell = true) :
    drawVerdict e t since dwell r = ⟨true, .stall, false⟩ := by
  rw [drawVerdict_eq, if_neg (fun h => hc h.2), if_pos ⟨hs, hd⟩]

theorem drawVerdict_of_not_trapping (h : ¬ (r.Stands ∧ (e.cls ≠ .ignore ∨ dwellReached t since dwell = true))) :
    drawVerdict e t since dwell r = ⟨false, e.cls, false⟩ := by
  rw [drawVerdict_eq, if_neg (fun ⟨hs, hc⟩ => h ⟨hs, .inl hc⟩), if_neg (fun ⟨hs, hd⟩ => h ⟨hs, .inr hd⟩)]
end

/-! ### Off-marker-since (R30) -/

theorem offMarkerUpdate_of_moving_or_marked {r : Report} (t : TimeTag) (old : Option TimeTag)
    (h : r.motion ≠ .stopped ∨ r.marker.isSome) : offMarkerUpdate t old r = none := by
  refine if_neg ?_
  rintro ⟨hstopped, hnone⟩
  rw [hnone] at h
  exact h.elim (· hstopped) (by simp)

theorem offMarkerUpdate_first {r : Report} (t : TimeTag) (hs : r.motion = .stopped) (hm : r.marker = none) :
    offMarkerUpdate t none r = some t :=
  if_pos ⟨hs, hm⟩

theorem offMarkerUpdate_again {r : Report} (t o : TimeTag) (hs : r.motion = .stopped) (hm : r.marker = none) :
    offMarkerUpdate t (some o) r = some (if 600000 < (t - o).toNat then t - 600000 else o) := by
  rw [apply_ite some]
  exact if_pos ⟨hs, hm⟩

/-- The time since starts at 0, and past its bound it is set back to that bound (R30). -/
theorem elapsed_offMarkerUpdate {t o : TimeTag} {old : Option TimeTag} {r : Report}
    (h : offMarkerUpdate t old r = some o) : (t - o).toNat ≤ 600000 := by
  by_cases hr : r.motion ≠ .stopped ∨ r.marker.isSome
  · simp [offMarkerUpdate_of_moving_or_marked t old hr] at h
  have hs : r.motion = .stopped := not_not.mp fun hn => hr (.inl hn)
  have hm : r.marker = none := Option.not_isSome_iff_eq_none.mp fun hn => hr (.inr hn)
  cases old with
  | none =>
    rw [offMarkerUpdate_first t hs hm, Option.some_inj] at h
    simp [← h]
  | some since =>
    rw [offMarkerUpdate_again t since hs hm, Option.some_inj] at h
    rw [← h]
    split
    · bv_omega
    · omega

end Sys2Proof.Machine

open Sys2Proof Sys2Proof.Machine Sys2Proof.Slice0 in
/-- Settles O43: the class of the fault code's entry is looked at before the dwell. -/
theorem reportsAreJudged : Obligations.ReportsAreJudged := by
  refine ⟨fun table m r h => ?_, fun e t since dwell r stands byClass byDwell hstands hclass hdwell => ?_,
    fun t old r => ⟨offMarkerUpdate_of_moving_or_marked t old, fun hs hm => ⟨?_, ?_, ?_⟩,
      fun _ => elapsed_offMarkerUpdate⟩⟩
  · simp only [careHit, faultEntry_eq_get table h, ← FaultClass.ne_ignore_iff, Bool.or_eq_true, Bool.and_eq_true,
      decide_eq_true_eq, or_assoc]
  · rw [← FaultClass.ne_ignore_iff] at hclass
    rw [← dwellReached_iff] at hdwell
    have hrow : stands ∧ byClass → drawVerdict e t since dwell r = ⟨true, e.cls, e.immediate⟩ := fun ⟨hs, hc⟩ =>
      drawVerdict_of_class (hstands.mp hs) (hclass.mp hc)
    have hstall : stands ∧ ¬ byClass ∧ byDwell → drawVerdict e t since dwell r = ⟨true, .stall, false⟩ :=
      fun ⟨hs, hc, hd⟩ => drawVerdict_of_dwell (hstands.mp hs) (hclass.not.mp hc) (hdwell.mp hd)
    have hquiet : ¬ (stands ∧ (byClass ∨ byDwell)) → drawVerdict e t since dwell r = ⟨false, e.cls, false⟩ := fun h =>
      drawVerdict_of_not_trapping ((and_congr hstands (or_congr hclass hdwell)).not.mp h)
    refine ⟨⟨fun htrap => ?_, fun ⟨hs, hor⟩ => ?_⟩, hrow, hstall, hquiet⟩
    · by_contra h
      rw [hquiet h] at htrap
      cases htrap
    · by_cases hc : byClass
      · rw [hrow ⟨hs, hc⟩]
      · rw [hstall ⟨hs, hc, hor.resolve_left hc⟩]
  · rintro rfl
    exact offMarkerUpdate_first t hs hm
  · rintro o rfl hle
    rw [offMarkerUpdate_again t o hs hm, if_neg (Nat.not_lt.mpr hle)]
  · rintro o rfl hlt
    rw [offMarkerUpdate_again t o hs hm, if_pos hlt]
end

section
/-! Writes of the Fault Class Table (R28, R29, R159). -/

namespace Sys2Proof.Machine

open Slice0

theorem field_flag (v : Word) : field v 8 2 = v.toNat / 256 % 4 := rfl

theorem FaultClass.ofCode_code (c : FaultClass) : FaultClass.ofCode c.code = some c := by cases c <;> rfl

theorem decodeFaultEntry_eq {ws : List Word} (h : ws ≠ []) :
    decodeFaultEntry ws =
      (FaultClass.ofCode (w ws 0 % 4)).bind fun c =>
        (yesNo (w ws 0 / 256 % 4)).map fun immediate => { cls := c, immediate := immediate } := by
  cases ws with
  | nil => exact absurd rfl h
  | cons v vs =>
    have hv : w (v :: vs) 0 = v.toNat := rfl
    rw [decodeFaultEntry, hv, field_low, field_flag]
    cases FaultClass.ofCode (v.toNat % 4) <;> cases yesNo (v.toNat / 256 % 4) <;> rfl

theorem decodeFaultEntry_invalid {ws : List Word}
    (h : ws = [] ∨ w ws 0 % 4 = 3 ∨ 1 < w ws 0 / 256 % 4) : decodeFaultEntry ws = none := by
  by_cases hnil : ws = []
  · rw [hnil, decodeFaultEntry]
  rw [decodeFaultEntry_eq hnil]
  rcases h.resolve_left hnil with hcls | hflag
  · rw [hcls]
    rfl
  · rw [yesNo_eq, if_pos hflag]
    simp only [Option.map_none, Option.bind_fun_none]

theorem decodeFaultEntry_valid {ws : List Word} {e : FaultEntry} (hnil : ws ≠ []) (hcls : w ws 0 % 4 = e.cls.code)
    (hflag : w ws 0 / 256 % 4 = if e.immediate then 1 else 0) : decodeFaultEntry ws = some e := by
  have himmediate : yesNo (if e.immediate then 1 else 0) = some e.immediate := by cases e.immediate <;> rfl
  rw [decodeFaultEntry_eq hnil, hcls, hflag, FaultClass.ofCode_code, himmediate]
  rfl

theorem writeFaultClass_of_lt (s : State) {i : Nat} (ws : List Word) (h : i < 64) :
    s.writeFaultClass i ws =
      match decodeFaultEntry ws with
      | none => s.refuse .invalid
      | some e => ({ s with faultTable := s.faultTable.set i e h }).done := dif_pos h

end Sys2Proof.Machine

open Sys2Proof Sys2Proof.Machine Sys2Proof.Slice0 in
/-- Settles O11: the data decodes to an entry exactly when R29 does not call it invalid. -/
theorem faultClassWriteIsDecided : Obligations.FaultClassWriteIsDecided := by
  intro s t i ws hs hlen
  have hrefuse : ∀ st : ReplyStatus,
      (taken s t).writeFaultClass i.toNat (data s .faultClass i ws) = (taken s t).refuse st →
      exec (.writeEntryFaultClass t i ws) s = .next (answered (taken s t) (reply st.code 0x22 [])) := fun st h =>
    exec_refuses (st := st) (r := .write .faultClass i ws) (n := ws.length + 1) rfl hs (by omega) (by simp)
      ((serve_write s t .faultClass i ws).trans h) rfl
  refine ⟨fun hi => hrefuse .range (dif_neg (Nat.not_lt.mpr hi)), fun hi => ?_⟩
  have hw := writeFaultClass_of_lt (taken s t) (data s .faultClass i ws) hi
  refine ⟨fun hbad => hrefuse .invalid ?_, fun e hnil hcls hflag => ?_⟩
  · rw [hw, decodeFaultEntry_invalid hbad]
  · rw [decodeFaultEntry_valid hnil hcls hflag] at hw
    exact exec_answers (st := .done) (r := .write .faultClass i ws) (n := ws.length + 1) rfl hs (by omega) (by simp)
      ((serve_write s t .faultClass i ws).trans hw) hs.2.2 rfl
end

section
/-! The Position Tracker (R42 to R47): one report applied to the position record. -/

namespace Sys2Proof.Machine

open Slice0

/-! ### The encoder delta (R42) -/

theorem rawDifference_bounds (new last : Nat) : -32768 ≤ rawDifference new last ∧ rawDifference new last ≤ 32767 := by
  unfold rawDifference
  dsimp only
  split <;> omega

/-- The raw difference is the difference of the counts across the wrap. -/
theorem rawDifference_congr {new last : Nat} (h : last < 65536) :
    (rawDifference new last - ((new : Int) - last)) % 65536 = 0 := by
  unfold rawDifference
  dsimp only
  split <;> omega

/-! ### The encoder part of a report (R43, R44, R46) -/

theorem applyDelta_of_inside {e : LiftEntry} {p : Position} {delta offset raw : Int}
    (ho : offset = p.offset + delta * e.encoderScale) (hr : raw = p.anchorHeight + Int.tdiv offset 10000)
    (hlo : 0 ≤ raw) (hhi : raw ≤ e.shaftTop) :
    applyDelta e p delta = { p with offset := offset, position := raw.toNat } := by
  unfold applyDelta
  dsimp only
  rw [← ho, ← hr, if_neg (Int.not_lt.mpr hlo), if_neg (Int.not_lt.mpr hhi)]

/-- Everything a plausible delta can do: the position it gives lies in the shaft, or is clamped to one of its bounds. -/
theorem applyDelta_cases (e : LiftEntry) (p : Position) (delta : Int) :
    (∃ offset : Int, 0 ≤ p.anchorHeight + Int.tdiv offset 10000 ∧ p.anchorHeight + Int.tdiv offset 10000 ≤ e.shaftTop
      ∧ applyDelta e p delta =
          { p with offset := offset, position := (p.anchorHeight + Int.tdiv offset 10000).toNat })
    ∨ ∃ (offset : Int) (bound : Nat), bound ≤ e.shaftTop
      ∧ applyDelta e p delta = clampPosition { p with offset := offset } bound := by
  unfold applyDelta
  dsimp only
  split
  · exact .inr ⟨_, 0, Nat.zero_le _, rfl⟩
  · split
    · exact .inr ⟨_, e.shaftTop, Nat.le_refl _, rfl⟩
    · exact .inl ⟨_, by omega, by omega, rfl⟩

theorem applyEncoder_first {p : Position} (maxCounts : Nat) (e : LiftEntry) (count : Nat) (h : p.lastCount = none) :
    applyEncoder maxCounts e p count = { p with lastCount := some count } := by
  rw [applyEncoder, h]

theorem applyEncoder_implausible {maxCounts : Nat} {e : LiftEntry} {p : Position} {count last : Nat}
    (h : p.lastCount = some last) (hd : maxCounts < (encoderDelta e.countSense count last).natAbs) :
    applyEncoder maxCounts e p count = { p with lastCount := some count, doubt := true } := by
  rw [applyEncoder, h]
  exact if_pos hd

theorem applyEncoder_plausible {maxCounts : Nat} {e : LiftEntry} {p : Position} {count last : Nat}
    (h : p.lastCount = some last) (hd : (encoderDelta e.countSense count last).natAbs ≤ maxCounts) :
    applyEncoder maxCounts e p count =
      applyDelta e { p with lastCount := some count } (encoderDelta e.countSense count last) := by
  rw [applyEncoder, h]
  exact if_neg (Nat.not_lt.mpr hd)

/-- Everything the encoder part of a report can do. -/
theorem applyEncoder_cases (maxCounts : Nat) (e : LiftEntry) (p : Position) (count : Nat) :
    applyEncoder maxCounts e p count = { p with lastCount := some count }
    ∨ applyEncoder maxCounts e p count = { p with lastCount := some count, doubt := true }
    ∨ ∃ delta, applyEncoder maxCounts e p count = applyDelta e { p with lastCount := some count } delta := by
  cases h : p.lastCount with
  | none => exact .inl (applyEncoder_first maxCounts e count h)
  | some last =>
    by_cases hd : maxCounts < (encoderDelta e.countSense count last).natAbs
    · exact .inr (.inl (applyEncoder_implausible h hd))
    · exact .inr (.inr ⟨_, applyEncoder_plausible h (Nat.not_lt.mp hd)⟩)

theorem applyDelta_lastCount (e : LiftEntry) (p : Position) (delta : Int) :
    (applyDelta e p delta).lastCount = p.lastCount := by
  rcases applyDelta_cases e p delta with ⟨_, -, -, h⟩ | ⟨_, _, -, h⟩ <;> rw [h]
  rfl

theorem applyEncoder_lastCount (maxCounts : Nat) (e : LiftEntry) (p : Position) (count : Nat) :
    (applyEncoder maxCounts e p count).lastCount = some count := by
  rcases applyEncoder_cases maxCounts e p count with h | h | ⟨delta, h⟩ <;> rw [h]
  rw [applyDelta_lastCount]

/-! ### The whole report (R45, R47) -/

/-- The check of R47: a record that is not anchored is in doubt. -/
def doubted (p : Position) : Position := if p.anchored then p else { p with doubt := true }

theorem doubted_eq (p : Position) : doubted p = { p with doubt := p.doubt || !p.anchored } := by
  obtain ⟨_, _, _, _, anchored, doubt⟩ := p
  cases anchored <;> cases doubt <;> rfl

/-- Without a marker that names a landing of the list, the encoder part alone moves the position. -/
theorem track_of_no_landing (maxCounts : Nat) (e : LiftEntry) {ls : List Landing} (p : Position) {r : Report}
    (h : r.marker.bind (ls[·]?) = none) :
    track maxCounts e ls p r = doubted (applyEncoder maxCounts e p r.encoder) := by
  unfold track doubted
  cases hm : r.marker with
  | none => rfl
  | some m =>
    have hd : ls[m]? = none := by simpa [hm] using h
    dsimp only
    rw [hd]

/-- A marker re-anchors at its landing's height, whatever the encoder shows (R45). -/
theorem track_of_landing (maxCounts : Nat) (e : LiftEntry) {ls : List Landing} (p : Position) {r : Report} {m : Nat}
    {d : Landing} (hm : r.marker = some m) (hd : ls[m]? = some d) :
    track maxCounts e ls p r =
      { position := d.height, anchorHeight := d.height, offset := 0, lastCount := some r.encoder, anchored := true,
        doubt := false } := by
  unfold track
  rw [hm]
  dsimp only
  rw [hd]
  show reAnchor (applyEncoder maxCounts e p r.encoder) d.height = _
  rw [reAnchor, applyEncoder_lastCount]

/-! ### The bounds of R41 -/

/-- The position and the anchor lie in the shaft, and the offset within its bound (R41). -/
structure Position.Within (p : Position) (top : Nat) : Prop where
  position : p.position ≤ top
  anchor : p.anchorHeight ≤ top
  offset : p.offset.natAbs < (top + 1) * 10000

theorem applyDelta_position_le (e : LiftEntry) (p : Position) (delta : Int) :
    (applyDelta e p delta).position ≤ e.shaftTop := by
  rcases applyDelta_cases e p delta with ⟨offset, hlo, hhi, h⟩ | ⟨offset, bound, hb, h⟩ <;> rw [h]
  · show (_ : Int).toNat ≤ _
    omega
  · exact hb

/-- The quotient of R44 cuts off less than one unit of height, which is the room that R41 gives the offset. -/
theorem natAbs_lt_of_tdiv {offset : Int} {top : Nat} (h : (Int.tdiv offset 10000).natAbs ≤ top) :
    offset.natAbs < (top + 1) * 10000 := by
  have hdiv : (Int.tdiv offset 10000).natAbs = offset.natAbs / 10000 := Int.natAbs_tdiv offset 10000
  omega

theorem applyDelta_within {e : LiftEntry} {p : Position} (delta : Int) (h : p.anchorHeight ≤ e.shaftTop) :
    (applyDelta e p delta).Within e.shaftTop := by
  refine ⟨applyDelta_position_le e p delta, ?_, ?_⟩
  · rcases applyDelta_cases e p delta with ⟨_, -, -, eq⟩ | ⟨_, _, -, eq⟩ <;> rw [eq]
    · exact h
    · exact h
  · rcases applyDelta_cases e p delta with ⟨offset, hlo, hhi, eq⟩ | ⟨offset, bound, hb, eq⟩ <;> rw [eq]
    · exact natAbs_lt_of_tdiv (show (Int.tdiv offset 10000).natAbs ≤ _ by omega)
    · show (((bound : Int) - p.anchorHeight) * 10000).natAbs < _
      omega

theorem applyEncoder_within {e : LiftEntry} {p : Position} (maxCounts count : Nat) (h : p.Within e.shaftTop) :
    (applyEncoder maxCounts e p count).Within e.shaftTop := by
  rcases applyEncoder_cases maxCounts e p count with eq | eq | ⟨delta, eq⟩ <;> rw [eq]
  · exact ⟨h.position, h.anchor, h.offset⟩
  · exact ⟨h.position, h.anchor, h.offset⟩
  · exact applyDelta_within delta h.anchor

theorem applyEncoder_position_le {e : LiftEntry} {p : Position} (maxCounts count : Nat) (h : p.position ≤ e.shaftTop) :
    (applyEncoder maxCounts e p count).position ≤ e.shaftTop := by
  rcases applyEncoder_cases maxCounts e p count with eq | eq | ⟨delta, eq⟩ <;> rw [eq]
  · exact h
  · exact h
  · exact applyDelta_position_le e _ delta

/-- Everything a report can do to the record: the encoder part, or a landing of the list as the new anchor. -/
theorem track_cases (maxCounts : Nat) (e : LiftEntry) (ls : List Landing) (p : Position) (r : Report) :
    track maxCounts e ls p r = doubted (applyEncoder maxCounts e p r.encoder)
    ∨ ∃ d ∈ ls, track maxCounts e ls p r =
        { position := d.height, anchorHeight := d.height, offset := 0, lastCount := some r.encoder, anchored := true,
          doubt := false } := by
  cases h : r.marker.bind (ls[·]?) with
  | none => exact .inl (track_of_no_landing maxCounts e p h)
  | some d =>
    obtain ⟨m, hm, hd⟩ := Option.bind_eq_some_iff.mp h
    exact .inr ⟨d, List.mem_of_getElem? hd, track_of_landing maxCounts e p hm hd⟩

theorem track_position_le {e : LiftEntry} {ls : List Landing} {p : Position} (maxCounts : Nat) (r : Report)
    (hls : ∀ d ∈ ls, d.height ≤ e.shaftTop) (h : p.position ≤ e.shaftTop) :
    (track maxCounts e ls p r).position ≤ e.shaftTop := by
  rcases track_cases maxCounts e ls p r with eq | ⟨d, hd, eq⟩ <;> rw [eq]
  · rw [doubted_eq]
    exact applyEncoder_position_le maxCounts _ h
  · exact hls d hd

theorem track_within {e : LiftEntry} {ls : List Landing} {p : Position} (maxCounts : Nat) (r : Report)
    (hls : ∀ d ∈ ls, d.height ≤ e.shaftTop) (h : p.Within e.shaftTop) :
    (track maxCounts e ls p r).Within e.shaftTop := by
  rcases track_cases maxCounts e ls p r with eq | ⟨d, hd, eq⟩ <;> rw [eq]
  · rw [doubted_eq]
    obtain ⟨hp, ha, ho⟩ := applyEncoder_within maxCounts r.encoder h
    exact ⟨hp, ha, ho⟩
  · exact ⟨hls d hd, hls d hd, by simp⟩

theorem track_lastCount (maxCounts : Nat) (e : LiftEntry) (ls : List Landing) (p : Position) (r : Report) :
    (track maxCounts e ls p r).lastCount = some r.encoder := by
  rcases track_cases maxCounts e ls p r with eq | ⟨d, hd, eq⟩ <;> rw [eq]
  rw [doubted_eq]
  exact applyEncoder_lastCount maxCounts e p r.encoder

theorem track_doubt (maxCounts : Nat) (e : LiftEntry) (ls : List Landing) (p : Position) (r : Report)
    (h : (track maxCounts e ls p r).anchored = false) : (track maxCounts e ls p r).doubt = true := by
  rcases track_cases maxCounts e ls p r with eq | ⟨d, hd, eq⟩ <;> rw [eq] at h ⊢
  · unfold doubted at h ⊢
    split
    next ha => rw [if_pos ha, ha] at h; cases h
    · rfl
  · cases h

end Sys2Proof.Machine

open Sys2Proof Sys2Proof.Machine Sys2Proof.Slice0 in
/-- Settles O45: the marker and the encoder part of a report, each as the record it leaves. -/
theorem reportMovesThePosition : Obligations.ReportMovesThePosition := by
  refine ⟨fun maxCounts e ls p r => ⟨fun m d => track_of_landing maxCounts e p, fun hm hl => ?_,
    fun last delta hm hl hdelta => ⟨fun hd => ?_, fun hd offset raw ho hr hlo hhi => ?_⟩⟩, fun new last _ hlast => ?_⟩
  · rw [track_of_no_landing maxCounts e p (by rw [hm]; rfl), applyEncoder_first maxCounts e _ hl, doubted_eq]
  · subst hdelta
    rw [track_of_no_landing maxCounts e p (by rw [hm]; rfl), applyEncoder_implausible hl hd, doubted_eq]
    rfl
  · subst hdelta
    rw [track_of_no_landing maxCounts e p (by rw [hm]; rfl), applyEncoder_plausible hl hd, doubted_eq,
      applyDelta_of_inside (p := { p with lastCount := some r.encoder }) ho hr hlo hhi]
  · obtain ⟨hlo, hhi⟩ := rawDifference_bounds new last
    exact ⟨rawDifference new last, rfl, rfl, hlo, hhi, rawDifference_congr hlast⟩
end

section
/-! Everything a step can do to lift contexts and admission queue: a chain of the operations named here. An invariant of
lift contexts and queue that each of these operations keeps is kept by every step. -/

namespace Sys2Proof.Machine

open Slice0

/-- One operation that a step may make on lift contexts and queue. -/
inductive LiftChange : State → State → Prop
  | same {s u : State} (hl : u.lifts = s.lifts) (hq : u.queue = s.queue) : LiftChange s u
  | renewCreep (s : State) (l : Lift) (now : TimeTag) : LiftChange s (s.renewCreep l now)
  | deliver (s : State) (l : Lift) (p : Poster) (ok : Bool) (now : TimeTag) : LiftChange s (s.deliver l p ok now)
  | expireStep (s : State) (l : Lift) (now : TimeTag) : LiftChange s (s.expireStep l now)
  | evaluateAdmission (s : State) (now : TimeTag) : LiftChange s (s.evaluateAdmission now)
  | report (s : State) (l : Lift) (v : Verdict) (r : Report) (before : Option Nat) (now : TimeTag)
      (h : (s.lift l).state ≠ .excluded) : LiftChange s ((s.storeReport l r now).reportByState l v r before now)
  | unansweredPoll (s : State) (l : Lift) (now : TimeTag) : LiftChange s (s.unansweredPoll l now)
  | hazardReplan (s : State) (changed : BitVec 32) (now : TimeTag) (l : Lift) :
      LiftChange s (s.hazardReplan changed now l)
  | act (s : State) (l : Lift) (a : Action) (now : TimeTag) (h : a.accepted (s.lift l).state = true) :
      LiftChange s (s.act l a now)
  | extendStep (s : State) (i : Nat) (later : List Word) : LiftChange s (s.extendStep i later).1
  | writeLift (s : State) (i : Nat) (ws : List Word) : LiftChange s (s.writeLift i ws).1
  | writeLandings (s : State) (i : Nat) (ws : List Word) : LiftChange s (s.writeLandings i ws).1
  | restartClear (s : State) : LiftChange s s.restartClear
  | reset (s : State) : LiftChange s State.reset

/-- A chain of such operations. -/
abbrev LiftChanges : State → State → Prop := Relation.ReflTransGen LiftChange

theorem LiftChanges.invariant {P : State → Prop} (hP : ∀ {s u}, LiftChange s u → P s → P u) {s u : State}
    (h : LiftChanges s u) (hs : P s) : P u := by
  induction h with
  | refl => exact hs
  | tail _ hc ih => exact hP hc ih

theorem liftChanges_of_same {s u : State} (hl : u.lifts = s.lifts) (hq : u.queue = s.queue) : LiftChanges s u :=
  .single (.same hl hq)

theorem Untouched.liftChanges {s u : State} (h : Untouched s u) : LiftChanges s u := liftChanges_of_same h.lifts h.queue

/-- A fold of chains is a chain. -/
theorem foldl_liftChanges {α : Type} (f : State → α → State) (h : ∀ s a, LiftChanges s (f s a)) (xs : List α)
    (s : State) : LiftChanges s (xs.foldl f s) := by
  induction xs generalizing s with
  | nil => exact .refl
  | cons x xs ih => exact (h s x).trans (ih (f s x))

/-! ### The scan cycle -/

theorem settle_liftChanges (s : State) (now : TimeTag) : LiftChanges s (s.settle now) := by
  unfold State.settle
  split
  · exact .single (.evaluateAdmission s now)
  · exact .refl

theorem finish_liftChanges (s : State) (now : TimeTag) : LiftChanges s (s.finish now) :=
  (settle_liftChanges s now).trans (transmit_untouched _).liftChanges

theorem openCycle_liftChanges (s : State) (now : TimeTag) : LiftChanges s (s.openCycle now) := by
  unfold State.openCycle
  extract_lets e a
  refine .trans (.trans (liftChanges_of_same (u := a.setProbes) rfl rfl) (foldl_liftChanges _ (fun u l => ?_) _ _))
    (settle_liftChanges _ now)
  split
  · exact .single (.renewCreep u l now)
  · exact .refl

theorem startCycle_liftChanges (s : State) (now : TimeTag) : LiftChanges s (s.startCycle now) := by
  have h := openCycle_liftChanges s now
  unfold State.startCycle
  extract_lets a
  have k := (takeFrom_untouched (a.scan.bank a.scan.active).descriptors a 0 now).liftChanges
  split
  next e => rw [e] at k; exact (h.trans k).trans (endCycle_untouched _ now).liftChanges
  next e => rw [e] at k; exact h.trans k

theorem advance_liftChanges (s : State) (i : Nat) (now : TimeTag) : LiftChanges s (s.advance i now) := by
  have k := (takeFrom_untouched ((s.scan.bank s.scan.active).descriptors.drop i) s i now).liftChanges
  unfold State.advance
  split
  next u e =>
    rw [e] at k
    have hu := k.trans (endCycle_untouched u now).liftChanges
    dsimp only
    split
    · exact hu.trans (startCycle_liftChanges _ now)
    · exact hu
  next e => rw [e] at k; exact k

theorem endWork_liftChanges (s : State) (start : TimeTag) (gap : Nat) (now : TimeTag) :
    LiftChanges s (s.endWork start gap now) := by
  unfold State.endWork
  split
  · exact advance_liftChanges s _ now
  · exact (setPhase_untouched s _).liftChanges

theorem expireGap_liftChanges (s : State) (now : TimeTag) : LiftChanges s (s.expireGap now) := by
  unfold State.expireGap
  split
  · split
    · exact advance_liftChanges s _ now
    · exact .refl
  · exact .refl

theorem expireCycle_liftChanges (s : State) (now : TimeTag) : LiftChanges s (s.expireCycle now) := by
  unfold State.expireCycle
  split
  · split
    · exact startCycle_liftChanges s now
    · exact .refl
  · exact .refl

theorem goOn_liftChanges (s : State) (g : GoingOn) (start : TimeTag) (gap : Nat) (now : TimeTag) :
    LiftChanges s (s.goOn g start gap now) := by
  cases g with
  | ended => exact endWork_liftChanges s start gap now
  | retry d asked n => exact (tryPoll_untouched s d asked n start gap).liftChanges
  | confirm d f lane => exact (confirmPoll_untouched s d f lane start gap).liftChanges

/-! ### What an exchange brings -/

theorem takeReport_liftChanges (s : State) (l : Lift) (src : Nat) (p : List Word) (r : Report) (now : TimeTag) :
    LiftChanges s (s.takeReport l src p r now) := by
  have hc : Untouched s ((s.offerCopy l p r).transmit) := (offerCopy_untouched s l p r).trans (transmit_untouched _)
  unfold State.takeReport
  split
  · exact .refl
  next hd =>
    have hs : (s.lift l).state ≠ .excluded := fun h => hd (by simp [State.discardsReport, h])
    rw [← hc.lift l] at hs
    exact (hc.liftChanges.tail (.report _ l _ r _ now hs)).trans (settle_liftChanges _ now)

theorem takePower_liftChanges (s : State) (p : List Word) (now : TimeTag) : LiftChanges s (s.takePower p now) := by
  unfold State.takePower
  dsimp only
  split <;> exact liftChanges_of_same rfl rfl

theorem takeHazard_liftChanges (s : State) (p : List Word) (now : TimeTag) : LiftChanges s (s.takeHazard p now) := by
  unfold State.takeHazard
  extract_lets zones changed a b
  have h : LiftChanges s b := .trans (liftChanges_of_same (u := a) rfl rfl)
    (foldl_liftChanges _ (fun u l => .single (.hazardReplan u changed now l)) allLifts a)
  split
  · exact h.trans (callAdmission_untouched b).liftChanges
  · exact h

theorem useSend_liftChanges (s : State) (l : Lift) (o : Order) (now : TimeTag) : LiftChanges s (s.useSend l o now) := by
  unfold State.useSend
  split
  · exact (setSlot_untouched s l none).liftChanges.tail (.deliver _ l _ _ now)
  · exact (setSlot_untouched s l _).liftChanges

theorem orderOutcome_liftChanges (s : State) (l : Lift) (tag : BitVec 4) (out : EchoOutcome) (now : TimeTag) :
    LiftChanges s (s.orderOutcome l tag out now) := by
  unfold State.orderOutcome
  split
  · split
    · cases out with
      | echo t refused =>
        dsimp only
        split
        · exact (setSlot_untouched s l none).liftChanges.tail (.deliver _ l _ _ now)
        · exact useSend_liftChanges s l _ now
      | silent => exact useSend_liftChanges s l _ now
    · exact .refl
  · exact .refl

theorem liftReply_liftChanges (s : State) (d : Descriptor) (r : Reply) (now : TimeTag) :
    LiftChanges s (s.liftReply d r now).1 := by
  unfold State.liftReply
  split
  · dsimp only
    split
    · exact .refl
    · exact takeReport_liftChanges s _ _ _ _ now
  · exact .refl

theorem jobReply_liftChanges (s : State) (job : Job) (r : Reply) (now : TimeTag) :
    LiftChanges s (s.jobReply job r now).1 := by
  have hs : ∀ u, LiftChanges s u → LiftChanges s (u.settle now) := fun u h => h.trans (settle_liftChanges u now)
  unfold State.jobReply
  cases job with
  | poll d asked left =>
    dsimp only
    split
    · refine hs _ ?_
      split
      · exact takePower_liftChanges s _ now
      · exact .refl
    · refine hs _ ?_
      split
      · exact takeHazard_liftChanges s _ now
      · exact .refl
    · exact liftReply_liftChanges s d r now
  | confirm d first =>
    dsimp only
    split
    · exact takeReport_liftChanges s _ _ _ _ now
    · exact .refl
  | abandoned => exact .refl
  | order l tag => exact hs _ (orderOutcome_liftChanges s l tag _ now)
  | command node => exact (commandReply_untouched s _).liftChanges

theorem pollMissed_liftChanges (s : State) (d : Descriptor) (asked : Lane) (left : Nat) (now : TimeTag) :
    LiftChanges s (s.pollMissed d asked left now).1 := by
  unfold State.pollMissed
  split
  · exact .refl
  · cases left with
    | succ n => exact .refl
    | zero =>
      dsimp only
      split
      · exact .trans (.single (.unansweredPoll s _ now)) (settle_liftChanges _ now)
      · exact .refl

theorem jobMissed_liftChanges (s : State) (job : Job) (now : TimeTag) : LiftChanges s (s.jobMissed job now).1 := by
  unfold State.jobMissed
  cases job with
  | poll d asked left => exact pollMissed_liftChanges s d asked left now
  | confirm d first =>
    dsimp only
    split
    · exact takeReport_liftChanges s _ _ _ _ _
    · exact .refl
  | abandoned => exact .refl
  | order l tag => exact (orderOutcome_liftChanges s l tag _ now).trans (settle_liftChanges _ now)
  | command node => exact (makeReply_untouched s _ _).liftChanges

theorem endExchange_liftChanges (s : State) (x : Exchange) (valid : Bool) (k : State → Job → State × GoingOn)
    (now : TimeTag) (hk : ∀ job, LiftChanges s (k s job).1) : LiftChanges s (s.endExchange x valid k now) := by
  unfold State.endExchange
  split
  · exact ((closeExchange_untouched s x valid).trans (sendAllStop_untouched _)).liftChanges
  · split
    next start gap job _ =>
      exact ((hk job).trans (closeExchange_untouched _ x valid).liftChanges).trans (goOn_liftChanges _ _ start gap now)
    · exact (closeExchange_untouched s x valid).liftChanges

theorem ringFrame_liftChanges (s : State) (kind : ReplyKind) (r : Reply) (now : TimeTag) :
    LiftChanges s (s.ringFrame kind r now) := by
  unfold State.ringFrame
  split
  · split
    · exact endExchange_liftChanges s _ true _ now fun job => jobReply_liftChanges s job r now
    · exact .refl
  · exact .refl

theorem closeWindow_liftChanges (s : State) (now : TimeTag) : LiftChanges s (s.closeWindow now) := by
  unfold State.closeWindow
  split
  · split
    · exact endExchange_liftChanges s _ false _ now fun job => jobMissed_liftChanges s job now
    · exact .refl
  · exact .refl

/-! ### Expiries and arrivals -/

theorem expirePower_liftChanges (s : State) (now : TimeTag) : LiftChanges s (s.expirePower now) := by
  unfold State.expirePower
  split
  · exact liftChanges_of_same rfl rfl
  · exact .refl

/-- The frame of every command: the time, what it does, the evaluation owed and the transmitter. -/
theorem command_liftChanges {s u : State} {t : TimeTag} (h : LiftChanges (s.atTime t) u) :
    LiftChanges s (u.finish t) := ((atTime_untouched s t).liftChanges.trans h).trans (finish_liftChanges u t)

theorem replyArrives_liftChanges (s : State) (kind : ReplyKind) (r : Reply) (t : TimeTag) :
    LiftChanges s (s.replyArrives kind r t) := command_liftChanges (ringFrame_liftChanges _ kind r t)

theorem ringWords_liftChanges (s : State) (lane : Lane) (ws : List Word) (whole : Bool) (t : TimeTag) :
    LiftChanges s (s.ringWords lane ws whole t) := by
  unfold State.ringWords
  split
  · split
    · exact replyArrives_liftChanges s _ _ t
    · exact (atTime_untouched s t).liftChanges
  · exact (atTime_untouched s t).liftChanges

theorem remoteArrives_liftChanges (s : State) (c : RemoteCommand) (t : TimeTag) :
    LiftChanges s (s.remoteArrives c t) := by
  unfold State.remoteArrives
  split
  · exact (atTime_untouched s t).liftChanges
  · exact command_liftChanges ((arrive_untouched _ t).trans (takeRemote_untouched _ c)).liftChanges

/-! ### Management requests -/

theorem paramStored_liftChanges (s : State) (n old new : Nat) (now : TimeTag) :
    LiftChanges s (s.paramStored n old new now) := by
  unfold State.paramStored
  extract_lets a b c d
  have ha : LiftChanges s a := by
    unfold a State.floorWritten
    split
    · split
      · exact (raiseStation_untouched s _).liftChanges
      · exact .refl
    · exact .refl
  have hb : LiftChanges a b := by
    unfold b
    split
    · exact expirePower_liftChanges a now
    · exact .refl
  have hc : LiftChanges b c := by
    unfold c
    split
    · exact (expireSilence_untouched b now).liftChanges
    · exact .refl
  have hd : LiftChanges s d := ((ha.trans hb).trans hc).tail (.evaluateAdmission c now)
  split
  · exact hd.trans (expireCycle_liftChanges d now)
  · exact hd

theorem writeParameter_liftChanges (s : State) (n : Nat) (ws : List Word) (now : TimeTag) :
    LiftChanges s (s.writeParameter n ws now).1 := by
  unfold State.writeParameter
  split
  · exact .refl
  · exact .refl
  · split
    · exact .refl
    · refine .trans ?_ (paramStored_liftChanges _ _ _ _ now)
      exact liftChanges_of_same rfl rfl

theorem writeEntry_liftChanges (s : State) (tb : Table) (i : Nat) (ws : List Word) (now : TimeTag) :
    LiftChanges s (s.writeEntry tb i ws now).1 := by
  cases tb with
  | lift => exact .single (.writeLift s i ws)
  | landings => exact .single (.writeLandings s i ws)
  | faultClass => exact liftChanges_of_same (writeFaultClass_lifts s i ws).1 (writeFaultClass_lifts s i ws).2
  | scan => exact liftChanges_of_same (writeScan_lifts s i ws).1 (writeScan_lifts s i ws).2
  | recipe => exact liftChanges_of_same (writeRecipe_lifts s i ws).1 (writeRecipe_lifts s i ws).2
  | parameters => exact writeParameter_liftChanges s i ws now

theorem takeScanSwap_liftChanges (s : State) (now : TimeTag) : LiftChanges s (s.takeScanSwap now) := by
  have hs : LiftChanges s s.swapScan := (swapScan_untouched s).liftChanges
  unfold State.takeScanSwap
  split
  · exact hs.trans (startCycle_liftChanges _ now)
  · split
    · exact hs
    · exact liftChanges_of_same rfl rfl

theorem requestSwap_liftChanges (s : State) (sel : Nat) (now : TimeTag) : LiftChanges s (s.requestSwap sel now).1 := by
  have hr : LiftChanges s s.swapRecipe := liftChanges_of_same rfl rfl
  unfold State.requestSwap
  split
  · unfold State.requestSwapScan
    split
    · exact .refl
    · exact takeScanSwap_liftChanges s now
  · exact hr
  · unfold State.requestSwapBoth
    split
    · exact .refl
    · exact hr.trans (takeScanSwap_liftChanges _ now)
  · exact .refl

theorem control_liftChanges (s : State) (n : Nat) (a : Action) (now : TimeTag) :
    LiftChanges s (s.control n a now).1 := by
  unfold State.control
  split
  · exact .refl
  next l _ =>
    split
    next ha => exact .single (.act s l a now ha)
    · exact .refl

theorem liftControl_liftChanges (s : State) (n : Nat) (later : List Word) (now : TimeTag) :
    LiftChanges s (s.liftControl n later now).1 := by
  unfold State.liftControl
  split
  · exact .refl
  · split
    · exact control_liftChanges s n _ now
    · split <;> exact .refl

theorem beginRestart_liftChanges (s : State) : LiftChanges s s.beginRestart := by
  unfold State.beginRestart
  dsimp only
  split <;> exact liftChanges_of_same rfl rfl

theorem restartCycle_liftChanges (s : State) (now : TimeTag) : LiftChanges s (s.restartCycle now) := by
  cases hv : (s.scan.bank s.scan.active).valid
  · rw [restartCycle_of_invalid s now hv]
    exact liftChanges_of_same rfl rfl
  · rw [restartCycle_of_valid s now hv]
    refine .trans ?_ (startCycle_liftChanges _ now)
    exact liftChanges_of_same rfl rfl

theorem endAllStop_liftChanges (s : State) (now : TimeTag) : LiftChanges s (s.endAllStop now) := by
  unfold State.endAllStop
  split
  · exact .trans (.single (.restartClear s)) (restartCycle_liftChanges _ now)
  · exact .refl

theorem serve_liftChanges (s : State) (r : Request) (held : Option Prefix) (now : TimeTag) :
    LiftChanges s (s.serve r held now).1 := by
  unfold State.serve
  cases r with
  | identify => exact .refl
  | storePrefix tb i ws =>
    dsimp only
    unfold State.takePrefix
    split
    · exact .refl
    · exact liftChanges_of_same rfl rfl
  | write tb i ws => exact writeEntry_liftChanges s tb _ _ now
  | read tb i later => dsimp only; rw [readEntry_state]
  | swap sel => exact requestSwap_liftChanges s _ now
  | readContext l later => dsimp only; rw [readContext_state]
  | liftControl l later => exact liftControl_liftChanges s _ later now
  | control l a => exact control_liftChanges s _ a now
  | extendStep l later => exact .single (.extendStep s _ later)
  | restart => exact beginRestart_liftChanges s
  | unknown c => exact .refl
  | empty => exact .refl

theorem agentTakes_liftChanges (s : State) (r : Request) (now : TimeTag) : LiftChanges s (s.agentTakes r now) := by
  have hc : LiftChanges s (s.consume r) := liftChanges_of_same rfl rfl
  rcases agentTakes_cases s r now with ⟨-, e⟩ | ⟨-, e⟩ <;> rw [e]
  · exact hc.tail (.same rfl rfl)
  · exact (hc.trans (serve_liftChanges _ r _ now)).tail (.same rfl rfl)

theorem takeRequest_liftChanges (s : State) (r : Request) (n : Nat) (t : TimeTag) :
    LiftChanges s (s.takeRequest r n t) := by
  have ha := (arrive_untouched (s.atTime t) t).liftChanges
  rcases takeRequest_cases s r n t with ⟨-, e⟩ | ⟨-, -, e⟩ | ⟨-, -, e⟩ <;> rw [e]
  · exact (atTime_untouched s t).liftChanges
  · exact command_liftChanges ha
  · exact command_liftChanges (ha.trans (agentTakes_liftChanges _ r t))

theorem requestArrives_liftChanges (s : State) (d : BitVec 6) (p : List Word) (t : TimeTag) :
    LiftChanges s (s.requestArrives d p t) := by
  unfold State.requestArrives
  split
  · exact takeRequest_liftChanges s _ _ t
  · split
    · exact (atTime_untouched s t).liftChanges
    · exact command_liftChanges (arrive_untouched _ t).liftChanges

theorem routeKind_liftChanges (s : State) (f : Frame) (now : TimeTag) : LiftChanges s (s.routeKind f now) := by
  unfold State.routeKind
  split
  · split
    · unfold State.routeRequest
      split
      · exact .refl
      · exact agentTakes_liftChanges s _ now
    · exact .refl
  · split
    · exact (takeRemote_untouched s _).liftChanges
    · exact .refl

theorem linkWords_liftChanges (s : State) (ws : List Word) (whole : Bool) (t : TimeTag) :
    LiftChanges s (s.linkWords ws whole t) := by
  unfold State.linkWords
  split
  · exact command_liftChanges ((arrive_untouched _ t).liftChanges.trans (routeKind_liftChanges _ _ t))
  · exact (atTime_untouched s t).liftChanges

/-! ### Whole commands -/

theorem exec_liftChanges {c : Instr} {s u : State} (he : exec c s = .next u) : LiftChanges s u := by
  cases c
  case powerOnReset => cases he; exact .tail (.single (.reset s)) (.same rfl rfl)
  case allStopSendEnd t => cases he; exact command_liftChanges (endAllStop_liftChanges _ t)
  case managementRequestDiscard t d p => cases he; exact requestArrives_liftChanges s d p t
  case linkFrameDiscard t ws b => cases he; exact linkWords_liftChanges s ws b t
  case remoteCommand t d p => cases he; exact remoteArrives_liftChanges s _ t
  case exchangeSendEnd t => cases he; exact command_liftChanges (sendEnd_untouched _ t).liftChanges
  case statusReport t r => cases he; exact replyArrives_liftChanges s _ r t
  case powerReport t r => cases he; exact replyArrives_liftChanges s _ r t
  case hazardReport t r => cases he; exact replyArrives_liftChanges s _ r t
  case orderEcho t r => cases he; exact replyArrives_liftChanges s _ r t
  case commandReply t r => cases he; exact replyArrives_liftChanges s _ r t
  case replyWindowClose t => cases he; exact command_liftChanges (closeWindow_liftChanges _ t)
  case ringFrameDiscard t lane ws b => cases he; exact ringWords_liftChanges s lane ws b t
  case descriptorGapExpiry t => cases he; exact command_liftChanges (expireGap_liftChanges _ t)
  case cycleStart t => cases he; exact command_liftChanges (expireCycle_liftChanges _ t)
  case stepTimerExpiry t l => cases he; exact command_liftChanges (.single (.expireStep _ l t))
  case powerStaleExpiry t => cases he; exact command_liftChanges (expirePower_liftChanges _ t)
  case silenceExpiry t => cases he; exact command_liftChanges (expireSilence_untouched _ t).liftChanges
  case transmitEnd t => cases he; exact command_liftChanges (link_untouched _ _).liftChanges
  all_goals cases he; exact takeRequest_liftChanges s _ _ _

/-- Every step is a chain of the operations named; an idle step is none. -/
theorem step_liftChanges {s u : State} (he : step s = .next u) : LiftChanges s u := by
  unfold step at he
  split at he
  · cases he
    exact .refl
  next c cs _ => exact .trans (liftChanges_of_same (s := s) (u := { s with pending := cs }) rfl rfl) (exec_liftChanges he)

end Sys2Proof.Machine
end

section
/-! The cars in their shafts (R38, R39, R41, R46) under each operation on lift contexts. -/

namespace Sys2Proof.Machine

open Slice0

/-! ### What keeps a car in its shaft -/

/-- A context with the table entry, the Landing List and the position of another, in EXCLUDED only if that one is. -/
abbrev SameShaft (c d : LiftContext) : Prop :=
  d.entry = c.entry ∧ d.landings = c.landings ∧ d.pos = c.pos ∧ (d.state = .excluded → c.state = .excluded)

/-- `u` differs from `s` in no table entry, Landing List or position, and takes no lift out of service. -/
abbrev ShaftFrame (s u : State) : Prop := ∀ k : Lift, SameShaft (s.lift k) (u.lift k)

theorem sameShaft_inShaft {c d : LiftContext} (h : SameShaft c d) (hc : c.InShaft) : d.InShaft := by
  obtain ⟨he, hl, hp, hx⟩ := h
  obtain ⟨h1, h2, h3, h4⟩ := hc
  rw [LiftContext.InShaft, he, hl, hp]
  exact ⟨h1, h2, h3, h4 ∘ hx⟩

namespace ShaftFrame

theorem refl (s : State) : ShaftFrame s s := fun _ => ⟨rfl, rfl, rfl, id⟩

theorem trans {s u v : State} (h : ShaftFrame s u) (k : ShaftFrame u v) : ShaftFrame s v := fun i => by
  obtain ⟨h1, h2, h3, h4⟩ := h i
  obtain ⟨k1, k2, k3, k4⟩ := k i
  exact ⟨k1.trans h1, k2.trans h2, k3.trans h3, h4 ∘ k4⟩

theorem carsInShaft {s u : State} (h : ShaftFrame s u) (hs : s.CarsInShaft) : u.CarsInShaft := fun k =>
  sameShaft_inShaft (h k) (hs k)

theorem of_same {s u : State} (h : u.lifts = s.lifts) : ShaftFrame s u := fun k => by
  show SameShaft (s.lifts.get k) (u.lifts.get k)
  rw [h]
  exact ⟨rfl, rfl, rfl, id⟩

/-- One context replaced. -/
theorem of_lift {s u : State} {l : Lift} {c : LiftContext} (h : ∀ k, u.lift k = if k = l then c else s.lift k)
    (hc : SameShaft (s.lift l) c) : ShaftFrame s u := fun k => by
  rw [h k]
  split
  next hk => exact hk ▸ hc
  · exact ⟨rfl, rfl, rfl, id⟩

end ShaftFrame

theorem setLift_shaftFrame (s : State) (l : Lift) {c : LiftContext} (h : SameShaft (s.lift l) c) :
    ShaftFrame s (s.setLift l c) := .of_lift (fun k => lift_setLift s l k c) h

theorem moved_shaftFrame (s : State) (l : Lift) {c : LiftContext} (h : SameShaft (s.lift l) c) :
    ShaftFrame s (moved s l c) := .of_lift (fun k => lift_moved s l k c) h

theorem left_shaftFrame (s : State) (l : Lift) : ShaftFrame s (left s l) := fun k => by
  rw [lift_left]
  exact ⟨rfl, rfl, rfl, id⟩

theorem StepFrame.shaftFrame {l : Lift} {s u : State} (h : StepFrame l s u) : ShaftFrame s u := fun k => by
  by_cases hk : k = l
  · subst hk
    rw [h.context]
    exact ⟨rfl, rfl, rfl, id⟩
  · rw [h.lift_other k hk]
    exact ⟨rfl, rfl, rfl, id⟩

/-! ### Entries into rescue states -/

theorem enter_shaftFrame (s : State) (l : Lift) {st : RescueState} (h : st ≠ .excluded) :
    ShaftFrame s (s.enter l st) := by
  rw [enter_eq_moved]
  exact moved_shaftFrame s l ⟨rfl, rfl, rfl, fun hx => absurd hx h⟩

theorem enterNormal_shaftFrame (s : State) (l : Lift) : ShaftFrame s (s.enterNormal l) := by
  rw [enterNormal_eq]
  exact (left_shaftFrame s l).trans (moved_shaftFrame _ l (by rw [lift_left]; exact ⟨rfl, rfl, rfl, nofun⟩))

theorem enterManual_shaftFrame (s : State) (l : Lift) (why : ManualReason) : ShaftFrame s (s.enterManual l why) := by
  rw [enterManual_eq]
  exact (left_shaftFrame s l).trans (moved_shaftFrame _ l (by rw [lift_left]; exact ⟨rfl, rfl, rfl, nofun⟩))

theorem enterQueued_shaftFrame (s : State) (l : Lift) (now : TimeTag) : ShaftFrame s (s.enterQueued l now) := by
  rw [enterQueued_eq]
  exact (moved_shaftFrame s l (by exact ⟨rfl, rfl, rfl, nofun⟩)).trans (.of_same rfl)

theorem enterReleased_shaftFrame (s : State) (l : Lift) : ShaftFrame s (s.enterReleased l) := by
  have h : ShaftFrame s (moved s l { s.lift l with state := .released, rescue := none }) :=
    moved_shaftFrame s l (by exact ⟨rfl, rfl, rfl, nofun⟩)
  obtain ⟨u, rfl, e | e⟩ := enterReleased_cases s l <;> rw [e]
  · exact h
  · exact h.trans (.of_same rfl)

theorem planStalled_shaftFrame (s : State) (l : Lift) (now : TimeTag) : ShaftFrame s (s.planStalled l now) := by
  have h := (runPlanner_stepFrame s l now).shaftFrame
  unfold State.planStalled
  dsimp only
  split
  · exact h
  · split
    · exact h.trans (enterQueued_shaftFrame _ l now)
    · exact h.trans (enterManual_shaftFrame _ l _)

theorem evaluateStalled_shaftFrame (s : State) (l : Lift) (now : TimeTag) : ShaftFrame s (s.evaluateStalled l now) := by
  unfold State.evaluateStalled
  split
  · split
    · exact enterNormal_shaftFrame s l
    · split
      · exact enterManual_shaftFrame s l _
      · exact planStalled_shaftFrame s l now
  · exact planStalled_shaftFrame s l now

theorem enterStalled_shaftFrame (s : State) (l : Lift) (now : TimeTag) : ShaftFrame s (s.enterStalled l now) :=
  (enter_shaftFrame s l (by decide)).trans (evaluateStalled_shaftFrame _ l now)

theorem replanQueued_shaftFrame (s : State) (l : Lift) (now : TimeTag) : ShaftFrame s (s.replanQueued l now) := by
  have h := (runPlanner_stepFrame s l now).shaftFrame
  unfold State.replanQueued
  dsimp only
  split
  · exact h.trans (enterManual_shaftFrame _ l _)
  · split
    · exact h
    · exact h.trans (.of_same rfl)

/-! ### Executions and grants -/

theorem dropExecution_shaftFrame (s : State) (l : Lift) : ShaftFrame s (s.dropExecution l) := by
  cases h : (s.lift l).rescue with
  | none =>
    unfold State.dropExecution
    rw [h]
    exact .refl s
  | some r =>
    rw [dropExecution_eq s l r h]
    exact (setLift_shaftFrame s l (by exact ⟨rfl, rfl, rfl, id⟩)).trans (.of_same rfl)

theorem endRetry_shaftFrame (s : State) (l : Lift) (now : TimeTag) : ShaftFrame s (s.endRetry l now) := by
  unfold State.endRetry
  split
  · exact (setLift_shaftFrame s l (by exact ⟨rfl, rfl, rfl, id⟩)).trans (enterStalled_shaftFrame _ l now)
  · exact enterManual_shaftFrame s l _

theorem endAs_shaftFrame (s : State) (l : Lift) (why : Ending) (aborted : Bool) (now : TimeTag) :
    ShaftFrame s (s.endAs l why aborted now) := by
  unfold State.endAs
  cases why with
  | reached outcome =>
    cases aborted with
    | true => exact enterManual_shaftFrame s l _
    | false =>
      cases outcome with
      | released => exact enterReleased_shaftFrame s l
      | retry => exact endRetry_shaftFrame s l now
      | manual => exact enterManual_shaftFrame s l _
  | stepLimit => exact enterManual_shaftFrame s l _
  | safety => exact .trans (u := s.postPartStop l) (.of_same rfl) (enterManual_shaftFrame _ l _)
  | lostContact => exact .trans (u := s.setSlot l none) (.of_same rfl) (enterManual_shaftFrame _ l _)

theorem endExecution_shaftFrame (s : State) (l : Lift) (why : Ending) (now : TimeTag) :
    ShaftFrame s (s.endExecution l why now) := by
  rw [endExecution_eq]
  exact ((dropExecution_shaftFrame s l).trans (endAs_shaftFrame _ l why _ now)).trans (.of_same rfl)

theorem RunsOrEnds.shaftFrame {l : Lift} {now : TimeTag} {s u : State} (h : RunsOrEnds l now s u) : ShaftFrame s u := by
  rcases h with h | ⟨v, why, h, -, rfl⟩
  · exact h.shaftFrame
  · exact h.shaftFrame.trans (endExecution_shaftFrame v l why now)

/-- A grant puts one lift into RESCUING and changes queue data of others only (R84). -/
theorem beginRescue_shaftFrame (s : State) (l : Lift) (passed : List Lift) :
    ShaftFrame s (s.beginRescue l passed) := fun k => by
  by_cases hk : k = l
  · subst hk
    rw [lift_beginRescue_same]
    exact ⟨rfl, rfl, rfl, nofun⟩
  · obtain ⟨q, e, -⟩ := foldl_raiseBypass_context (s.dequeue l) passed k
    rw [lift_beginRescue_other s passed hk, e, lift_dequeue, if_neg hk]
    exact ⟨rfl, rfl, rfl, id⟩

theorem walks_shaftFrame (n : Nat) (s : State) (now : TimeTag) : ShaftFrame s (State.walks n s now) := by
  induction n generalizing s with
  | zero => exact .refl s
  | succ n ih =>
    unfold State.walks
    split
    · split
      · exact ((beginRescue_shaftFrame s _ _).trans (startStep_runsOrEnds _ _ _ now).shaftFrame).trans (ih _)
      · exact .refl s
    · exact .refl s

theorem evaluateAdmission_shaftFrame (s : State) (now : TimeTag) : ShaftFrame s (s.evaluateAdmission now) :=
  (walks_shaftFrame s.walkBound s now).trans (.of_same rfl)

/-! ### Reports, unanswered polls, hazards, lift control -/

theorem debounce_shaftFrame (s : State) (l : Lift) (n : Nat) (now : TimeTag) : ShaftFrame s (s.debounce l n now) := by
  have h : ShaftFrame s (s.modLift l fun c => { c with suspectCount := n }) :=
    setLift_shaftFrame s l (by exact ⟨rfl, rfl, rfl, id⟩)
  unfold State.debounce
  dsimp only
  split
  · exact h.trans ((setLift_shaftFrame _ l (by exact ⟨rfl, rfl, rfl, id⟩)).trans (enterStalled_shaftFrame _ l now))
  · exact h.trans (enter_shaftFrame _ l (by decide))

theorem reportNormal_shaftFrame (s : State) (l : Lift) (v : Verdict) (now : TimeTag) :
    ShaftFrame s (s.reportNormal l v now) := by
  unfold State.reportNormal
  split
  · exact debounce_shaftFrame s l _ now
  · exact .refl s

theorem reportSuspect_shaftFrame (s : State) (l : Lift) (v : Verdict) (now : TimeTag) :
    ShaftFrame s (s.reportSuspect l v now) := by
  unfold State.reportSuspect
  split
  · exact debounce_shaftFrame s l _ now
  · exact enterNormal_shaftFrame s l

theorem reportQueued_shaftFrame (s : State) (l : Lift) (v : Verdict) (now : TimeTag) :
    ShaftFrame s (s.reportQueued l v now) := by
  unfold State.reportQueued
  split
  · exact enterNormal_shaftFrame s l
  · split
    · exact enterManual_shaftFrame s l _
    · exact replanQueued_shaftFrame s l now

theorem reportRescuing_shaftFrame (s : State) (l : Lift) (v : Verdict) (r : Report) (now : TimeTag) :
    ShaftFrame s (s.reportRescuing l v r now) := by
  unfold State.reportRescuing
  split
  · exact endExecution_shaftFrame s l _ now
  · exact (stepReport_runsOrEnds s l r now).shaftFrame

theorem reportReleased_shaftFrame (s : State) (l : Lift) (v : Verdict) (r : Report) (before : Option Nat) :
    ShaftFrame s (s.reportReleased l v r before) := by
  have he : ∀ p : Prop, [Decidable p] → ShaftFrame s (if p then raised s (l.val + 1) 8 else s) := fun p _ => by
    split
    · exact .of_same rfl
    · exact .refl s
  rw [reportReleased_eq s l v r before rfl]
  split
  · exact (he _).trans (enterNormal_shaftFrame _ l)
  · exact he _

theorem reportManual_shaftFrame (s : State) (l : Lift) (v : Verdict) (r : Report) :
    ShaftFrame s (s.reportManual l v r) := by
  unfold State.reportManual
  split
  · exact enterNormal_shaftFrame s l
  · exact .refl s

theorem reportOffline_shaftFrame (s : State) (l : Lift) (v : Verdict) (r : Report) (before : Option Nat)
    (now : TimeTag) : ShaftFrame s (s.reportOffline l v r before now) := by
  have h : ShaftFrame s (s.modLift l fun c => { c with beforeOffline := none }) :=
    setLift_shaftFrame s l (by exact ⟨rfl, rfl, rfl, id⟩)
  have hn := h.trans ((enterNormal_shaftFrame _ l).trans (reportNormal_shaftFrame _ l v now))
  have hs := h.trans (enterStalled_shaftFrame _ l now)
  unfold State.reportOffline
  dsimp only
  split
  · exact h.trans ((enter_shaftFrame _ l (by decide)).trans (reportManual_shaftFrame _ l v r))
  · exact h.trans ((enter_shaftFrame _ l (by decide)).trans (reportReleased_shaftFrame _ l v r before))
  · split
    · exact hs
    · exact hn
  · split
    · exact hs
    · exact hn
  · exact hn

theorem reportByState_shaftFrame (s : State) (l : Lift) (v : Verdict) (r : Report) (before : Option Nat)
    (now : TimeTag) : ShaftFrame s (s.reportByState l v r before now) := by
  unfold State.reportByState
  cases (s.lift l).state with
  | excluded => exact .refl s
  | normal => exact reportNormal_shaftFrame s l v now
  | suspect => exact reportSuspect_shaftFrame s l v now
  | stalled => exact evaluateStalled_shaftFrame s l now
  | queued => exact reportQueued_shaftFrame s l v now
  | rescuing => exact reportRescuing_shaftFrame s l v r now
  | released => exact reportReleased_shaftFrame s l v r before
  | manual => exact reportManual_shaftFrame s l v r
  | offline => exact reportOffline_shaftFrame s l v r before now

theorem unansweredPoll_shaftFrame (s : State) (l : Lift) (now : TimeTag) : ShaftFrame s (s.unansweredPoll l now) := by
  obtain ⟨hexcluded, hbelow, hat⟩ := unansweredPollsAreCounted s l now _ _ _ rfl rfl rfl
  have hcount : ShaftFrame s (s.setLift l { s.lift l with unanswered := min 15 ((s.lift l).unanswered + 1) }) :=
    setLift_shaftFrame s l (by exact ⟨rfl, rfl, rfl, id⟩)
  by_cases he : (s.lift l).state = .excluded
  · rw [hexcluded he]
    exact .refl s
  by_cases hn : min 15 ((s.lift l).unanswered + 1) < s.params.offlineLimit
  · rw [hbelow he hn]
    exact hcount
  obtain ⟨hoffline, hrescuing, helse⟩ := hat he (Nat.not_lt.mp hn)
  by_cases ho : (s.lift l).state = .offline
  · rw [hoffline ho]
    exact hcount
  by_cases hr : (s.lift l).state = .rescuing
  · rw [hrescuing hr]
    exact hcount.trans (endExecution_shaftFrame _ l _ now)
  · rw [helse ho hr]
    exact (left_shaftFrame s l).trans (moved_shaftFrame _ l (by rw [lift_left]; exact ⟨rfl, rfl, rfl, nofun⟩))

theorem hazardReplan_shaftFrame (s : State) (changed : BitVec 32) (now : TimeTag) (l : Lift) :
    ShaftFrame s (s.hazardReplan changed now l) := by
  unfold State.hazardReplan
  split
  · split
    · exact evaluateStalled_shaftFrame s l now
    · exact replanQueued_shaftFrame s l now
    · exact (replanRescuing_runsOrEnds s l now).shaftFrame
    · exact .refl s
  · exact .refl s

theorem act_shaftFrame (s : State) (l : Lift) (a : Action) (now : TimeTag) : ShaftFrame s (s.act l a now) := by
  cases a with
  | hold =>
    by_cases hq : (s.lift l).state = .queued
    · rw [State.act, holdLift_of_queued s l now hq]
      exact ((left_shaftFrame s l).trans (moved_shaftFrame _ l (by rw [lift_left]; exact ⟨rfl, rfl, rfl, nofun⟩))).trans
        (evaluateStalled_shaftFrame _ l now)
    · rw [State.act, holdLift_of_not_queued s l now hq]
      exact setLift_shaftFrame s l (by exact ⟨rfl, rfl, rfl, id⟩)
  | release =>
    have h : ShaftFrame s (s.modLift l fun c => { c with hold := false }) := setLift_shaftFrame s l (by exact ⟨rfl, rfl, rfl, id⟩)
    unfold State.act State.releaseLift
    dsimp only
    split
    · exact h.trans (evaluateStalled_shaftFrame _ l now)
    · exact h
  | abort => exact (abortExecution_runsOrEnds s l now).shaftFrame
  | forceManual => exact enterManual_shaftFrame s l _
  | clear => exact enterNormal_shaftFrame s l

theorem extendStep_shaftFrame (s : State) (i : Nat) (later : List Word) : ShaftFrame s (s.extendStep i later).1 := by
  unfold State.extendStep
  split
  · exact .refl s
  · split
    · exact .refl s
    · split
      · exact (modCreep_stepFrame s _ _).shaftFrame
      · exact .refl s

/-! ### Reports move the position within the shaft -/

theorem storeReport_carsInShaft {s : State} {l : Lift} (r : Report) (now : TimeTag)
    (h : (s.lift l).state ≠ .excluded) (hs : s.CarsInShaft) : (s.storeReport l r now).CarsInShaft := fun k => by
  unfold State.storeReport
  rw [lift_modLift]
  split
  · obtain ⟨hpos, hasc, htop, -⟩ := hs l
    exact ⟨track_position_le _ r htop hpos, hasc, htop, fun hx => absurd hx h⟩
  · exact hs k

/-! ### Writes of LIFT and LANDINGS -/

/-- The landings of a list stand in ascending order (R38, R39). -/
abbrev Ascending (ls : List Landing) : Prop := ls.Pairwise fun a b => a.height < b.height

theorem topHeight_concat (ls : List Landing) (d : Landing) : topHeight (ls ++ [d]) = d.height := by simp [topHeight]

/-- No landing of an ascending list lies above its last. -/
theorem height_le_topHeight {ls : List Landing} (h : Ascending ls) : ∀ d ∈ ls, d.height ≤ topHeight ls := by
  rcases List.eq_nil_or_concat ls with rfl | ⟨init, last, rfl⟩
  · simp
  · rw [List.concat_eq_append] at h ⊢
    rw [topHeight_concat]
    obtain ⟨-, -, hlast⟩ := List.pairwise_append.mp h
    intro d hd
    rcases List.mem_append.mp hd with hd | hd
    · exact Nat.le_of_lt (hlast d hd last (List.mem_singleton_self last))
    · rw [List.mem_singleton.mp hd]

theorem ascending_concat {ls : List Landing} {d : Landing} (h : Ascending ls) (hd : ls = [] ∨ topHeight ls < d.height) :
    Ascending (ls ++ [d]) := by
  rcases hd with rfl | hd
  · simp [Ascending]
  · exact List.pairwise_append.mpr ⟨h, List.pairwise_singleton _ d, fun a ha b hb => by
      rw [List.mem_singleton.mp hb]
      exact Nat.lt_of_le_of_lt (height_le_topHeight h a ha) hd⟩

theorem decodeLandings_ascending {ws : List Word} {n : Nat} {ls : List Landing} (h : decodeLandings ws n = some ls) :
    Ascending ls := by
  induction n generalizing ls with
  | zero =>
    cases h
    exact .nil
  | succ n ih =>
    unfold decodeLandings at h
    split at h
    next below d hbelow _ =>
      split at h
      next hd =>
        cases h
        refine ascending_concat (ih hbelow) (hd.imp_left ?_)
        rintro rfl
        cases hbelow
        rfl
      · cases h
    · cases h

/-- A LANDINGS write that is accepted gives an ascending list within the shaft (R39). -/
theorem decodeLandingList_inShaft {top : Nat} {ws : List Word} {ls : List Landing}
    (h : decodeLandingList top ws = some ls) : Ascending ls ∧ ∀ d ∈ ls, d.height ≤ top := by
  unfold decodeLandingList at h
  split at h
  · cases h
  · split at h
    · cases h
    · obtain ⟨hls, htop⟩ := Option.filter_eq_some_iff.mp h
      have hasc := decodeLandings_ascending hls
      exact ⟨hasc, fun d hd => (height_le_topHeight hasc d hd).trans (of_decide_eq_true htop)⟩

theorem setLift_carsInShaft {s : State} {l : Lift} {c : LiftContext} (hs : s.CarsInShaft) (hc : c.InShaft) :
    (s.setLift l c).CarsInShaft := fun k => by
  rw [lift_setLift]
  split
  · exact hc
  · exact hs k

theorem storeLandings_carsInShaft {s : State} {l : Lift} {ls : List Landing} (hs : s.CarsInShaft)
    (hasc : Ascending ls) (htop : ∀ d ∈ ls, d.height ≤ (s.lift l).entry.shaftTop) :
    (s.storeLandings l ls).CarsInShaft := by
  obtain ⟨hpos, -, -, hout⟩ := hs l
  rw [storeLandings_eq]
  refine setLift_carsInShaft hs ?_
  split <;> exact ⟨hpos, hasc, htop, hout⟩

theorem writeLandings_carsInShaft {s : State} (i : Nat) (ws : List Word) (hs : s.CarsInShaft) :
    (s.writeLandings i ws).1.CarsInShaft := by
  unfold State.writeLandings
  split
  · exact hs
  · split
    · exact hs
    · split
      · exact hs
      next hls =>
        obtain ⟨hasc, htop⟩ := decodeLandingList_inShaft hls
        exact storeLandings_carsInShaft hs hasc htop

theorem fresh_inShaft (e : LiftEntry) (st : RescueState) {ls : List Landing} (hasc : Ascending ls)
    (htop : ∀ d ∈ ls, d.height ≤ e.shaftTop) : (fresh e ls st).InShaft := ⟨Nat.zero_le _, hasc, htop, fun _ => rfl⟩

theorem clampToTop_position_le (top : Nat) (p : Position) : (clampToTop top p).position ≤ top := by
  unfold clampToTop
  split
  · exact Nat.le_refl top
  next h => exact Nat.not_lt.mp h

/-- A rewritten context keeps its position but for the clamp of R46. -/
theorem rewritten_position (c : LiftContext) (e : LiftEntry) :
    (c.rewritten e).pos.position = c.pos.position ∧ c.entry.shaftTop ≤ e.shaftTop
    ∨ (c.rewritten e).pos.position ≤ e.shaftTop := by
  unfold LiftContext.rewritten
  extract_lets a b d
  have hb : b.pos.position = c.pos.position := by
    unfold b
    split <;> rfl
  have hd : d.pos.position = c.pos.position := by
    rw [← hb]
    unfold d
    split <;> rfl
  split
  · exact .inr (clampToTop_position_le _ _)
  next htop => exact .inl ⟨hd, Nat.not_lt.mp htop⟩

theorem rewritten_inShaft {c : LiftContext} {e : LiftEntry} (h : c.InShaft) (hs : c.state ≠ .excluded)
    (htop : ∀ d ∈ c.landings, d.height ≤ e.shaftTop) : (c.rewritten e).InShaft := by
  obtain ⟨hpos, hasc, -, -⟩ := h
  have hle : (c.rewritten e).pos.position ≤ e.shaftTop := by
    rcases rewritten_position c e with ⟨hp, ht⟩ | hp
    · exact hp ▸ hpos.trans ht
    · exact hp
  rw [rewritten_eq]
  exact ⟨hle, hasc, htop, fun hx => absurd hx hs⟩

/-- The written lift's context after an accepted LIFT write, in each of its four ways (R3, R7, R8). -/
theorem storeLift_inShaft {s : State} {l : Lift} {e : LiftEntry} (h : (s.lift l).InShaft)
    (htop : ∀ d ∈ (s.lift l).landings, d.height ≤ e.shaftTop) : ((s.storeLift l e).lift l).InShaft := by
  obtain ⟨hpos, hasc, hold, hout⟩ := h
  by_cases hs : (s.lift l).state = .excluded <;> cases he : e.inService
  · have hzero := hout hs
    rw [storeLift_stays_out s l e hs he, lift_setLift_same]
    exact ⟨hzero ▸ Nat.zero_le _, hasc, htop, fun _ => hzero⟩
  · rw [storeLift_enters s l e hs he]
    show ((s.setLift l _).lift l).InShaft
    rw [lift_setLift_same]
    exact fresh_inShaft e .normal hasc htop
  · rw [storeLift_leaves s l e hs he]
    show ((s.setLift l _).lift l).InShaft
    rw [lift_setLift_same]
    exact fresh_inShaft e .excluded hasc htop
  · rw [storeLift_stays_in s l e hs he, lift_rewrite, if_pos rfl]
    exact rewritten_inShaft ⟨hpos, hasc, hold, hout⟩ hs htop

theorem writeLift_carsInShaft {s : State} (i : Nat) (ws : List Word) (hs : s.CarsInShaft) :
    (s.writeLift i ws).1.CarsInShaft := by
  unfold State.writeLift
  split
  · exact hs
  next l _ =>
    split
    · exact hs
    · split
      · exact hs
      next e he =>
        obtain ⟨-, hok⟩ := Option.filter_eq_some_iff.mp he
        have htop : topHeight (s.lift l).landings ≤ e.shaftTop := by
          simp only [State.liftContentOk, Bool.and_eq_true, decide_eq_true_eq] at hok
          exact hok.2
        intro k
        by_cases hk : k = l
        · subst hk
          obtain ⟨hpos, hasc, hold, hout⟩ := hs k
          exact storeLift_inShaft ⟨hpos, hasc, hold, hout⟩ fun d hd => (height_le_topHeight hasc d hd).trans htop
        · rw [(lift_storeLift s l k e).2 hk]
          exact hs k

/-! ### RESTART and the whole step -/

theorem restartClear_carsInShaft {s : State} (hs : s.CarsInShaft) : s.restartClear.CarsInShaft := fun k => by
  obtain ⟨-, hasc, htop, -⟩ := hs k
  rw [lift_restartClear]
  exact fresh_inShaft _ _ hasc htop

/-- Each operation that a step may make keeps every car in its shaft. -/
theorem liftChange_carsInShaft {s u : State} (h : LiftChange s u) (hs : s.CarsInShaft) : u.CarsInShaft := by
  cases h with
  | same hl _ => exact (ShaftFrame.of_same hl).carsInShaft hs
  | renewCreep l now => exact (renewCreep_runsOrEnds s l now).shaftFrame.carsInShaft hs
  | deliver l p ok now => exact (deliver_runsOrEnds s l p ok now).shaftFrame.carsInShaft hs
  | expireStep l now => exact (expireStep_runsOrEnds s l now).shaftFrame.carsInShaft hs
  | evaluateAdmission now => exact (evaluateAdmission_shaftFrame s now).carsInShaft hs
  | report l v r before now he =>
    exact (reportByState_shaftFrame _ l v r before now).carsInShaft (storeReport_carsInShaft r now he hs)
  | unansweredPoll l now => exact (unansweredPoll_shaftFrame s l now).carsInShaft hs
  | hazardReplan changed now l => exact (hazardReplan_shaftFrame s changed now l).carsInShaft hs
  | act l a now _ => exact (act_shaftFrame s l a now).carsInShaft hs
  | extendStep i later => exact (extendStep_shaftFrame s i later).carsInShaft hs
  | writeLift i ws => exact writeLift_carsInShaft i ws hs
  | writeLandings i ws => exact writeLandings_carsInShaft i ws hs
  | restartClear => exact restartClear_carsInShaft hs
  | reset => exact reset_carsInShaft

end Sys2Proof.Machine

open Sys2Proof Sys2Proof.Machine Sys2Proof.Slice0 in
/-- Settles O44: the bounds of R41 through `applyDelta` and the marker, and each operation of a step on lift contexts. -/
theorem positionStaysInTheShaft : Obligations.PositionStaysInTheShaft := by
  refine ⟨fun maxCounts e ls p r hls hpos hanchor hoffset q hq => ?_,
    fun s t hs he => (step_liftChanges he).invariant liftChange_carsInShaft hs⟩
  subst hq
  obtain ⟨hpos, hanchor, hoffset⟩ := track_within maxCounts r hls ⟨hpos, hanchor, hoffset⟩
  exact ⟨hpos, hanchor, hoffset, track_lastCount maxCounts e ls p r, track_doubt maxCounts e ls p r⟩
end

section
/-! HAZARD REPORT (R50 to R54): the map replaced, and the lifts that the changed zones touch replanned. -/

namespace Sys2Proof.Machine

open Slice0

/-! ### The zone flags (R50) -/

/-- The mask of R50 holds every zone but 0. -/
theorem zoneMask_getLsbD {z : Nat} (h1 : 1 ≤ z) (h31 : z ≤ 31) : (0xFFFFFFFE#32).getLsbD z = true := by
  interval_cases z <;> rfl

theorem decodeZones_zero (p : List Word) : (decodeZones p).getLsbD 0 = false := by
  rw [decodeZones, BitVec.getLsbD_and]
  exact Bool.and_false _

theorem decodeZones_low (p : List Word) {z : Nat} (h1 : 1 ≤ z) (h15 : z ≤ 15) :
    (decodeZones p).getLsbD z = (wordAt p 0).getLsbD z := by
  rw [decodeZones, BitVec.getLsbD_and, zoneMask_getLsbD h1 (by omega), Bool.and_true, BitVec.getLsbD_append,
    if_pos (by omega)]

theorem decodeZones_high (p : List Word) {z : Nat} (h16 : 16 ≤ z) (h31 : z ≤ 31) :
    (decodeZones p).getLsbD z = (wordAt p 1).getLsbD (z - 16) := by
  rw [decodeZones, BitVec.getLsbD_and, zoneMask_getLsbD (by omega) h31, Bool.and_true, BitVec.getLsbD_append,
    if_neg (by omega)]

/-! ### The replans (R52 to R54) -/

theorem touches_iff (c : LiftContext) (zones : BitVec 32) :
    c.touches zones = true ↔ ∃ d ∈ c.landings, zones.getLsbD d.zone = true := List.any_eq_true

/-- A replan by a changed set of zones (R52 to R54). -/
theorem hazardsReplan : HazardsReplan := by
  intro s changed now l touched ht
  rw [← touches_iff] at ht
  refine ⟨fun h hs => ?_, fun h hs => ?_, fun h hs => ?_, fun h => ?_⟩
  · rw [State.hazardReplan, if_pos (ht.mp h), hs]
  · rw [State.hazardReplan, if_pos (ht.mp h), hs]
  · rw [State.hazardReplan, if_pos (ht.mp h), hs]
  · unfold State.hazardReplan
    split
    next hc =>
      obtain ⟨hstalled, hqueued, hrescuing⟩ := h.resolve_left (not_not_intro (ht.mpr hc))
      split
      next hs => exact absurd hs hstalled
      next hs => exact absurd hs hqueued
      next hs => exact absurd hs hrescuing
      · rfl
    · rfl

/-- A HAZARD REPORT on the state `v` with the new map: the replans from lift 1 upward, and an evaluation called when any is
raised (R53, logs 19 and 38). -/
theorem takeHazard_eq (s : State) (p : List Word) (now : TimeTag) {zones changed : BitVec 32} {v u : State}
    (hz : zones = decodeZones p) (hc : changed = (zones ^^^ s.hazard) &&& 0xFFFFFFFE#32)
    (hv : v = { s with hazard := zones }) (hu : u = allLifts.foldl (fun v l => v.hazardReplan changed now l) v) :
    s.takeHazard p now = if allLifts.any (v.replanRaised changed) then u.callAdmission else u := by
  rw [hu, hv, hc, hz, State.takeHazard]

theorem takeHazard_raised {s : State} {p : List Word} {now : TimeTag} {zones changed : BitVec 32} {v u : State}
    (hz : zones = decodeZones p) (hc : changed = (zones ^^^ s.hazard) &&& 0xFFFFFFFE#32)
    (hv : v = { s with hazard := zones }) (hu : u = allLifts.foldl (fun v l => v.hazardReplan changed now l) v)
    (h : ∃ l : Lift, v.replanRaised changed l = true) : s.takeHazard p now = u.callAdmission := by
  obtain ⟨l, hl⟩ := h
  rw [takeHazard_eq s p now hz hc hv hu, if_pos]
  exact List.any_eq_true.mpr ⟨l, List.mem_finRange l, hl⟩

theorem takeHazard_not_raised {s : State} {p : List Word} {now : TimeTag} {zones changed : BitVec 32} {v u : State}
    (hz : zones = decodeZones p) (hc : changed = (zones ^^^ s.hazard) &&& 0xFFFFFFFE#32)
    (hv : v = { s with hazard := zones }) (hu : u = allLifts.foldl (fun v l => v.hazardReplan changed now l) v)
    (h : ∀ l : Lift, v.replanRaised changed l = false) : s.takeHazard p now = u := by
  rw [takeHazard_eq s p now hz hc hv hu, if_neg]
  rw [Bool.not_eq_true]
  exact List.any_eq_false.mpr fun l _ => by rw [h l]; simp

/-! ### What a HAZARD REPORT leaves alone -/

theorem foldl_hazardReplan_reports (changed : BitVec 32) (now : TimeTag) (ls : List Lift) (s : State) (k : Lift) :
    SameReport (s.lift k) ((ls.foldl (fun v l => v.hazardReplan changed now l) s).lift k) := by
  induction ls generalizing s with
  | nil => exact ⟨rfl, rfl, rfl, rfl, rfl⟩
  | cons l ls ih => exact sameReport_trans ((hazardReplan_liftFrame s changed now l).reports k) (ih _)

/-- The replans change no report, and the evaluation called is no change of a lift. -/
theorem takeHazard_reports (s : State) (p : List Word) (now : TimeTag) (k : Lift) :
    SameReport (s.lift k) ((s.takeHazard p now).lift k) := by
  unfold State.takeHazard
  extract_lets zones changed a b
  have h : SameReport (s.lift k) (b.lift k) := foldl_hazardReplan_reports changed now allLifts a k
  split
  · rw [lift_callAdmission]
    exact h
  · exact h

/-- A reply to a POLL HAZARD (R50, R131). -/
theorem jobReply_pollHazard (s : State) {d : Descriptor} (asked : Lane) (n : Nat) (r : Reply) (now : TimeTag)
    (hk : d.kind = .pollHazard) :
    s.jobReply (.poll d asked n) r now =
      ((if r.source.toNat = s.params.hazardNode then s.takeHazard r.payload now else s).settle now, .ended) := by
  rw [State.jobReply, hk]

/-- A reply to a POLL HAZARD from the panel's node, and from another (R50, R113). -/
theorem exec_hazardReport {s : State} {t : TimeTag} {x : Exchange} {r : Reply} {start : TimeTag} {gap : Nat}
    {d : Descriptor} {lane : Lane} {n : Nat} (ha : Answers s x .hazard r t)
    (hp : s.scan.phase = .working start gap (.poll d lane n)) (hk : d.kind = .pollHazard) :
    exec (.hazardReport t r) s =
      .next (exchangeOver ((if x.dest = s.params.hazardNode then (s.atTime t).takeHazard r.payload t
        else s.atTime t).settle t) x true start gap t) := by
  obtain ⟨hx, hr, hm⟩ := ha
  have hexec : exec (.hazardReport t r) s = _ := exec_validReply (k := .hazard) hr hx hp hm
  obtain ⟨-, -, hsource, -⟩ := hm
  rw [hexec, jobReply_pollHazard _ lane n r t hk, goneOn_ended, hsource]
  rfl

end Sys2Proof.Machine

open Sys2Proof Sys2Proof.Machine Sys2Proof.Slice0 in
/-- Settles O34: the replans keep all but what the rescue machinery may touch, and so does what follows the report. -/
theorem hazardReportReplacesTheMap : Obligations.HazardReportReplacesTheMap := by
  refine ⟨fun s t x r start gap d lane n ha hp hk => ?_, hazardsReplan⟩
  have hexec := exec_hazardReport ha hp hk
  have hafter : ∀ u : State, CycleKeeps u (exchangeOver (u.settle t) x true start gap t) := fun u =>
    (settle_cycleKeeps u t).trans (exchangeOver_cycleKeeps _ x true start gap t)
  refine ⟨fun hnode => ⟨?_, fun zones changed v u hz hc hv hu => ⟨fun h => ?_, fun h => ?_⟩⟩, fun hnode => ?_⟩
  · rw [if_pos hnode] at hexec
    have hframe := takeHazard_rescueFrame (s.atTime t) r.payload t
    have hkeeps := hafter ((s.atTime t).takeHazard r.payload t)
    have hmap := hkeeps.hazard.trans hframe.hazard
    refine ⟨_, hexec, sameTables_trans (takeHazard_eventKeeps (s.atTime t) r.payload t).tables hkeeps.tables,
      hkeeps.reservoir.trans hframe.reservoir,
      fun k => sameReport_trans (takeHazard_reports (s.atTime t) r.payload t k) (hkeeps.reports k), ?_,
      fun z h1 h15 => ?_, fun z h16 h31 => ?_⟩ <;> rw [hmap]
    · exact decodeZones_zero r.payload
    · exact decodeZones_low r.payload h1 h15
    · exact decodeZones_high r.payload h16 h31
  · rw [hexec, if_pos hnode, takeHazard_raised (s := s.atTime t) hz hc hv hu h]
    rfl
  · rw [hexec, if_pos hnode, takeHazard_not_raised (s := s.atTime t) hz hc hv hu h]
  · rw [if_neg hnode] at hexec
    have hkeeps := hafter (s.atTime t)
    exact ⟨_, hexec, hkeeps.hazard, hkeeps.reservoir, hkeeps.tables⟩
end

section
/-! The CREEP step (R54, R85, R102 to R106): what its records, its order and its release change, then O23. -/

namespace Sys2Proof.Machine
open Slice0

/-! ### The records of a running execution -/

theorem modRescue_eq {s : State} {l : Lift} {r : RescueRecord} (f : RescueRecord → RescueRecord)
    (h : (s.lift l).rescue = some r) : s.modRescue l f = s.setLift l { s.lift l with rescue := some (f r) } := by
  simp [State.modRescue, modLift_eq, h]

theorem modCreep_eq {s : State} {l : Lift} {r : RescueRecord} {w : CreepWork} (f : CreepWork → CreepWork)
    (h : (s.lift l).rescue = some r) (hw : r.working.creep = some w) :
    s.modCreep l f =
      s.setLift l { s.lift l with rescue := some { r with working := { r.working with creep := some (f w) } } } := by
  rw [State.modCreep, modRescue_eq _ h, hw]
  rfl

theorem creepWork_eq {s : State} {l : Lift} {r : RescueRecord} (h : (s.lift l).rescue = some r) :
    s.creepWork l = r.working.creep := by
  simp [State.creepWork, h]

theorem runningStep_eq {s : State} {l : Lift} {r : RescueRecord} (h : (s.lift l).rescue = some r) :
    s.runningStep l = some (s.stepRecord r.bank r.step) := by
  simp [State.runningStep, h]

theorem runningEntry_eq {c : LiftContext} {r : RescueRecord} (h : c.rescue = some r) : c.runningEntry = r.budget := by
  simp [LiftContext.runningEntry, h]

theorem creepDirection_eq {c : LiftContext} {p : Plan} (h : c.plan = some p) : c.creepDirection = p.direction := by
  simp [LiftContext.creepDirection, h]

/-! ### Posting an ordinary order (R139) -/

/-- An ordinary order is turned away by a STOP-class one. -/
theorem post_of_stop {s : State} {l : Lift} {k : OrderKind} (p : Poster) (n : Nat) (hk : k.isStop = false)
    (h : ∃ o ∈ s.slot l, o.kind.isStop = true) : s.post l k p n = (s, false) := by
  obtain ⟨o, ho, hstop⟩ := h
  simp [State.post, Option.mem_def.mp ho, hstop, hk]

theorem post_of_no_stop {s : State} {l : Lift} (k : OrderKind) (p : Poster) (n : Nat)
    (h : ∀ o ∈ s.slot l, o.kind.isStop = false) :
    s.post l k p n = (s.setSlot l (some { kind := k, poster := p, sends := n, tag := none }), true) := by
  unfold State.post
  split
  · next o ho => simp [h o ho]
  · rfl

/-! ### The end of a CREEP step (R85, R94) -/

theorem withdrawOwn_cases (s : State) (l : Lift) : s.withdrawOwn l = s ∨ s.withdrawOwn l = s.setSlot l none := by
  unfold State.withdrawOwn
  split
  · split
    · exact .inr rfl
    · exact .inl rfl
  · exact .inl rfl

@[simp] theorem lift_withdrawOwn (s : State) (l k : Lift) : (s.withdrawOwn l).lift k = s.lift k := by
  obtain h | h := withdrawOwn_cases s l <;> rw [h]
  exact lift_setSlot s l none k

@[simp] theorem withdrawOwn_outstanding (s : State) (l : Lift) : (s.withdrawOwn l).outstanding = s.outstanding := by
  obtain h | h := withdrawOwn_cases s l <;> rw [h]
  exact setSlot_outstanding s l none

/-- The first release sets the flag of the record and keeps its figure (log 36); a later one finds the flag set. -/
theorem lift_releaseCreep_same {s : State} {l : Lift} {r : RescueRecord} (h : (s.lift l).rescue = some r) :
    (s.releaseCreep l).lift l = { s.lift l with rescue := some { r with creepReleased := true } } := by
  unfold State.releaseCreep
  cases hr : r.creepReleased with
  | true =>
    have hsame : { r with creepReleased := true } = r := by rw [← hr]
    simp only [h, hr, if_true, hsame]
    rw [← h]
  | false =>
    simp only [h, hr, Bool.false_eq_true, if_false, lift_callAdmission]
    rw [modRescue_eq _ h]
    exact lift_setLift_same s l _

theorem releaseCreep_outstanding {s : State} {l : Lift} {r : RescueRecord} (h : (s.lift l).rescue = some r) :
    (s.releaseCreep l).outstanding = if r.creepReleased then s.outstanding else s.outstanding - r.creepReservation := by
  unfold State.releaseCreep
  simp only [h]
  split <;> rfl

/-- A CREEP step closed: its own order withdrawn, the reservation released, the working values emptied. -/
theorem closeStep_creep {s : State} {l : Lift} {sr : StepRecord} {r : RescueRecord} (ok : Bool)
    (hsr : sr.action = .creep) (h : (s.lift l).rescue = some r) :
    (s.closeStep l sr ok).lift l
        = { s.lift l with rescue := some { r with creepReleased := true, working := Working.empty } }
      ∧ (s.closeStep l sr ok).outstanding
        = if r.creepReleased then s.outstanding else s.outstanding - r.creepReservation := by
  have hw : ((s.withdrawOwn l).lift l).rescue = some r := by rw [lift_withdrawOwn, h]
  have hlift := lift_releaseCreep_same hw
  have hout := releaseCreep_outstanding hw
  rw [lift_withdrawOwn] at hlift
  rw [withdrawOwn_outstanding] at hout
  unfold State.closeStep
  simp only [hsr, StepAction.posts, if_true]
  split <;> simp [State.modRescue, hlift, hout]

/-- A CREEP step left before its working values are set has no deferred abort, and enters its chain. -/
theorem leaveStep_entry {s : State} {l : Lift} {sr : StepRecord} {r : RescueRecord} (ok : Bool)
    (h : (s.lift l).rescue = some r) (hc : r.working.creep = none) :
    s.leaveStep l sr ok = (s.closeStep l sr ok, if ok then sr.chainDone else sr.chainFail) := by
  simp [State.leaveStep, creepWork_eq h, hc]

/-! ### The entry of a CREEP step (R102) -/

section
variable {c : LiftContext} {p : Plan} {r : RescueRecord} {old : Option Direction}

theorem creepStart_of_infeasible (hp : c.plan = some p) (hf : p.feasible = false) : c.creepStart old = .fail := by
  unfold LiftContext.creepStart
  split
  · next q _ hq _ =>
    obtain rfl : p = q := Option.some.inj (hp.symm.trans hq)
    simp [hf]
  · rfl

theorem creepStart_of_arrived (hp : c.plan = some p) (hr : c.rescue = some r) (hf : p.feasible = true)
    (hd : p.distance = 0) : c.creepStart old = .done := by
  simp [LiftContext.creepStart, hp, hr, hf, hd]

theorem creepStart_of_changed (hp : c.plan = some p) (hr : c.rescue = some r) (hd : p.distance ≠ 0)
    (h : old ≠ some p.direction ∨ r.originalDistance < p.distance) : c.creepStart old = .fail := by
  simp only [LiftContext.creepStart, hp, hr, hd, if_false]
  obtain hold | hfar := h
  · simp [hold]
  · simp [hfar]

theorem creepStart_of_ahead (hp : c.plan = some p) (hr : c.rescue = some r) (hf : p.feasible = true)
    (hd : p.distance ≠ 0) (hold : old = some p.direction) (hw : p.distance ≤ r.originalDistance) :
    c.creepStart old = .go p.direction (c.firstOrdered p) := by
  simp [LiftContext.creepStart, hp, hr, hf, hd, hold, Nat.not_lt.mpr hw]

end

/-- The state in which a CREEP entry makes its tests: creep seen brought up to date, and the plan of a free run. -/
def State.creepPlanned (s : State) (l : Lift) (now : TimeTag) : State :=
  { s with scan := { s.scan with creepSeen := s.scan.creepSeen || s.scan.running } }.runPlanner l now

section
variable (s : State) (l : Lift) (now : TimeTag)

theorem lift_creepPlanned :
    (s.creepPlanned l now).lift l = planned (s.lift l) now (planFree (planInput s l now)) := lift_runPlanner_same _ l now

theorem slot_creepPlanned : (s.creepPlanned l now).slot l = s.slot l := slot_writePlan _ l l now _

theorem creepPlanned_outstanding : (s.creepPlanned l now).outstanding = s.outstanding := runPlanner_outstanding _ l now

theorem creepPlanned_params : (s.creepPlanned l now).params = s.params := (runPlanner_rescueFrame _ l now).params

end

/-- The CREEP order of a running step (R102, R103). -/
def State.creepPosted (s : State) (l : Lift) (dir : Direction) (n : Nat) (sr : StepRecord) (entry : Nat) : Order :=
  { kind := .creep dir (s.lift l).entry.rescueSpeed n s.params.creepHoldTime, poster := .entry entry,
    sends := atLeastOne sr.count, tag := none }

/-- The working values of a CREEP step whose order is posted (R102). -/
def LiftContext.creepStarted (c : LiftContext) (sr : StepRecord) (n : Nat) : CreepWork :=
  { reload := atLeastOne sr.timeout, startPosition := c.pos.position, orderedLanding := n,
    markerSeen := c.lastReport.bind (·.report.marker), accepted := false, abortDeferred := false }

/-- A CREEP step left within its entry, with the step entered next. -/
def State.leavesEntry (s : State) (l : Lift) (sr : StepRecord) (ok : Bool) : State × Option Nat :=
  ((s.leaveStep l sr ok).1, some (s.leaveStep l sr ok).2)

/-- What a CREEP entry does with the outcome of its tests. -/
def State.startCreep (s : State) (l : Lift) (sr : StepRecord) (start : CreepStart) : State × Option Nat :=
  match start with
  | .fail => s.leavesEntry l sr false
  | .done => s.leavesEntry l sr true
  | .go dir landing =>
    let p := s.post l (s.creepOrder l dir landing) (.entry (s.lift l).runningEntry) (atLeastOne sr.count)
    if p.2 then
      (p.1.modRescue l fun r =>
        { r with working := { r.working with creep := some ((s.lift l).creepStarted sr landing) } }, none)
    else p.1.leavesEntry l sr false

theorem enterCreep_eq (s : State) (l : Lift) (sr : StepRecord) (now : TimeTag) :
    s.enterCreep l sr now =
      (s.creepPlanned l now).startCreep l sr
        (((s.creepPlanned l now).lift l).creepStart ((s.lift l).plan.map (·.direction))) := rfl

section
variable {s : State} {l : Lift} {sr : StepRecord} {dir : Direction} {n : Nat}

theorem startCreep_of_stop (h : ∃ o ∈ s.slot l, o.kind.isStop = true) :
    s.startCreep l sr (.go dir n) = s.leavesEntry l sr false := by
  have hpost := fun p m => post_of_stop (k := s.creepOrder l dir n) p m rfl h
  simp [State.startCreep, hpost]

theorem startCreep_of_no_stop {r : RescueRecord} (hr : (s.lift l).rescue = some r)
    (h : ∀ o ∈ s.slot l, o.kind.isStop = false) :
    s.startCreep l sr (.go dir n) =
      ((s.setSlot l (some (s.creepPosted l dir n sr r.budget))).setLift l
        { s.lift l with
          rescue := some { r with working := { r.working with creep := some ((s.lift l).creepStarted sr n) } } },
       none) := by
  unfold State.startCreep
  simp only [post_of_no_stop _ _ _ h, if_true, runningEntry_eq hr, State.creepOrder]
  rw [modRescue_eq (r := r) _ (by exact hr)]
  rfl

theorem leavesEntry_next {r : RescueRecord} (ok : Bool) (hr : (s.lift l).rescue = some r)
    (hc : r.working.creep = none) :
    (s.leavesEntry l sr ok).2 = some (if ok then sr.chainDone else sr.chainFail) := by
  rw [State.leavesEntry, leaveStep_entry ok hr hc]

theorem leavesEntry_state {r : RescueRecord} (ok : Bool) (hsr : sr.action = .creep) (hr : (s.lift l).rescue = some r)
    (hc : r.working.creep = none) :
    (s.leavesEntry l sr ok).1.lift l
        = { s.lift l with rescue := some { r with creepReleased := true, working := Working.empty } }
      ∧ (s.leavesEntry l sr ok).1.outstanding
        = if r.creepReleased then s.outstanding else s.outstanding - r.creepReservation := by
  rw [State.leavesEntry, leaveStep_entry ok hr hc]
  exact closeStep_creep ok hsr hr

/-- A CREEP entry leaves the step, or waits with its order posted. -/
theorem startCreep_cases {r : RescueRecord} (start : CreepStart) (hr : (s.lift l).rescue = some r) :
    (∃ ok, s.startCreep l sr start = s.leavesEntry l sr ok)
    ∨ ((s.startCreep l sr start).2 = none ∧ ((s.startCreep l sr start).1.lift l).plan = (s.lift l).plan) := by
  match start with
  | .fail => exact .inl ⟨false, rfl⟩
  | .done => exact .inl ⟨true, rfl⟩
  | .go dir n =>
    by_cases h : ∃ o ∈ s.slot l, o.kind.isStop = true
    · exact .inl ⟨false, startCreep_of_stop h⟩
    · rw [startCreep_of_no_stop hr (by simpa using h)]
      exact .inr ⟨rfl, by rw [lift_setLift_same]⟩

end

theorem firstOrdered_planned (c : LiftContext) (now : TimeTag) (p : Plan) :
    (planned c now p).firstOrdered p = c.firstOrdered p := rfl

/-- A CREEP entry on a plan ahead, with no STOP-class order pending, posts its order and waits. -/
theorem enterCreep_of_ahead {s : State} {l : Lift} {sr : StepRecord} {now : TimeTag} {p : Plan} {r : RescueRecord}
    {n : Nat} (hp : p = planFree (planInput s l now)) (hr : (s.lift l).rescue = some r)
    (hstart : ((s.creepPlanned l now).lift l).creepStart ((s.lift l).plan.map (·.direction)) = .go p.direction n)
    (hfree : ∀ o ∈ s.slot l, o.kind.isStop = false) :
    (s.enterCreep l sr now).2 = none
      ∧ (s.enterCreep l sr now).1.slot l = some (s.creepPosted l p.direction n sr r.budget)
      ∧ (s.enterCreep l sr now).1.outstanding = s.outstanding
      ∧ ((s.enterCreep l sr now).1.lift l).rescue
        = some { r with working := { r.working with creep := some ((s.lift l).creepStarted sr n) } } := by
  have hlift := lift_creepPlanned s l now
  rw [← hp] at hlift
  have hposted : (s.creepPlanned l now).creepPosted l p.direction n sr r.budget
      = s.creepPosted l p.direction n sr r.budget := by
    simp only [State.creepPosted, hlift, creepPlanned_params, planned]
  rw [enterCreep_eq, hstart, startCreep_of_no_stop (r := r) (by rw [hlift]; exact hr) (by rwa [slot_creepPlanned]),
    hposted, hlift]
  refine ⟨rfl, ?_, ?_, ?_⟩
  · rw [slot_setLift, slot_setSlot_same]
  · rw [setLift_outstanding, setSlot_outstanding, creepPlanned_outstanding]
  · rw [lift_setLift_same]
    rfl

theorem creepIsEntered : CreepIsEntered := by
  intro s l sr now r hsr hr hc p hp same within hsame hwithin u hu
  have hlift := lift_creepPlanned s l now
  rw [← hp] at hlift
  have hplan : ((s.creepPlanned l now).lift l).plan = some p := by rw [hlift]; rfl
  have hr' : ((s.creepPlanned l now).lift l).rescue = some r := by rw [hlift]; exact hr
  have hold : same ↔ (s.lift l).plan.map (·.direction) = some p.direction := by rw [hsame]; simp
  have hentry := enterCreep_eq s l sr now
  have hcases := startCreep_cases (sr := sr)
    (((s.creepPlanned l now).lift l).creepStart ((s.lift l).plan.map (·.direction))) hr'
  rw [← hentry] at hcases
  have hleft (ok : Bool) (h : s.enterCreep l sr now = (s.creepPlanned l now).leavesEntry l sr ok) :
      (s.enterCreep l sr now).2 = some (if ok then sr.chainDone else sr.chainFail) :=
    (congrArg Prod.snd h).trans (leavesEntry_next ok hr' hc)
  refine ⟨?plan, ?arrived, ?failed, ?ahead, ?released⟩
  case plan =>
    obtain ⟨ok, h⟩ | ⟨-, h⟩ := hcases
    · rw [hu, h, (leavesEntry_state ok hsr hr' hc).1, hplan]
    · rw [hu, h, hplan]
  case arrived =>
    rintro ⟨hf, hd⟩
    exact hleft true (by rw [hentry, creepStart_of_arrived hplan hr' hf hd]; rfl)
  case failed =>
    intro h
    refine hleft false ?_
    rw [hentry]
    obtain hf | ⟨hd, hn⟩ := h
    · rw [creepStart_of_infeasible hplan hf]
      rfl
    · rw [creepStart_of_changed hplan hr' hd (hn.imp (by simpa [hold] using ·) (by simpa [hwithin] using ·))]
      rfl
  case ahead =>
    intro hf hd hs hw
    have hstart := creepStart_of_ahead hplan hr' hf hd (hold.mp hs) (hwithin.mp hw)
    rw [hlift, firstOrdered_planned, ← hlift] at hstart
    obtain ⟨n, hn⟩ : ∃ n, n = (s.lift l).firstOrdered p := ⟨_, rfl⟩
    rw [← hn] at hstart
    constructor
    · intro hstop
      exact hleft false (by rw [hentry, hstart, startCreep_of_stop (by rwa [slot_creepPlanned])])
    · intro hfree
      obtain ⟨hnext, hslot, hout, hrescue⟩ := enterCreep_of_ahead (sr := sr) hp hr hstart hfree
      refine ⟨hnext, fun m hm => ?_⟩
      have hmn : m = n := by
        rw [hm, hn]
        unfold LiftContext.firstOrdered
        cases p.target <;> cases p.direction <;> rfl
      subst hu hmn
      refine ⟨hslot, hout, ?_⟩
      rintro k rfl
      exact hrescue
  case released =>
    intro hnext
    obtain ⟨ok, h⟩ | ⟨h, -⟩ := hcases
    · obtain ⟨hctx, hout⟩ := leavesEntry_state ok hsr hr' hc
      rw [hu, h, hctx, hout, creepPlanned_outstanding]
      exact ⟨rfl, rfl⟩
    · exact absurd h hnext

/-! ### Reports of a CREEP step (R104) -/

section
variable {zones : BitVec 32} {c : LiftContext} {w : CreepWork} {r : Report} {p : Plan} {m : Nat}

theorem creepVerdict_of_ordered (hp : c.plan = some p) (hs : r.motion = .stopped) (hm : r.marker = some m)
    (ho : m = w.orderedLanding) :
    creepVerdict zones c w r =
      some (w.abortDeferred
        || if p.mode = .marker then usableAt zones c.landings m else decide (p.target = some m)) := by
  simp [creepVerdict, hp, hs, hm, ho]

theorem creepVerdict_of_marker (hp : c.plan = some p) (hs : r.motion = .stopped) (hm : r.marker = some m)
    (ho : m ≠ w.orderedLanding) (hmode : p.mode = .marker) (hu : usableAt zones c.landings m = true) :
    creepVerdict zones c w r = some true := by
  simp [creepVerdict, hp, hs, hm, ho, hmode, hu]

/-- How far the car has moved against a direction since a CREEP step began (R104, test 3). -/
def LiftContext.creepBack (c : LiftContext) (w : CreepWork) (dir : Direction) : Nat :=
  match dir with
  | .up => w.startPosition - c.pos.position
  | .down => c.pos.position - w.startPosition

theorem reverseLimit_le_creepBack (c : LiftContext) (w : CreepWork) (dir : Direction) :
    Config.reverseLimit ≤ c.creepBack w dir ↔
      (dir = .up ∧ c.pos.position + 10 ≤ w.startPosition) ∨ (dir = .down ∧ w.startPosition + 10 ≤ c.pos.position) := by
  cases dir <;> simp only [LiftContext.creepBack, Config.reverseLimit, reduceCtorEq, true_and, false_and, or_false,
    false_or] <;> omega

/-- Tests 2 and 3 of R104: an ordered hold that has expired, or a car that has moved back, ends the step in fail. -/
def creepOnward (c : LiftContext) (w : CreepWork) (r : Report) : Option Bool :=
  if (w.accepted = true ∧ r.ack = .holdExpired) ∨ Config.reverseLimit ≤ c.creepBack w c.creepDirection then some false
  else none

theorem creepVerdict_of_no_arrival (hp : c.plan = some p)
    (h : r.motion ≠ .stopped ∨ r.marker = none
      ∨ ∃ m, r.marker = some m ∧ m ≠ w.orderedLanding ∧ (p.mode ≠ .marker ∨ usableAt zones c.landings m = false)) :
    creepVerdict zones c w r = creepOnward c w r := by
  have honward : creepOnward c w r =
      if w.accepted && decide (r.ack = .holdExpired) then some false
      else if Config.reverseLimit ≤ c.creepBack w c.creepDirection then some false else none := by
    simp [creepOnward, ite_or]
  unfold creepVerdict
  dsimp only
  split
  · next ok harrival =>
    split at harrival
    · next m hs hm =>
      obtain hn | hn | ⟨m', hm', ho, hn⟩ := h
      · exact absurd hs hn
      · simp [hm] at hn
      · obtain rfl : m = m' := Option.some.inj (hm.symm.trans hm')
        rw [hp] at harrival
        obtain hn | hn := hn <;> simp [ho, hn] at harrival
    · cases harrival
  · exact honward.symm

end

theorem creepReportsAreTested : CreepReportsAreTested := by
  intro zones c w r p hp res hres late back hlate hback
  refine ⟨fun m hs hm ho => ?_, fun m hs hm ho hmode hu => ?_, fun h => ?_⟩
  · rw [hres, creepVerdict_of_ordered hp hs hm ho]
    by_cases hmode : p.mode = .marker <;> simp [hmode]
  · rw [hres, creepVerdict_of_marker hp hs hm ho hmode hu]
  · have hends := or_congr hlate (hback.trans (reverseLimit_le_creepBack c w p.direction).symm)
    rw [hres, creepVerdict_of_no_arrival hp h, creepOnward, creepDirection_eq hp]
    exact ⟨fun hend => if_pos (hends.mp hend), fun hl hb => if_neg (hends.not.mp (not_or.mpr ⟨hl, hb⟩))⟩

section
variable {s : State} {l : Lift} {rep : Report} {now : TimeTag} {r : RescueRecord} {w : CreepWork} {p : Plan}

theorem creepReport_of_verdict {ok : Bool} (hr : (s.lift l).rescue = some r) (hw : r.working.creep = some w)
    (h : creepVerdict s.hazard (s.lift l) w rep = some ok) : s.creepReport l rep now = s.endStep l ok now := by
  simp [State.creepReport, creepWork_eq hr, hw, h]

/-- The timer of a CREEP step that runs on past a report: reloaded at a new marker (R104). -/
def RescueRecord.creepTimer (r : RescueRecord) (w : CreepWork) (rep : Report) (now : TimeTag) : Option StepTimer :=
  if rep.marker ≠ none ∧ rep.marker ≠ w.markerSeen then some { loadedAt := now, ds := w.reload } else r.working.timer

/-- A lift whose CREEP step runs on past a report, with marker seen brought up to date. -/
def State.creepPast (s : State) (l : Lift) (r : RescueRecord) (w : CreepWork) (rep : Report) (now : TimeTag) : State :=
  s.setLift l { s.lift l with rescue := some { r with working := { r.working with
    timer := r.creepTimer w rep now, creep := some { w with markerSeen := rep.marker } } } }

/-- The update that a report makes to the record of a CREEP step that runs on. -/
theorem modRescue_creepPast (hr : (s.lift l).rescue = some r) :
    (s.modRescue l fun rr =>
      { rr with working := { rr.working with
          timer := if rep.marker.isSome && decide (rep.marker ≠ w.markerSeen) then some { loadedAt := now, ds := w.reload }
            else rr.working.timer
          creep := some { w with markerSeen := rep.marker } } }) = s.creepPast l r w rep now := by
  rw [modRescue_eq _ hr]
  simp [State.creepPast, RescueRecord.creepTimer, Option.isSome_iff_ne_none]

/-- In MARKER mode a report of a usable landing ahead orders it at once. -/
theorem creepReport_of_ahead {m : Nat} (hr : (s.lift l).rescue = some r) (hw : r.working.creep = some w)
    (hp : (s.lift l).plan = some p) (h : creepVerdict s.hazard (s.lift l) w rep = none) (hm : rep.marker = some m)
    (hmode : p.mode = .marker) (hd : w.abortDeferred = false)
    (hu : usableAt s.hazard (s.lift l).landings m = true) (hs : rep.motion ≠ .stopped) :
    s.creepReport l rep now = (s.creepPast l r w rep now).orderLanding l m now := by
  simp only [State.creepReport, creepWork_eq hr, hw, h, modRescue_creepPast hr]
  simp [hm, State.creepPast, hp, hmode, hd, hu, hs]

theorem creepReport_of_running (hr : (s.lift l).rescue = some r) (hw : r.working.creep = some w)
    (hp : (s.lift l).plan = some p) (h : creepVerdict s.hazard (s.lift l) w rep = none)
    (hn : rep.marker = none ∨ p.mode ≠ .marker ∨ w.abortDeferred = true ∨ rep.motion = .stopped
      ∨ ∃ m, rep.marker = some m ∧ usableAt s.hazard (s.lift l).landings m = false) :
    s.creepReport l rep now = s.creepPast l r w rep now := by
  simp only [State.creepReport, creepWork_eq hr, hw, h, modRescue_creepPast hr]
  split
  · next m hm =>
    refine if_neg ?_
    simp only [State.creepPast, lift_setLift_same, setLift_hazard, hp]
    obtain hn | hn | hn | hn | ⟨m', hm', hn⟩ := hn
    · simp [hm] at hn
    · simp [hn]
    · simp [hn]
    · simp [hn]
    · obtain rfl : m = m' := Option.some.inj (hm.symm.trans hm')
      simp [hn]
  · rfl

end

theorem creepReportsAct : CreepReportsAct := by
  intro s l rep now r w p hr hw hp
  refine ⟨fun ok h => creepReport_of_verdict hr hw h, fun h timer v hnew hold hv => ?_⟩
  have htimer : timer = r.creepTimer w rep now := by
    unfold RescueRecord.creepTimer
    split
    · next hc => exact hnew hc
    · next hc => exact hold (by simpa [or_iff_not_imp_left] using hc)
  subst htimer hv
  exact ⟨fun m hm hmode hd hu hs => creepReport_of_ahead hr hw hp h hm hmode hd hu hs,
    creepReport_of_running hr hw hp h⟩

/-! ### Renewals and retargets (R103 to R105) -/

section
variable {s : State} {l : Lift} {now : TimeTag} {r : RescueRecord} {w : CreepWork} {p : Plan}

theorem renewCreep_of_stop (hr : (s.lift l).rescue = some r) (hw : r.working.creep = some w)
    (h : ∃ o ∈ s.slot l, o.kind.isStop = true) : s.renewCreep l now = s.endStep l false now := by
  have hpost := fun d p m => post_of_stop (k := s.creepOrder l d w.orderedLanding) p m rfl h
  simp [State.renewCreep, runningStep_eq hr, creepWork_eq hr, hw, hpost]

theorem renewCreep_of_no_stop (hr : (s.lift l).rescue = some r) (hw : r.working.creep = some w)
    (hp : (s.lift l).plan = some p) (h : ∀ o ∈ s.slot l, o.kind.isStop = false) :
    s.renewCreep l now =
      s.setSlot l (some (s.creepPosted l p.direction w.orderedLanding (s.stepRecord r.bank r.step) r.budget)) := by
  simp [State.renewCreep, runningStep_eq hr, creepWork_eq hr, hw, post_of_no_stop _ _ _ h, creepDirection_eq hp,
    runningEntry_eq hr, State.creepOrder, State.creepPosted]

end

theorem creepIsRenewed : CreepIsRenewed := by
  intro s l now r w p sr hr hw hp hsr
  refine ⟨renewCreep_of_stop hr hw, fun h => ?_, fun n => ?_⟩
  · rw [renewCreep_of_no_stop hr hw hp h, hsr]
    rfl
  · rw [State.orderLanding, modCreep_eq _ hr hw]

section
variable {s : State} {l : Lift} {now : TimeTag} {r : RescueRecord} {w : CreepWork} {p : Plan}

theorem replanRescuing_of_other (hr : (s.lift l).rescue = some r) (hw : r.working.creep = none) :
    s.replanRescuing l now = s := by
  simp [State.replanRescuing, creepWork_eq hr, hw]

theorem replanRescuing_of_kept (hr : (s.lift l).rescue = some r) (hw : r.working.creep = some w)
    (hp : (s.lift l).plan = some p)
    (h : w.abortDeferred = true ∨ p.mode = .marker
      ∨ ∃ t, p.target = some t ∧ usableAt s.hazard (s.lift l).landings t = true) : s.replanRescuing l now = s := by
  obtain h | h | ⟨t, ht, hu⟩ := h
  · simp [State.replanRescuing, creepWork_eq hr, hw, hp, hr, h]
  · simp [State.replanRescuing, creepWork_eq hr, hw, hp, hr, h]
  · simp [State.replanRescuing, creepWork_eq hr, hw, hp, hr, ht, hu]

/-- The target of a directed run within the original distance is ordered; without one, the nearest landing ahead is. -/
theorem replanRescuing_of_lost {t : Nat} {q : Plan} {v : State} (hr : (s.lift l).rescue = some r)
    (hw : r.working.creep = some w) (hp : (s.lift l).plan = some p) (hd : w.abortDeferred = false)
    (hm : p.mode ≠ .marker) (ht : p.target = some t) (hu : usableAt s.hazard (s.lift l).landings t = false)
    (hq : q = planDirected (planInput s l now) p.mode p.direction) (hv : v = s.writePlan l now q) :
    (∀ n, q.target = some n → q.distance ≤ r.originalDistance → s.replanRescuing l now = v.orderLanding l n now)
      ∧ (q.target = none ∨ r.originalDistance < q.distance →
        (∀ n, nextLanding (s.lift l).landings p.direction (s.lift l).pos.position = some n →
          s.replanRescuing l now = v.orderLanding l n now)
        ∧ (nextLanding (s.lift l).landings p.direction (s.lift l).pos.position = none →
          s.replanRescuing l now = v.endStep l false now)) := by
  have hrun : s.runDirected l now p.mode p.direction = v := by rw [hv, hq]; rfl
  have hlift : v.lift l = planned (s.lift l) now q := by rw [hv]; exact lift_writePlan_same s l now q
  have hkeep : (w.abortDeferred || decide (p.mode = .marker) || usableAt s.hazard (s.lift l).landings t) = false := by
    simp [hd, hm, hu]
  unfold State.replanRescuing
  simp only [creepWork_eq hr, hw, hp, hr, ht, hkeep, hrun, hlift, Bool.false_eq_true, if_false, planned]
  refine ⟨fun n hn hle => ?_, fun hfar => ?_⟩
  · simp only [if_pos hle, hn]
  · have hnone : (if q.distance ≤ r.originalDistance then q.target else none) = none := by
      obtain hn | hlt := hfar
      · simp [hn]
      · exact if_neg (Nat.not_le.mpr hlt)
    simp only [hnone]
    exact ⟨fun n hn => by simp only [hn], fun hn => by simp only [hn]⟩

end

theorem creepIsRetargeted : CreepIsRetargeted :=
  ⟨fun _ _ _ _ hr hw => replanRescuing_of_other hr hw, fun _ _ _ _ _ _ hr hw hp =>
    ⟨replanRescuing_of_kept hr hw hp, fun hd hm _ ht hu _ _ hq hv => replanRescuing_of_lost hr hw hp hd hm ht hu hq hv⟩⟩

/-! ### EXTEND STEP (R106) -/

section
variable {s : State} {i : Nat} {v : Word} {rest : List Word}

theorem extendStatus_code (v : Word) :
    (if decide (v = 0) then ReplyStatus.doneClamped else .done).code = if v = 0 then 1 else 0 := by
  by_cases h : v = 0
  · rw [if_pos (decide_eq_true h), if_pos h]
    rfl
  · rw [if_neg (by simpa using h), if_neg h]
    rfl

theorem atLeastOne_toNat (v : Word) : atLeastOne v.toNat = if v = 0 then 1 else v.toNat := by
  by_cases h : v = 0
  · simp [h, atLeastOne]
  · exact (if_neg fun hz => h (BitVec.eq_of_toNat_eq hz)).trans (if_neg h).symm

theorem extendStep_of_no_lift (h : liftOfNumber i = none) : s.extendStep i (v :: rest) = s.refuse .range := by
  simp [State.extendStep, h]

theorem extendStep_of_other {l : Lift} (h : liftOfNumber i = some l)
    (hn : (s.lift l).state ≠ .rescuing ∨ s.inCreep l = false) : s.extendStep i (v :: rest) = s.refuse .state := by
  obtain hn | hn := hn <;> simp [State.extendStep, h, hn]

theorem extendStep_of_creep {l : Lift} {r : RescueRecord} {k : CreepWork} (h : liftOfNumber i = some l)
    (hs : (s.lift l).state = .rescuing) (hc : s.inCreep l = true) (hr : (s.lift l).rescue = some r)
    (hk : r.working.creep = some k) :
    s.extendStep i (v :: rest) =
      (s.setLift l { s.lift l with rescue := some (reloaded r k (atLeastOne v.toNat)) }, doneOr (decide (v = 0))) := by
  have hcreep : (decide ((s.lift l).state = .rescuing) && s.inCreep l) = true := by simp [hs, hc]
  simp only [State.extendStep, h, hcreep, if_true]
  rw [modCreep_eq _ hr hk]
  rfl

end

end Sys2Proof.Machine

open Sys2Proof Sys2Proof.Machine Sys2Proof.Slice0 in
/-- Settles O23: the checks of EXTEND STEP in their order, and the CREEP rules from the lemmas above. -/
theorem extendStepWritesTheReload : Obligations.ExtendStepWritesTheReload := by
  refine ⟨fun s t i hs => ?_, fun s t i v rest hs hlen => ?_,
    creepIsEntered, creepReportsAreTested, creepReportsAct, creepIsRenewed, creepIsRetargeted⟩
  · exact exec_refuses (st := .invalid) (r := .extendStep i []) (n := 1) rfl hs (by decide) (by simp) rfl rfl
  · have hserve {u : State} {st : ReplyStatus} (h : (taken s t).extendStep i.toNat (v :: rest) = (u, ⟨st, []⟩))
        (hd : u.admissionDue = false) :
        exec (.extendStep t i (v :: rest)) s = .next (answered u (reply st.code 0x70 [])) :=
      exec_answers (st := st) (r := .extendStep i (v :: rest)) (n := rest.length + 1 + 1) rfl hs (by omega) (by simp)
        (by exact h) hd rfl
    refine ⟨fun hl => hserve (st := .range) (extendStep_of_no_lift hl) hs.2.2,
      fun l hl => ⟨fun hno => hserve (st := .state) (extendStep_of_other hl hno) hs.2.2, fun r k hst hcreep hr hk => ?_⟩⟩
    rw [hserve (extendStep_of_creep (s := taken s t) hl hst hcreep hr hk) hs.2.2, extendStatus_code,
      atLeastOne_toNat, lift_taken]
end

section
/-! The figures of a plan (R64 to R68) and what a free run answers (R60 to R62, R69, R70), then O46. -/

namespace Sys2Proof.Machine
open Slice0

/-! ### Quotients rounded up (R64, R66) -/

theorem le_ceilDiv_mul (a : Nat) {b : Nat} (hb : 0 < b) : a ≤ ceilDiv a b * b := by
  have hdiv := Nat.div_add_mod' (a + b - 1) b
  have hmod := Nat.mod_lt (a + b - 1) hb
  unfold ceilDiv
  omega

theorem ceilDiv_mul_lt (a : Nat) {b : Nat} (hb : 0 < b) : ceilDiv a b * b < a + b := by
  have hdiv := Nat.div_mul_le_self (a + b - 1) b
  unfold ceilDiv
  omega

/-- The quotient rounded up is the only one between the two bounds. -/
theorem ceilDiv_eq {a b c : Nat} (hlo : a ≤ c * b) (hhi : c * b < a + b) : ceilDiv a b = c :=
  Nat.div_eq_of_lt_le (by omega) (by rw [Nat.succ_mul]; omega)

/-! ### A plan costed, and a plan without a target (R64 to R66, R69) -/

section
variable (e : LiftEntry) (mode : Mode) (dir : Direction) (target : Option Nat) (distance power merit : Nat)

@[simp] theorem costed_direction : (costed e mode dir target distance power merit).direction = dir := rfl
theorem costed_distance : (costed e mode dir target distance power merit).distance = distance := rfl
theorem costed_doorCost : (costed e mode dir target distance power merit).doorCost = e.doorCycleCost := rfl

theorem costed_travelTime :
    (costed e mode dir target distance power merit).travelTime = ceilDiv (distance * 100) e.rescueSpeed := rfl

theorem costed_creepCost :
    (costed e mode dir target distance power merit).creepCost =
      if 65534 < ceilDiv ((costed e mode dir target distance power merit).travelTime * power) 1000 then 65535
      else ceilDiv ((costed e mode dir target distance power merit).travelTime * power) 1000 := rfl

theorem costed_feasible_iff : (costed e mode dir target distance power merit).feasible = true ↔
    (costed e mode dir target distance power merit).creepCost + e.doorCycleCost < 65535 := by
  simp only [costed, Bool.not_eq_true', decide_eq_false_iff_not, Nat.not_le]

theorem costed_totalCost : (costed e mode dir target distance power merit).totalCost =
    min 65535 ((costed e mode dir target distance power merit).creepCost + e.doorCycleCost) := by
  simp only [costed, decide_eq_true_eq, Nat.min_def]

theorem costed_reason : (costed e mode dir target distance power merit).reason =
    if (costed e mode dir target distance power merit).feasible then none else some .costOverRange := by
  simp only [costed, Bool.not_eq_true', decide_eq_true_eq, decide_eq_false_iff_not, ite_not]

end

/-- The costs of a plan whose exact creep cost, rounded up, is `cost` (R66, R69). -/
theorem costed_costs (e : LiftEntry) (mode : Mode) (dir : Direction) (target : Option Nat) (distance power merit : Nat)
    {p : Plan} {cost : Nat} (hp : p = costed e mode dir target distance power merit)
    (hcost : ceilDiv (p.travelTime * power) 1000 = cost) :
    (cost ≤ 65534 → p.creepCost = cost ∧ (p.feasible = true ↔ cost + e.doorCycleCost < 65535)
        ∧ p.totalCost = min 65535 (cost + e.doorCycleCost))
      ∧ (65534 < cost → p.creepCost = 65535 ∧ p.totalCost = 65535 ∧ p.feasible = false
        ∧ p.reason = some .costOverRange) := by
  have hcreep : p.creepCost = if 65534 < cost then 65535 else cost := by
    rw [← hcost, hp]
    exact costed_creepCost ..
  have hfeasible : p.feasible = true ↔ p.creepCost + e.doorCycleCost < 65535 := hp ▸ costed_feasible_iff ..
  have htotal : p.totalCost = min 65535 (p.creepCost + e.doorCycleCost) := hp ▸ costed_totalCost ..
  have hreason : p.reason = if p.feasible then none else some .costOverRange := hp ▸ costed_reason ..
  refine ⟨fun hle => ?_, fun hlt => ?_⟩
  · rw [if_neg (Nat.not_lt.mpr hle)] at hcreep
    rw [hcreep] at hfeasible htotal
    exact ⟨hcreep, hfeasible, htotal⟩
  · rw [if_pos hlt] at hcreep
    have hdear : p.feasible = false := by
      rw [Bool.eq_false_iff, ne_eq, hfeasible]
      omega
    exact ⟨hcreep, by omega, hdear, by simp [hreason, hdear]⟩

/-! ### The searches among the landings (R62, R63) -/

theorem mem_indexed {ls : List Landing} {c : Nat × Landing} : c ∈ indexed ls ↔ ls[c.1]? = some c.2 := by
  obtain ⟨n, d⟩ := c
  simp [indexed, List.mem_zipIdx_iff_getElem?]

/-- The nearest of a list of candidates is one of them. -/
theorem nearest_mem {position : Nat} {cs : List (Nat × Landing)} {c : Nat × Landing}
    (h : nearest position cs = some c) : c ∈ cs := by
  induction cs generalizing c with
  | nil => cases h
  | cons x xs ih =>
    rw [nearest] at h
    split at h
    · cases h
      exact List.mem_cons_self
    · next b hb =>
      split at h <;> cases h
      · exact List.mem_cons_of_mem _ (ih hb)
      · exact List.mem_cons_self

/-- A search among the landings that `ok` selects answers one of them. -/
theorem nearest_filter_spec {ls : List Landing} {position : Nat} {ok : Landing → Bool} {c : Nat × Landing}
    (h : nearest position ((indexed ls).filter fun c => ok c.2) = some c) : ls[c.1]? = some c.2 ∧ ok c.2 = true := by
  obtain ⟨hmem, hok⟩ := List.mem_filter.mp (nearest_mem h)
  exact ⟨mem_indexed.mp hmem, hok⟩

/-! ### What a free run answers (R60 to R62, R69) -/

/-- What a run can answer with the doubt flag clear: no target, or a usable landing of the list at its cost. -/
inductive Answered (i : PlanInput) : Plan → Prop
  | noTarget {mode : Mode} (dir : Direction) (why : Infeasibility) (hm : mode ≠ .marker) :
      Answered i (noTarget mode dir i.merit why)
  | costed {mode : Mode} (dir : Direction) {n : Nat} {d : Landing} (distance power : Nat) (hm : mode ≠ .marker)
      (hd : i.landings[n]? = some d) (hu : usable i.zones d = true) :
      Answered i (costed i.entry mode dir (some n) distance power i.merit)

theorem planFallback_answered (i : PlanInput) (dir back : Direction) : Answered i (planFallback i dir back) := by
  unfold planFallback
  dsimp only
  split
  · exact .noTarget _ _ nofun
  · next c hc =>
    obtain ⟨hd, hok⟩ := nearest_filter_spec (ok := fun d => usable i.zones d && !beyond dir i.position d) hc
    split
    · exact .noTarget _ _ nofun
    · exact .costed _ _ _ nofun hd (Bool.and_eq_true_iff.mp hok).1

theorem planGravity_answered (i : PlanInput) (dir back : Direction) : Answered i (planGravity i dir back) := by
  unfold planGravity
  split
  · next c hc =>
    obtain ⟨hd, hok⟩ := nearest_filter_spec (ok := fun d => usable i.zones d && beyond dir i.position d) hc
    exact .costed _ _ _ nofun hd (Bool.and_eq_true_iff.mp hok).1
  · exact planFallback_answered i dir back

theorem planAssisted_answered (i : PlanInput) : Answered i (planAssisted i) := by
  unfold planAssisted
  split
  · exact .noTarget _ _ nofun
  · next c hc =>
    obtain ⟨hd, hu⟩ := nearest_filter_spec (ok := usable i.zones) hc
    dsimp only
    split
    · exact .noTarget _ _ nofun
    · exact .costed _ _ _ nofun hd hu

theorem usableAt_iff {zones : BitVec 32} {ls : List Landing} {m : Nat} :
    usableAt zones ls m = true ↔ ∃ d, ls[m]? = some d ∧ usable zones d = true := by
  unfold usableAt
  split
  · next d hd => simp [hd]
  · next hd => simp [hd]

theorem planFree_of_doubt {i : PlanInput} (h : i.doubt = true) : planFree i = planMarker i := by
  rw [planFree, if_pos h]

/-- A usable landing at the marker is taken where the car stands (R61). -/
theorem planFree_of_marker {i : PlanInput} {m : Nat} (h : i.doubt = false) (hm : i.marker = some m)
    (hu : usableAt i.zones i.landings m = true) :
    planFree i = costed i.entry .gravity .down (some m) 0 (powerOf i.entry .gravity) i.merit := by
  have hsome : i.marker.filter (usableAt i.zones i.landings) = some m := by rw [hm, Option.filter_some_pos hu]
  simp [planFree, h, hsome]

/-- Without a usable landing at the marker, a heavy or light car runs by gravity (R62). -/
theorem planFree_of_pull {i : PlanInput} {pull back : Direction} (h : i.doubt = false)
    (hm : ∀ m, i.marker = some m → usableAt i.zones i.landings m = false)
    (hpull : (imbalance i.entry i.load = .heavy ∧ pull = .down ∧ back = .up)
      ∨ (imbalance i.entry i.load = .light ∧ pull = .up ∧ back = .down)) :
    planFree i = planGravity i pull back := by
  have hnone : i.marker.filter (usableAt i.zones i.landings) = none := by simpa using hm
  obtain ⟨himb, rfl, rfl⟩ | ⟨himb, rfl, rfl⟩ := hpull <;> simp [planFree, h, hnone, himb]

/-- Without a usable landing at the marker, a balanced car is driven (R62). -/
theorem planFree_of_balanced {i : PlanInput} (h : i.doubt = false)
    (hm : ∀ m, i.marker = some m → usableAt i.zones i.landings m = false)
    (himb : imbalance i.entry i.load = .balanced) : planFree i = planAssisted i := by
  have hnone : i.marker.filter (usableAt i.zones i.landings) = none := by simpa using hm
  simp [planFree, h, hnone, himb]

theorem planFree_answered {i : PlanInput} (h : i.doubt = false) : Answered i (planFree i) := by
  by_cases hm : ∃ m, i.marker = some m ∧ usableAt i.zones i.landings m = true
  · obtain ⟨m, hm, hu⟩ := hm
    obtain ⟨d, hd, hud⟩ := usableAt_iff.mp hu
    exact planFree_of_marker h hm hu ▸ .costed _ _ _ nofun hd hud
  · have hno : ∀ m, i.marker = some m → usableAt i.zones i.landings m = false := fun m hm' =>
      Bool.eq_false_iff.mpr fun hu => hm ⟨m, hm', hu⟩
    cases himb : imbalance i.entry i.load with
    | heavy => exact planFree_of_pull h hno (.inl ⟨himb, rfl, rfl⟩) ▸ planGravity_answered i _ _
    | light => exact planFree_of_pull h hno (.inr ⟨himb, rfl, rfl⟩) ▸ planGravity_answered i _ _
    | balanced => exact planFree_of_balanced h hno himb ▸ planAssisted_answered i

/-- MARKER mode answers no target, and where it is feasible the cost of the shaft span (R60). -/
theorem planMarker_cases (i : PlanInput) :
    (∃ why, planMarker i = noTarget .marker (markerDirection i) i.merit why)
      ∨ ∃ power, planMarker i = costed i.entry .marker (markerDirection i) none (shaftSpan i.landings) power i.merit := by
  unfold planMarker
  dsimp only
  split
  · exact .inl ⟨_, rfl⟩
  · split
    · exact .inl ⟨_, rfl⟩
    · exact .inr ⟨_, rfl⟩

/-- What every plan of a run shows of its costs, its reason and its merit (R66, R68, R69). -/
structure Priced (i : PlanInput) (p : Plan) : Prop where
  feasible : p.feasible = true → p.totalCost < 65535 ∧ p.totalCost = p.creepCost + p.doorCost ∧ p.reason = none
    ∧ p.doorCost = i.entry.doorCycleCost
  infeasible : p.feasible = false → p.reason.isSome
  merit : p.merit = i.merit

theorem noTarget_priced (i : PlanInput) (mode : Mode) (dir : Direction) (why : Infeasibility) :
    Priced i (noTarget mode dir i.merit why) := ⟨nofun, fun _ => rfl, rfl⟩

theorem costed_priced (i : PlanInput) (mode : Mode) (dir : Direction) (target : Option Nat) (distance power : Nat) :
    Priced i (costed i.entry mode dir target distance power i.merit) where
  feasible h := by
    have hlt := (costed_feasible_iff ..).mp h
    rw [costed_totalCost, costed_doorCost, costed_reason, if_pos h, Nat.min_eq_right hlt.le]
    exact ⟨hlt, rfl, rfl, rfl⟩
  infeasible h := by simp [costed_reason, h]
  merit := rfl

theorem Answered.priced {i : PlanInput} {p : Plan} (h : Answered i p) : Priced i p := by
  cases h with
  | noTarget => exact noTarget_priced ..
  | costed => exact costed_priced ..

theorem planFree_priced (i : PlanInput) : Priced i (planFree i) := by
  cases h : i.doubt with
  | true =>
    rw [planFree_of_doubt h]
    obtain ⟨why, hp⟩ | ⟨power, hp⟩ := planMarker_cases i
    · exact hp ▸ noTarget_priced ..
    · exact hp ▸ costed_priced ..
  | false =>
    exact (planFree_answered h).priced

theorem planFree_doubtful {i : PlanInput} (h : i.doubt = true) : (planFree i).mode = .marker
    ∧ (planFree i).target = none ∧ ((planFree i).feasible = true → (planFree i).distance = shaftSpan i.landings) := by
  rw [planFree_of_doubt h]
  obtain ⟨why, hp⟩ | ⟨power, hp⟩ := planMarker_cases i
  · rw [hp]
    exact ⟨rfl, rfl, nofun⟩
  · rw [hp]
    exact ⟨rfl, rfl, fun _ => rfl⟩

theorem Answered.certain {i : PlanInput} {p : Plan} (h : Answered i p) : p.mode ≠ .marker
    ∧ (p.feasible = true → ∃ t d, p.target = some t ∧ i.landings[t]? = some d ∧ usable i.zones d = true) := by
  cases h with
  | noTarget _ _ hm => exact ⟨hm, nofun⟩
  | costed _ _ _ hm hd hu => exact ⟨hm, fun _ => ⟨_, _, rfl, hd, hu⟩⟩

/-! ### Urgency (R67, R68) -/

theorem usable_eq_false_iff {zones : BitVec 32} {d : Landing} :
    usable zones d = false ↔ d.zone ≠ 0 ∧ zones.getLsbD d.zone = true := by
  simp [usable]

/-- The hazard term of the merit: the bonus when some landing is unusable, else nothing (R68). -/
theorem hazardTerm_eq {zones : BitVec 32} {ls : List Landing} {bonus h : Nat}
    (hsome : (∃ d ∈ ls, d.zone ≠ 0 ∧ zones.getLsbD d.zone = true) → h = bonus)
    (hnone : (∀ d ∈ ls, d.zone = 0 ∨ zones.getLsbD d.zone = false) → h = 0) :
    (if ls.any (fun d => !usable zones d) then bonus else 0) = h := by
  split
  · next hany =>
    obtain ⟨d, hd, hu⟩ := List.any_eq_true.mp hany
    exact (hsome ⟨d, hd, usable_eq_false_iff.mp (by simpa using hu)⟩).symm
  · next hany =>
    refine (hnone fun d hd => ?_).symm
    have hu : usable zones d = true :=
      of_not_not fun hu => hany (List.any_eq_true.mpr ⟨d, hd, by simpa using hu⟩)
    simpa [usable] using hu

/-! ### What a run writes (R67, R70) -/

theorem planNews_some_iff {old new : Plan} : planNews (some old) new = true ↔ Differs old new := by
  simp [planNews, or_assoc]

theorem writePlan_of_news {s : State} {l : Lift} {p : Plan} (now : TimeTag) (h : planNews (s.lift l).plan p = true) :
    s.writePlan l now p =
      raised { s.setLift l (planned (s.lift l) now p) with freeIndex := s.freeIndex + 1 } (l.val + 1) 4 := by
  unfold State.writePlan
  exact if_pos h

theorem writePlan_of_no_news {s : State} {l : Lift} {p : Plan} (now : TimeTag)
    (h : planNews (s.lift l).plan p = false) :
    s.writePlan l now p = { s.setLift l (planned (s.lift l) now p) with freeIndex := s.freeIndex + 1 } := by
  unfold State.writePlan
  exact if_neg (Bool.eq_false_iff.mp h)

theorem plansAreWritten : PlansAreWritten := by
  rintro s l now p _ _ rfl rfl
  refine ⟨fun hnone => writePlan_of_news now ?_, fun old hold hdiff => writePlan_of_news now ?_,
    fun old hold hsame => writePlan_of_no_news now ?_, fun hp => ?_, fun mode dir hp => ?_⟩
  · rw [hnone]
    rfl
  · rw [hold]
    exact planNews_some_iff.mpr hdiff
  · rw [hold, Bool.eq_false_iff]
    exact mt planNews_some_iff.mp hsame
  · rw [hp]
    rfl
  · rw [hp]
    rfl

end Sys2Proof.Machine

open Sys2Proof Sys2Proof.Machine Sys2Proof.Slice0 in
/-- Settles O46: what a free run answers, the bounds of its quotients, the terms of the merit, and what a run writes. -/
theorem feasiblePlansAreUsableAndCosted : Obligations.FeasiblePlansAreUsableAndCosted := by
  refine ⟨?run, ?costs, fun now t held => ⟨rfl, ?trapped⟩, ?merit, fun s l now => rfl, plansAreWritten⟩
  case run =>
    rintro i _ rfl
    obtain ⟨hfeasible, hinfeasible, hmerit⟩ := planFree_priced i
    exact ⟨planFree_doubtful, fun h => (planFree_answered h).certain, hfeasible, hinfeasible, hmerit⟩
  case costs =>
    intro e mode dir target distance power merit hspeed p hp
    have htime : p.travelTime = ceilDiv (distance * 100) e.rescueSpeed := hp ▸ costed_travelTime ..
    exact ⟨hp ▸ costed_distance .., htime ▸ le_ceilDiv_mul _ hspeed, htime ▸ ceilDiv_mul_lt _ hspeed,
      fun cost hlo hhi => costed_costs e mode dir target distance power merit hp (ceilDiv_eq hlo hhi)⟩
  case trapped => rw [trappedAt, elapsed, Nat.min_comm]
  case merit =>
    intro p e zones ls occupancy trapped h hsome hnone
    rw [meritOf, hazardTerm_eq hsome hnone]
    cases occupancy <;> rfl
end
section
/-! The targets of free and directed runs (R61 to R63, R105, R108), then O47. -/

namespace Sys2Proof.Machine
open Slice0

/-! ### The nearest of the candidates (R62) -/

theorem beyond_iff {dir : Direction} {position : Nat} {d : Landing} :
    beyond dir position d = true ↔ Ahead dir position d.height := by
  cases dir <;> simp [beyond]

theorem map_snd_indexed (ls : List Landing) : (indexed ls).map (·.2) = ls := by
  simp [indexed, Function.comp_def]

theorem indexed_heights {ls : List Landing} (h : Ascending ls) :
    (indexed ls).Pairwise fun a b => a.2.height < b.2.height := by
  rw [← map_snd_indexed ls, Ascending, List.pairwise_map] at h
  exact h

theorem nearest_eq_none_iff {position : Nat} {cs : List (Nat × Landing)} : nearest position cs = none ↔ cs = [] := by
  cases cs with
  | nil => simp [nearest]
  | cons x xs =>
    rw [nearest]
    split
    · simp
    · split <;> simp

/-- Of candidates in ascending order the nearest is answered, the lower of two at one distance. -/
theorem nearest_le {position : Nat} {cs : List (Nat × Landing)} {c : Nat × Landing}
    (hcs : cs.Pairwise fun a b => a.2.height < b.2.height) (h : nearest position cs = some c) :
    ∀ b ∈ cs, reach position c.2 < reach position b.2
      ∨ (reach position c.2 = reach position b.2 ∧ c.2.height ≤ b.2.height) := by
  induction cs generalizing c with
  | nil => nofun
  | cons x xs ih =>
    obtain ⟨hx, hxs⟩ := List.pairwise_cons.mp hcs
    rw [nearest] at h
    split at h
    · next hnone =>
      cases h
      rw [nearest_eq_none_iff.mp hnone]
      simp
    · next a ha =>
      have hlow := hx a (nearest_mem ha)
      have hrest := ih hxs ha
      split at h <;> cases h <;> rintro b (_ | ⟨_, hb⟩)
      · exact .inl ‹_›
      · exact hrest b hb
      · exact .inr ⟨rfl, le_rfl⟩
      · have := hrest b hb
        omega

/-- A search among ascending landings finds the nearest that `ok` holds of, when there is one. -/
theorem nearest_filter_found {ls : List Landing} {position : Nat} {test : Landing → Bool} {ok : Landing → Prop}
    (hls : Ascending ls) (htest : ∀ d ∈ ls, test d = true ↔ ok d) (h : ∃ d ∈ ls, ok d) :
    ∃ n d, nearest position ((indexed ls).filter fun c => test c.2) = some (n, d) ∧ ls[n]? = some d
      ∧ Nearest ls position ok d := by
  have hcand {n : Nat} {d : Landing} (hd : ls[n]? = some d) (hok : ok d) :
      (n, d) ∈ (indexed ls).filter fun c => test c.2 :=
    List.mem_filter.mpr ⟨mem_indexed.mpr hd, (htest d (List.mem_of_getElem? hd)).mpr hok⟩
  cases hn : nearest position ((indexed ls).filter fun c => test c.2) with
  | none =>
    obtain ⟨d, hd, hok⟩ := h
    obtain ⟨n, hget⟩ := List.mem_iff_getElem?.mp hd
    exact absurd (nearest_eq_none_iff.mp hn) (List.ne_nil_of_mem (hcand hget hok))
  | some c =>
    obtain ⟨hget, hok⟩ := nearest_filter_spec hn
    refine ⟨c.1, c.2, rfl, hget, (htest _ (List.mem_of_getElem? hget)).mp hok, fun b hb hbok => ?_⟩
    obtain ⟨m, hm⟩ := List.mem_iff_getElem?.mp hb
    exact nearest_le ((indexed_heights hls).filter _) hn (m, b) (hcand hm hbok)

/-- A search among landings none of which passes the test finds nothing. -/
theorem nearest_filter_none {ls : List Landing} {test : Landing → Bool} (position : Nat)
    (h : ∀ d ∈ ls, test d = false) : nearest position ((indexed ls).filter fun c => test c.2) = none := by
  rw [nearest_eq_none_iff, List.filter_eq_nil_iff]
  intro c hc
  rw [h c.2 (List.mem_of_getElem? (mem_indexed.mp hc))]
  nofun

/-! ### The searches of the planner (R62, R63, R105) -/

section
variable {ls : List Landing} {position : Nat} {zones : BitVec 32} {dir : Direction}

theorem usableBeyond_found (hls : Ascending ls)
    (h : ∃ d ∈ ls, usable zones d = true ∧ Ahead dir position d.height) :
    ∃ n d, nearest position (usableBeyond zones ls dir position) = some (n, d) ∧ ls[n]? = some d
      ∧ Nearest ls position (fun d => usable zones d = true ∧ Ahead dir position d.height) d :=
  nearest_filter_found (test := fun d => usable zones d && beyond dir position d) hls
    (fun d _ => by rw [Bool.and_eq_true, beyond_iff]) h

theorem usableBeyond_none (h : ∀ d ∈ ls, usable zones d = true → ¬ Ahead dir position d.height) :
    nearest position (usableBeyond zones ls dir position) = none :=
  nearest_filter_none (test := fun d => usable zones d && beyond dir position d) position fun d hd => by
    rw [Bool.and_eq_false_imp, Bool.eq_false_iff, ne_eq, beyond_iff]
    exact h d hd

/-- The nearest landing ahead, usable or not, by its index (R105, R108). -/
theorem nextLanding_found (hls : Ascending ls) (h : ∃ d ∈ ls, Ahead dir position d.height) :
    ∃ n d, nextLanding ls dir position = some n ∧ ls[n]? = some d
      ∧ Nearest ls position (fun d => Ahead dir position d.height) d := by
  obtain ⟨n, d, hn, hd⟩ :=
    nearest_filter_found (test := beyond dir position) (position := position) hls (fun _ _ => beyond_iff) h
  exact ⟨n, d, by rw [nextLanding, hn]; rfl, hd⟩

theorem nextLanding_none (h : ∀ d ∈ ls, ¬ Ahead dir position d.height) : nextLanding ls dir position = none := by
  have hn := nearest_filter_none (test := beyond dir position) position
    fun d hd => Bool.eq_false_iff.mpr (mt beyond_iff.mp (h d hd))
  rw [nextLanding, hn]
  rfl

theorem nextLanding_eq_none_iff (hls : Ascending ls) :
    nextLanding ls dir position = none ↔ ∀ d ∈ ls, ¬ Ahead dir position d.height := by
  refine ⟨fun hnone d hd hahead => ?_, nextLanding_none⟩
  obtain ⟨n, -, hn, -⟩ := nextLanding_found hls ⟨d, hd, hahead⟩
  cases hnone.symm.trans hn

theorem nextLanding_nearest {n : Nat} (hls : Ascending ls) (h : nextLanding ls dir position = some n) :
    ∃ d, ls[n]? = some d ∧ Nearest ls position (fun d => Ahead dir position d.height) d := by
  by_cases hahead : ∃ d ∈ ls, Ahead dir position d.height
  · obtain ⟨m, d, hm, hd⟩ := nextLanding_found hls hahead
    cases h.symm.trans hm
    exact ⟨d, hd⟩
  · cases h.symm.trans (nextLanding_none fun d hd ha => hahead ⟨d, hd, ha⟩)

end

/-! ### Plans with a target, and without one (R61 to R63, R69) -/

theorem costed_aims {i : PlanInput} {n : Nat} {d : Landing} (mode : Mode) (dir : Direction) (power : Nat)
    (hd : i.landings[n]? = some d) (hu : usable i.zones d = true) :
    Aims i (costed i.entry mode dir (some n) (reach i.position d) power i.merit) n d := ⟨rfl, hd, hu, rfl⟩

theorem noTarget_noLanding (mode : Mode) (dir : Direction) (merit : Nat) :
    NoLanding (noTarget mode dir merit .noUsableLanding) := ⟨rfl, rfl, rfl⟩

section
variable {i : PlanInput}

/-- A landing beyond the car in the gravity direction is reached by gravity (R62). -/
theorem planGravity_of_ahead {pull : Direction} (back : Direction) (hls : Ascending i.landings)
    (h : ∃ d ∈ i.landings, usable i.zones d = true ∧ Ahead pull i.position d.height) :
    (planGravity i pull back).mode = .gravity ∧ (planGravity i pull back).direction = pull
      ∧ ∃ n d, Aims i (planGravity i pull back) n d ∧ Nearest i.landings i.position
          (fun d => usable i.zones d = true ∧ Ahead pull i.position d.height) d := by
  obtain ⟨n, d, hn, hd, hnear⟩ := usableBeyond_found hls h
  simp only [planGravity, hn]
  exact ⟨rfl, rfl, n, d, costed_aims _ _ _ hd hnear.1.1, hnear⟩

theorem planGravity_of_none_ahead {pull : Direction} (back : Direction)
    (h : ∀ d ∈ i.landings, usable i.zones d = true → ¬ Ahead pull i.position d.height) :
    planGravity i pull back = planFallback i pull back := by
  simp only [planGravity, usableBeyond_none h]

theorem planFallback_mode (i : PlanInput) (pull back : Direction) :
    (planFallback i pull back).mode = .assisted ∧ (planFallback i pull back).direction = back := by
  unfold planFallback
  dsimp only
  split
  · exact ⟨rfl, rfl⟩
  · split <;> exact ⟨rfl, rfl⟩

/-- The fallback drives to the nearest usable landing: none of them lies in the gravity direction (R62). -/
theorem planFallback_aims {pull : Direction} (back : Direction) (hls : Ascending i.landings)
    (hback : ∀ d ∈ i.landings, usable i.zones d = true → ¬ Ahead pull i.position d.height)
    (hpower : i.entry.assistPower ≠ 0) (h : ∃ d ∈ i.landings, usable i.zones d = true) :
    ∃ n d, Aims i (planFallback i pull back) n d
      ∧ Nearest i.landings i.position (fun d => usable i.zones d = true) d := by
  have htest : ∀ d ∈ i.landings,
      (usable i.zones d && !beyond pull i.position d) = true ↔ usable i.zones d = true := fun d hd => by
    rw [Bool.and_eq_true, Bool.not_eq_true', Bool.eq_false_iff, ne_eq, beyond_iff]
    exact and_iff_left_of_imp (hback d hd)
  obtain ⟨n, d, hn, hd, hnear⟩ := nearest_filter_found (position := i.position) hls htest h
  simp only [planFallback, hn, if_neg hpower]
  exact ⟨n, d, costed_aims _ _ _ hd hnear.1, hnear⟩

theorem planFallback_noLanding (pull back : Direction)
    (h : i.entry.assistPower = 0 ∨ ∀ d ∈ i.landings, usable i.zones d = false) :
    NoLanding (planFallback i pull back) := by
  unfold planFallback
  dsimp only
  split
  · exact noTarget_noLanding ..
  · next c hc =>
    obtain hpower | hnone := h
    · rw [if_pos hpower]
      exact noTarget_noLanding ..
    · rw [nearest_filter_none (test := fun d => usable i.zones d && !beyond pull i.position d) i.position
        fun d hd => by simp [hnone d hd]] at hc
      cases hc

theorem planAssisted_mode (i : PlanInput) : (planAssisted i).mode = .assisted := by
  unfold planAssisted
  split
  · rfl
  · dsimp only
    split <;> rfl

/-- A balanced car is driven to the nearest usable landing of all, up when it lies above (R62). -/
theorem planAssisted_aims (hls : Ascending i.landings) (hpower : i.entry.assistPower ≠ 0)
    (h : ∃ d ∈ i.landings, usable i.zones d = true) :
    ∃ n d, Aims i (planAssisted i) n d ∧ ((planAssisted i).direction = .up ↔ i.position < d.height)
      ∧ Nearest i.landings i.position (fun d => usable i.zones d = true) d := by
  obtain ⟨n, d, hn, hd, hnear⟩ :=
    nearest_filter_found (test := usable i.zones) (position := i.position) hls (fun _ _ => Iff.rfl) h
  simp only [planAssisted, hn, if_neg hpower]
  exact ⟨n, d, costed_aims _ _ _ hd hnear.1, by simp, hnear⟩

theorem planAssisted_noLanding (h : i.entry.assistPower = 0 ∨ ∀ d ∈ i.landings, usable i.zones d = false) :
    NoLanding (planAssisted i) := by
  unfold planAssisted
  split
  · exact noTarget_noLanding ..
  · next c hc =>
    obtain hpower | hnone := h
    · dsimp only
      rw [if_pos hpower]
      exact noTarget_noLanding ..
    · rw [nearest_filter_none i.position hnone] at hc
      cases hc

/-! ### Directed runs (R63) -/

theorem planDirected_mode (i : PlanInput) (mode : Mode) (dir : Direction) :
    (planDirected i mode dir).mode = mode ∧ (planDirected i mode dir).direction = dir := by
  unfold planDirected
  split <;> exact ⟨rfl, rfl⟩

theorem planDirected_aims (mode : Mode) {dir : Direction} (hls : Ascending i.landings)
    (h : ∃ d ∈ i.landings, usable i.zones d = true ∧ Ahead dir i.position d.height) :
    ∃ n d, Aims i (planDirected i mode dir) n d ∧ Nearest i.landings i.position
      (fun d => usable i.zones d = true ∧ Ahead dir i.position d.height) d := by
  obtain ⟨n, d, hn, hd, hnear⟩ := usableBeyond_found hls h
  simp only [planDirected, hn]
  exact ⟨n, d, costed_aims _ _ _ hd hnear.1.1, hnear⟩

theorem planDirected_noLanding (mode : Mode) {dir : Direction}
    (h : ∀ d ∈ i.landings, usable i.zones d = true → ¬ Ahead dir i.position d.height) :
    NoLanding (planDirected i mode dir) := by
  simp only [planDirected, usableBeyond_none h]
  exact noTarget_noLanding ..

end

end Sys2Proof.Machine

open Sys2Proof Sys2Proof.Machine Sys2Proof.Slice0 in
/-- Settles O47: each branch of a free run, and a directed run, by the search it makes among the landings. -/
theorem targetsAreTheNearest : Obligations.TargetsAreTheNearest := by
  intro i hls
  refine ⟨?free, ?directed⟩
  case free =>
    rintro _ hdoubt rfl
    refine ⟨fun m hm hu => ?marker, fun hno => ⟨fun pull back hpull => ?pulled, fun hbalanced => ?balanced⟩⟩
    case marker =>
      rw [planFree_of_marker hdoubt hm hu]
      exact ⟨rfl, rfl, rfl, rfl⟩
    case pulled =>
      rw [planFree_of_pull hdoubt hno hpull]
      refine ⟨planGravity_of_ahead back hls, fun hback => ?_⟩
      rw [planGravity_of_none_ahead back hback]
      obtain ⟨hmode, hdir⟩ := planFallback_mode i pull back
      exact ⟨hmode, hdir, planFallback_aims back hls hback, planFallback_noLanding pull back⟩
    case balanced =>
      rw [planFree_of_balanced hdoubt hno hbalanced]
      exact ⟨planAssisted_mode i, planAssisted_aims hls, planAssisted_noLanding⟩
  case directed =>
    rintro mode dir _ rfl
    obtain ⟨hmode, hdir⟩ := planDirected_mode i mode dir
    exact ⟨hmode, hdir, planDirected_aims mode hls, planDirected_noLanding mode,
      nextLanding_eq_none_iff hls, fun n => nextLanding_nearest hls⟩
end

section
/-! The two fields a command's end leaves quiet: no evaluation owing (R80) and a transmitter that does not idle while a
source may send (R152). -/

namespace Sys2Proof.Machine

open Slice0

/-- No evaluation is owing and the transmitter does not idle while a source may send. -/
abbrev OwesNothing (s : State) : Prop := s.Settled ∧ s.LinkServed

/-- The two are read off the evaluation owing and the port. -/
theorem owesNothing_congr {s u : State} (hd : u.admissionDue = s.admissionDue) (hl : u.link = s.link)
    (h : OwesNothing s) : OwesNothing u := by
  refine ⟨hd.trans h.1, fun ht => ?_⟩
  rw [nextUpward_isNone_congr hl]
  exact h.2 (hl ▸ ht)

theorem atTime_owesNothing {s : State} (t : TimeTag) (h : OwesNothing s) : OwesNothing (s.atTime t) :=
  owesNothing_congr (s := s) rfl rfl h

/-- Whatever a command has done, its end evaluates what is owing and offers the transmitter a frame. -/
theorem finish_owesNothing (s : State) (now : TimeTag) : OwesNothing (s.finish now) := by
  refine ⟨finish_admissionDue s now, fun ht => ?_⟩
  obtain ⟨he, hn⟩ := transmit_free (s.settle now) ht
  show ((s.settle now).transmit).nextUpward.isNone
  rw [he, hn]
  rfl

theorem takeRequest_owesNothing {s : State} (r : Request) (n : Nat) (t : TimeTag) (h : OwesNothing s) :
    OwesNothing (s.takeRequest r n t) := by
  rcases takeRequest_cases s r n t with ⟨-, e⟩ | ⟨-, -, e⟩ | ⟨-, -, e⟩ <;> rw [e]
  · exact atTime_owesNothing t h
  · exact finish_owesNothing _ t
  · exact finish_owesNothing _ t

theorem requestArrives_owesNothing {s : State} (d : BitVec 6) (p : List Word) (t : TimeTag) (h : OwesNothing s) :
    OwesNothing (s.requestArrives d p t) := by
  unfold State.requestArrives
  split
  · exact takeRequest_owesNothing _ _ t h
  · split
    · exact atTime_owesNothing t h
    · exact finish_owesNothing _ t

theorem remoteArrives_owesNothing {s : State} (c : RemoteCommand) (t : TimeTag) (h : OwesNothing s) :
    OwesNothing (s.remoteArrives c t) := by
  unfold State.remoteArrives
  split
  · exact atTime_owesNothing t h
  · exact finish_owesNothing _ t

theorem linkWords_owesNothing {s : State} (ws : List Word) (whole : Bool) (t : TimeTag) (h : OwesNothing s) :
    OwesNothing (s.linkWords ws whole t) := by
  unfold State.linkWords
  split
  · exact finish_owesNothing _ t
  · exact atTime_owesNothing t h

theorem ringWords_owesNothing {s : State} (lane : Lane) (ws : List Word) (whole : Bool) (t : TimeTag)
    (h : OwesNothing s) : OwesNothing (s.ringWords lane ws whole t) := by
  unfold State.ringWords
  split
  · split
    · exact finish_owesNothing _ t
    · exact atTime_owesNothing t h
  · exact atTime_owesNothing t h

/-- The power-on state owes nothing: its port is empty. -/
theorem reset_owesNothing : OwesNothing State.reset := ⟨rfl, fun _ => rfl⟩

/-- A command ends in `finish`, only moves the time, or resets the block. -/
theorem exec_owesNothing {c : Instr} {s u : State} (h : OwesNothing s) (he : exec c s = .next u) : OwesNothing u := by
  cases c
  case powerOnReset => cases he; exact owesNothing_congr (s := State.reset) rfl rfl reset_owesNothing
  case managementRequestDiscard t d p => cases he; exact requestArrives_owesNothing d p t h
  case linkFrameDiscard t ws b => cases he; exact linkWords_owesNothing ws b t h
  case remoteCommand t d p => cases he; exact remoteArrives_owesNothing _ t h
  case ringFrameDiscard t lane ws b => cases he; exact ringWords_owesNothing lane ws b t h
  case allStopSendEnd | exchangeSendEnd | statusReport | powerReport | hazardReport | orderEcho | commandReply
      | replyWindowClose | descriptorGapExpiry | cycleStart | stepTimerExpiry | powerStaleExpiry | silenceExpiry
      | transmitEnd =>
    cases he; exact finish_owesNothing _ _
  all_goals cases he; exact takeRequest_owesNothing _ _ _ h

end Sys2Proof.Machine

open Sys2Proof Sys2Proof.Machine Sys2Proof.Slice0 in
/-- Settles O56: every command that does more than move the time ends in an evaluation of what is owing and an offer to
the transmitter. -/
theorem stepLeavesNothingOwing : Obligations.StepLeavesNothingOwing := by
  intro s t hd hl he
  unfold step at he
  split at he
  · cases he
    exact ⟨hd, hl⟩
  next c cs _ =>
    exact exec_owesNothing (owesNothing_congr (s := s) (u := { s with pending := cs }) rfl rfl ⟨hd, hl⟩) he
end

section
/-! The reservoir view (R74 to R76): the stale flag, the power report, and the two checks of the reserve floor. -/

namespace Sys2Proof.Machine

open Slice0

/-! ### The stale flag (R75) -/

/-- No power stale expiry falls: no report has come, the flag stands already, or the stale time still runs. -/
abbrev PowerKept (s : State) (now : TimeTag) : Prop :=
  s.reservoir.reportTime = none ∨ s.reservoir.stale = true
    ∨ ∃ r, s.reservoir.reportTime = some r ∧ (now - r).toNat < s.params.powerStaleTime * 1000

theorem expirePower_of_due {s : State} {now r : TimeTag} (hr : s.reservoir.reportTime = some r)
    (hs : s.reservoir.stale = false) (h : s.params.powerStaleTime * 1000 ≤ (now - r).toNat) :
    s.expirePower now = raised { s with reservoir := { s.reservoir with stale := true } } 0 2 := by
  have hdue : s.powerStaleDue now = true := by
    simp only [State.powerStaleDue, hr, hs, elapsed, h, decide_true, Bool.not_false, Bool.and_self]
  exact if_pos hdue

theorem expirePower_of_kept {s : State} {now : TimeTag} (h : PowerKept s now) : s.expirePower now = s := by
  have hdue : s.powerStaleDue now = false := by
    unfold State.powerStaleDue elapsed
    rcases h with hr | hs | ⟨r, hr, hlt⟩
    · rw [hr]
    · rw [hs]
      split <;> rfl
    · rw [hr]
      simp only [Nat.not_le.mpr hlt, decide_false, Bool.and_false]
  exact if_neg (by simp [hdue])

/-! ### The power report (R74, R76) -/

theorem decodeFeed_eq {n : Nat} : decodeFeed n = near 1 4 n := by
  unfold decodeFeed near
  by_cases h0 : n = 0
  · rw [if_pos h0, if_pos (by omega)]
  · rw [if_neg h0, if_neg (show ¬ n < 1 by omega)]
    by_cases h4 : 4 < n
    · rw [if_pos h4, Nat.min_eq_right h4.le]
    · rw [if_neg h4, Nat.min_eq_left (by omega)]

theorem reportsLow_iff (s : State) (level : Nat) :
    s.reportsLow level = true ↔
      level < s.params.reserveFloor ∧ (s.params.reserveFloor ≤ s.reservoir.level ∨ s.reservoir.stale = true) := by
  simp [State.reportsLow]

theorem powerReportsAreTaken : PowerReportsAreTaken := by
  intro s p now e he
  have hfeed : decodeFeed (field (wordAt p 1) 0 3) = near 1 4 (w p 1 % 8) := by
    rw [decodeFeed_eq, field, pow_zero, Nat.div_one]
    rfl
  unfold State.takePower
  dsimp only
  rw [hfeed]
  by_cases h : s.reportsLow (wordAt p 0).toNat = true
  · rw [if_pos ((reportsLow_iff s (w p 0)).mp h)] at he
    subst he
    rw [if_pos h]
    rfl
  · rw [if_neg (fun hlow => h ((reportsLow_iff s (w p 0)).mpr hlow))] at he
    subst he
    rw [if_neg h]
    rfl

theorem powerStatesAreMapped : PowerStatesAreMapped := by
  refine ⟨rfl, rfl, rfl, fun n h => ?_⟩
  obtain ⟨k, rfl⟩ := Nat.exists_eq_add_of_le' h
  rfl

@[simp] theorem takePower_reservoir (s : State) (p : List Word) (now : TimeTag) :
    (s.takePower p now).reservoir =
      { level := w p 0, feedCount := near 1 4 (w p 1 % 8), state := PowerState.ofCode (w p 1 / 256 % 8),
        reportTime := some now, stale := false } := by
  rw [powerReportsAreTaken s p now _ rfl]

@[simp] theorem takePower_hazard (s : State) (p : List Word) (now : TimeTag) :
    (s.takePower p now).hazard = s.hazard := by
  rw [powerReportsAreTaken s p now _ rfl]
  show (if _ then raised s 0 1 else s).hazard = s.hazard
  split <;> rfl

@[simp] theorem lift_takePower (s : State) (p : List Word) (now : TimeTag) (k : Lift) :
    (s.takePower p now).lift k = s.lift k := by
  rw [powerReportsAreTaken s p now _ rfl]
  show (if _ then raised s 0 1 else s).lift k = s.lift k
  split <;> rfl

/-- A reply to a POLL POWER (R74, R131). -/
theorem jobReply_pollPower (s : State) {d : Descriptor} (asked : Lane) (n : Nat) (r : Reply) (now : TimeTag)
    (hk : d.kind = .pollPower) :
    s.jobReply (.poll d asked n) r now =
      ((if r.source.toNat = s.params.powerNode then s.takePower r.payload now else s).settle now, .ended) := by
  rw [State.jobReply, hk]

/-- A reply to a POLL POWER from the power unit's node, and from another (R74, R113). -/
theorem exec_powerReport {s : State} {t : TimeTag} {x : Exchange} {r : Reply} {start : TimeTag} {gap : Nat}
    {d : Descriptor} {lane : Lane} {n : Nat} (ha : Answers s x .power r t)
    (hp : s.scan.phase = .working start gap (.poll d lane n)) (hk : d.kind = .pollPower) :
    exec (.powerReport t r) s =
      .next (exchangeOver ((if x.dest = s.params.powerNode then (s.atTime t).takePower r.payload t
        else s.atTime t).settle t) x true start gap t) := by
  obtain ⟨hx, hr, hm⟩ := ha
  have hexec : exec (.powerReport t r) s = _ := exec_validReply (k := .power) hr hx hp hm
  obtain ⟨-, -, hsource, -⟩ := hm
  rw [hexec, jobReply_pollPower _ lane n r t hk, goneOn_ended, hsource]
  rfl

end Sys2Proof.Machine

open Sys2Proof Sys2Proof.Machine Sys2Proof.Slice0 in
/-- Settles O42: before its time, or after an earlier expiry, the command only moves the time. -/
theorem powerStaleExpirySetsTheFlag : Obligations.PowerStaleExpirySetsTheFlag := by
  intro s t hd hl
  have hexec : exec (.powerStaleExpiry t) s = .next (((s.atTime t).expirePower t).finish t) := rfl
  refine ⟨fun r hr hstale hdue => ?_, fun hkept => ?_⟩
  · rw [hexec, expirePower_of_due (s := s.atTime t) hr hstale hdue]
    exact congrArg _ (finish_of_not_due _ t hd)
  · rw [hexec, expirePower_of_kept (s := s.atTime t) hkept]
    exact congrArg _ (finish_of_served (s := s) t hd hl rfl rfl)

open Sys2Proof Sys2Proof.Machine Sys2Proof.Slice0 in
/-- Settles O33: the report writes the view, and neither the evaluation nor what follows the exchange touches it again. -/
theorem powerReportReplacesTheView : Obligations.PowerReportReplacesTheView := by
  refine ⟨fun s t x r start gap d lane n ha hp hk => ?_, powerStatesAreMapped, powerReportsAreTaken⟩
  have hexec := exec_powerReport ha hp hk
  have hafter : ∀ u : State, CycleKeeps u (exchangeOver (u.settle t) x true start gap t) := fun u =>
    (settle_cycleKeeps u t).trans (exchangeOver_cycleKeeps _ x true start gap t)
  refine ⟨fun hnode => ?_, fun hnode => ?_⟩
  · rw [if_pos hnode] at hexec
    refine ⟨⟨_, hexec, ?_⟩, hexec⟩
    have hkeeps := hafter ((s.atTime t).takePower r.payload t)
    have hview := hkeeps.reservoir.trans (takePower_reservoir _ _ _)
    refine ⟨sameTables_trans (takePower_eventKeeps (s.atTime t) r.payload t).tables hkeeps.tables,
      hkeeps.hazard.trans (takePower_hazard _ _ _), fun k => ?_, ?_⟩
    · have h := hkeeps.reports k
      rwa [lift_takePower] at h
    · rw [hview]
      exact ⟨rfl, rfl, rfl, rfl, rfl⟩
  · rw [if_neg hnode] at hexec
    have hkeeps := hafter (s.atTime t)
    exact ⟨⟨_, hexec, hkeeps.reservoir, hkeeps.hazard, hkeeps.tables⟩, hexec⟩
end

section
/-! The admission gate and walk (R81, R82), and the bound on the grants of one evaluation (R83, log 25): each grant uses
up one of the tries that the queued lifts have left. -/

namespace Sys2Proof.Machine

open Slice0

/-! ### The gate (R81) -/

theorem gateOpen_iff (s : State) :
    s.gateOpen = true ↔ s.reservoir.stale = false ∧ s.reservoir.state ≠ .fault
      ∧ s.rescuingCount < min s.params.concurrencyLimit s.reservoir.feedCount ∧ s.queue ≠ [] := by
  simp only [State.gateOpen, Bool.and_eq_true, Bool.not_eq_true', decide_eq_true_eq, List.isEmpty_eq_false_iff]
  tauto

theorem walks_of_closed (n : Nat) {s : State} (now : TimeTag) (h : s.gateOpen = false) : State.walks n s now = s := by
  cases n with
  | zero => rfl
  | succ n => rw [State.walks, h, if_neg Bool.false_ne_true]

theorem evaluateAdmission_of_closed {s : State} (now : TimeTag) (h : s.gateOpen = false) :
    s.evaluateAdmission now = { s with admissionDue := false } := by
  rw [State.evaluateAdmission, walks_of_closed _ now h]

theorem gateOpen_of_stale {s : State} (h : s.reservoir.stale = true) : s.gateOpen = false := by
  simp [State.gateOpen, h]

/-! ### The walk (R82) -/

/-- A walk that grants: the lifts passed over stand ahead of the lift granted, which is the first that fits. -/
theorem walk_grants {s : State} {q acc passed : List Lift} {l : Lift} (h : s.walk q acc = some (l, passed)) :
    ∃ ahead behind, q = ahead ++ l :: behind ∧ passed = acc ++ ahead ∧ s.fits l = true
      ∧ ∀ k ∈ ahead, s.fits k = false ∧ (s.lift k).bypass < s.params.bypassGuard := by
  induction q generalizing acc with
  | nil => simp [State.walk] at h
  | cons x xs ih =>
    unfold State.walk at h
    split at h
    next hx =>
      obtain ⟨rfl, rfl⟩ := Prod.mk.inj (Option.some.inj h)
      exact ⟨[], xs, rfl, by simp, hx, by simp⟩
    next hx =>
      split at h
      · exact absurd h (by simp)
      next hb =>
        obtain ⟨ahead, behind, rfl, rfl, hl, ha⟩ := ih h
        refine ⟨x :: ahead, behind, rfl, by simp, hl, ?_⟩
        simp only [List.mem_cons, forall_eq_or_imp]
        exact ⟨⟨by simpa using hx, by omega⟩, ha⟩

/-- A walk that grants nothing met a lift at its bypass guard that does not fit, or the end of the queue. -/
theorem walk_ends {s : State} {q acc : List Lift} (h : s.walk q acc = none) :
    (∀ k ∈ q, s.fits k = false)
    ∨ ∃ ahead k behind, q = ahead ++ k :: behind ∧ s.fits k = false ∧ s.params.bypassGuard ≤ (s.lift k).bypass
        ∧ ∀ j ∈ ahead, s.fits j = false := by
  induction q generalizing acc with
  | nil => exact .inl (by simp)
  | cons x xs ih =>
    unfold State.walk at h
    split at h
    · exact absurd h (by simp)
    next hx =>
      have hx' : s.fits x = false := by simpa using hx
      split at h
      next hb => exact .inr ⟨[], x, xs, rfl, hx', hb, by simp⟩
      next =>
        rcases ih h with ha | ⟨ahead, k, behind, rfl, hk, hb, ha⟩
        · exact .inl (by simpa [hx'] using ha)
        · exact .inr ⟨x :: ahead, k, behind, rfl, hk, hb, by simpa [hx'] using ha⟩

/-! ### Return to the queue (R11, R16) -/

theorem not_mem_enterManual_queue {s : State} {l : Lift} (why : ManualReason) (h : l ∉ s.queue) :
    l ∉ (s.enterManual l why).queue := by
  rw [enterManual_eq, moved_queue, mem_left_queue]
  exact fun hl => h hl.1

/-- The STALLED evaluation of a lift outside the queue leaves it its attempts, if it puts it into the queue. -/
theorem evaluateStalled_requeued {s : State} {l : Lift} {now : TimeTag} (hs : (s.lift l).state = .stalled)
    (hq : l ∉ s.queue) (hl : l ∈ (s.evaluateStalled l now).queue) :
    ((s.evaluateStalled l now).lift l).attempt = (s.lift l).attempt := by
  have hout : ∀ c, l ∉ (moved s l c).queue := fun c => by rwa [moved_queue]
  have hrun : l ∉ (s.runPlanner l now).queue := by rwa [(runPlanner_stepFrame s l now).queue]
  rcases evaluateStalled_cases now hs with ⟨-, -, -, e⟩ | ⟨-, -, -, -, e⟩ | ⟨-, e⟩ <;> rw [e] at hl ⊢
  · exact absurd hl (hout _)
  · exact absurd hl (hout _)
  · cases hh : (s.lift l).hold with
    | true =>
      rw [planStalled_held now hh] at hl
      exact absurd hl hrun
    | false =>
      cases hp : (s.freePlan l now).feasible with
      | true =>
        rw [planStalled_queues now hh hp, lift_enterQueued_same, lift_runPlanner_same]
        rfl
      | false =>
        rw [planStalled_gives_up now hh hp] at hl
        exact absurd hl (not_mem_enterManual_queue _ hrun)

theorem endRetry_requeued {s : State} {l : Lift} {now : TimeTag} (hq : l ∉ s.queue)
    (hl : l ∈ (s.endRetry l now).queue) :
    ((s.endRetry l now).lift l).attempt = (s.lift l).attempt + 1
      ∧ (s.lift l).attempt < (s.lift l).entry.maxAttempts := by
  unfold State.endRetry at hl ⊢
  by_cases hlt : (s.lift l).attempt < (s.lift l).entry.maxAttempts
  · rw [if_pos hlt, enterStalled_eq] at hl ⊢
    refine ⟨(evaluateStalled_requeued (by simp) ?_ hl).trans (by simp), hlt⟩
    rwa [moved_queue]
  · rw [if_neg hlt] at hl
    exact absurd hl (not_mem_enterManual_queue _ hq)

theorem not_mem_enterReleased_queue {s : State} {l : Lift} (h : l ∉ s.queue) : l ∉ (s.enterReleased l).queue := by
  obtain ⟨u, rfl, e | e⟩ := enterReleased_cases s l <;> rw [e]
  · rwa [moved_queue]
  · show l ∉ (moved s l _).queue
    rwa [moved_queue]

/-- An ending puts a lift back into the queue at the price of one attempt. -/
theorem endAs_requeued {s : State} {l : Lift} {why : Ending} {aborted : Bool} {now : TimeTag} (hq : l ∉ s.queue)
    (hl : l ∈ (s.endAs l why aborted now).queue) :
    ((s.endAs l why aborted now).lift l).attempt = (s.lift l).attempt + 1
      ∧ (s.lift l).attempt < (s.lift l).entry.maxAttempts := by
  cases why with
  | reached outcome =>
    cases aborted with
    | true => exact absurd hl (not_mem_enterManual_queue _ hq)
    | false =>
      cases outcome with
      | released => exact absurd hl (not_mem_enterReleased_queue hq)
      | manual => exact absurd hl (not_mem_enterManual_queue _ hq)
      | retry => exact endRetry_requeued hq hl
  | stepLimit => exact absurd hl (not_mem_enterManual_queue _ hq)
  | safety => exact absurd hl (not_mem_enterManual_queue (s := s.postPartStop l) _ hq)
  | lostContact => exact absurd hl (not_mem_enterManual_queue (s := s.setSlot l none) _ hq)

theorem dropExecution_context (s : State) (l : Lift) :
    (s.dropExecution l).queue = s.queue ∧ (s.dropExecution l).lift l = { s.lift l with rescue := none } := by
  cases h : (s.lift l).rescue with
  | none =>
    have hsame : ({ s.lift l with rescue := none } : LiftContext) = s.lift l := by rw [← h]
    rw [State.dropExecution, h]
    exact ⟨rfl, hsame.symm⟩
  | some r =>
    rw [dropExecution_eq s l r h]
    exact ⟨rfl, lift_setLift_same s l _⟩

/-- An execution outside the queue that runs on or ends is back in the queue only at the price of one attempt (R16). -/
theorem RunsOrEnds.requeued {l : Lift} {now : TimeTag} {s u : State} (h : RunsOrEnds l now s u) (hq : l ∉ s.queue)
    (hl : l ∈ u.queue) :
    (u.lift l).attempt = (s.lift l).attempt + 1 ∧ (s.lift l).attempt < (s.lift l).entry.maxAttempts := by
  rcases h with h | ⟨v, why, h, -, rfl⟩
  · exact absurd (h.queue ▸ hl) hq
  · obtain ⟨hdq, hdl⟩ := dropExecution_context v l
    rw [endExecution_eq] at hl ⊢
    have hend := endAs_requeued (by rwa [hdq, h.queue]) hl
    rw [hdl, h.context] at hend
    exact hend

/-! ### The tries left (R16, R83) -/

/-- The grants that a lift can still have within one evaluation: none outside the queue, else one for each attempt. -/
def State.triesLeft (s : State) (l : Lift) : Nat :=
  if l ∈ s.queue then (s.lift l).entry.maxAttempts + 1 - (s.lift l).attempt + 1 else 0

/-- The grants that one evaluation can still make. -/
def State.grantsLeft (s : State) : Nat := (allLifts.map s.triesLeft).sum

theorem mem_allLifts (l : Lift) : l ∈ allLifts := by simp [allLifts]

theorem grantsLeft_lt_walkBound (s : State) : s.grantsLeft < s.walkBound := by
  refine Nat.lt_succ_of_le (List.sum_le_sum fun l _ => ?_)
  unfold State.triesLeft
  split
  · exact le_rfl
  · exact Nat.zero_le _

/-- A grant leaves every other lift its place, its entry and its attempts. -/
theorem grant_triesLeft_other (s : State) {l k : Lift} (passed : List Lift) (now : TimeTag) (h : k ≠ l) :
    (s.grant l passed now).triesLeft k = s.triesLeft k := by
  have hf := (startStep_runsOrEnds (s.beginRescue l passed) l (s.lift l).startIndex now).liftFrame
  have hk : (s.grant l passed now).lift k = _ := hf.lift_other k h
  have hq : k ∈ (s.grant l passed now).queue ↔ _ := hf.queue_other k h
  obtain ⟨q, e, -⟩ := foldl_raiseBypass_context (s.dequeue l) passed k
  rw [lift_beginRescue_other s passed h, e, lift_dequeue, if_neg h] at hk
  rw [mem_beginRescue_queue] at hq
  simp only [State.triesLeft, hk, hq, h, ne_eq, not_false_eq_true, and_true]

/-- The lift granted has one try less, whether its execution runs on, has ended, or has brought it back (R16, R83). -/
theorem grant_triesLeft_same {s : State} {l : Lift} (passed : List Lift) (now : TimeTag) (h : l ∈ s.queue) :
    (s.grant l passed now).triesLeft l < s.triesLeft l := by
  have hrun := startStep_runsOrEnds (s.beginRescue l passed) l (s.lift l).startIndex now
  have hout : l ∉ (s.beginRescue l passed).queue := fun hl => ((mem_beginRescue_queue s l l passed).mp hl).2 rfl
  have hentry : ((s.grant l passed now).lift l).entry = (s.lift l).entry := by
    have he := (startStep_rescueFrame (s.beginRescue l passed) l (s.lift l).startIndex now).entry l
    rw [lift_beginRescue_same] at he
    exact he
  rw [State.triesLeft, State.triesLeft, if_pos h, hentry]
  split
  next hl =>
    obtain ⟨hspent, hmore⟩ := hrun.requeued hout hl
    rw [lift_beginRescue_same] at hspent hmore
    have hspent' : ((s.grant l passed now).lift l).attempt = (s.lift l).attempt + 1 := hspent
    have hmore' : (s.lift l).attempt < (s.lift l).entry.maxAttempts := hmore
    omega
  · exact Nat.succ_pos _

theorem grant_grantsLeft {s : State} {l : Lift} (passed : List Lift) (now : TimeTag) (h : l ∈ s.queue) :
    (s.grant l passed now).grantsLeft < s.grantsLeft := by
  refine List.sum_lt_sum _ _ (fun k _ => ?_) ⟨l, mem_allLifts l, grant_triesLeft_same passed now h⟩
  by_cases hk : k = l
  · subst hk
    exact (grant_triesLeft_same passed now h).le
  · exact (grant_triesLeft_other s passed now hk).le

/-- With more walks allowed than grants are left, the number allowed makes no difference (log 25). -/
theorem walks_of_enough {n m : Nat} {s : State} (now : TimeTag) (hn : s.grantsLeft < n) (hm : s.grantsLeft < m) :
    State.walks n s now = State.walks m s now := by
  induction n generalizing m s with
  | zero => omega
  | succ n ih =>
    obtain ⟨m, rfl⟩ := Nat.exists_eq_succ_of_ne_zero (by omega : m ≠ 0)
    unfold State.walks
    split
    · split
      next l passed hw =>
        have hless := grant_grantsLeft passed now (walk_mem hw)
        exact ih (by omega) (by omega)
      · rfl
    · rfl

/-! ### One evaluation (R80, R83) -/

theorem evaluateAdmission_grants {s : State} {l : Lift} {passed : List Lift} (now : TimeTag) (hg : s.gateOpen = true)
    (hw : s.walk s.queue [] = some (l, passed)) :
    s.evaluateAdmission now = (s.grant l passed now).evaluateAdmission now := by
  have hless := grant_grantsLeft passed now (walk_mem hw)
  have hbound := grantsLeft_lt_walkBound s
  have hstep : State.walks s.walkBound s now = State.walks (s.walkBound - 1) (s.grant l passed now) now := by
    obtain ⟨n, hn⟩ := Nat.exists_eq_succ_of_ne_zero (by omega : s.walkBound ≠ 0)
    rw [hn, State.walks, if_pos hg, hw]
    rfl
  rw [State.evaluateAdmission, State.evaluateAdmission, hstep,
    walks_of_enough now (by omega) (grantsLeft_lt_walkBound (s.grant l passed now))]

theorem evaluateAdmission_of_no_grant {s : State} (now : TimeTag) (hw : s.walk s.queue [] = none) :
    s.evaluateAdmission now = { s with admissionDue := false } := by
  have hnone : State.walks s.walkBound s now = s := by
    obtain ⟨n, hn⟩ := Nat.exists_eq_succ_of_ne_zero (show s.walkBound ≠ 0 by simp [State.walkBound])
    rw [hn, State.walks, hw, ite_self]
  rw [State.evaluateAdmission, hnone]

end Sys2Proof.Machine

open Sys2Proof Sys2Proof.Machine Sys2Proof.Slice0 in
/-- Settles O49: a grant uses up a try of its lift, so the walks allowed never run out. -/
theorem walkGrantsTheFirstThatFits : Obligations.WalkGrantsTheFirstThatFits := by
  refine ⟨fun s now hclosed => ?_, fun s now hstale hfault hcount hqueue => ?_, fun s q fits hfits => ?_⟩
  · refine evaluateAdmission_of_closed now (Bool.eq_false_iff.mpr fun hg => ?_)
    obtain ⟨hstale, hfault, hcount, hqueue⟩ := (gateOpen_iff s).mp hg
    rcases hclosed with h | h | h | h
    · simp [hstale] at h
    · exact hfault h
    · exact absurd hcount (Nat.not_lt.mpr h)
    · exact hqueue h
  · have hg := (gateOpen_iff s).mpr ⟨hstale, hfault, hcount, hqueue⟩
    exact ⟨fun l passed hw => evaluateAdmission_grants now hg hw, evaluateAdmission_of_no_grant now⟩
  · have hiff : ∀ k, s.fits k = true ↔ fits k := fun k => by
      rw [hfits]
      exact decide_eq_true_iff
    simp only [← hiff, Bool.not_eq_true]
    refine ⟨fun l passed hw => ?_, walk_ends⟩
    obtain ⟨ahead, behind, hq, rfl, hl, hahead⟩ := walk_grants hw
    exact ⟨behind, hq, hl, hahead⟩
end

section
/-! WRITE_ENTRY_PARAMETERS (R161): what a stored value brings about at once, and the checks of the write. -/

namespace Sys2Proof.Machine

open Slice0

/-! ### What a stored value brings about at once -/

theorem floorWritten_of_crossing {s : State} {old new : Nat} (hs : s.reservoir.stale = false)
    (hn : s.reservoir.level < new) (ho : old ≤ s.reservoir.level) : s.floorWritten old new = raised s 0 1 := by
  simp [State.floorWritten, hs, hn, ho, State.raiseStation, raised, StationReason.mask]

theorem floorWritten_of_none {s : State} {old new : Nat}
    (h : s.reservoir.stale = true ∨ new ≤ s.reservoir.level ∨ s.reservoir.level < old) : s.floorWritten old new = s := by
  refine if_neg ?_
  simp only [Bool.and_eq_true, Bool.not_eq_true', decide_eq_true_eq]
  rintro ⟨⟨hs, hn⟩, ho⟩
  rcases h with h | h | h
  · simp [hs] at h
  · omega
  · omega

/-- At an arrival no silence time has run (R151). -/
theorem expireSilence_of_arrival {s : State} {now : TimeTag} (ha : s.link.lastArrival = now)
    (ht : 1 ≤ s.params.linkSilenceTime) : s.expireSilence now = s := by
  refine if_neg ?_
  simp only [State.silenceDue, elapsed, ha, BitVec.sub_self, Bool.and_eq_true, decide_eq_true_eq, not_and]
  intro _
  show ¬ s.params.linkSilenceTime * 1000 ≤ 0
  omega

theorem expireCycle_of_not_waiting {s : State} (now : TimeTag) (h : s.scan.phase ≠ .cycleWait) :
    s.expireCycle now = s := by
  unfold State.expireCycle
  split
  · exact absurd ‹_› h
  · rfl

theorem cycleDue_iff {s : State} {began now : TimeTag} (h : s.scan.startTime = some began) :
    s.cycleDue now = true ↔ s.params.minCyclePeriod ≤ (now - began).toNat := by
  rw [State.cycleDue, State.cycleAge, h]
  exact decide_eq_true_iff

theorem expireCycle_of_due {s : State} {began now : TimeTag} (hp : s.scan.phase = .cycleWait)
    (h : s.scan.startTime = some began) (hd : s.params.minCyclePeriod ≤ (now - began).toNat) :
    s.expireCycle now = s.startCycle now := by
  rw [State.expireCycle, hp]
  exact if_pos ((cycleDue_iff h).mpr hd)

theorem expireCycle_of_early {s : State} {began now : TimeTag} (hp : s.scan.phase = .cycleWait)
    (h : s.scan.startTime = some began) (hd : (now - began).toNat < s.params.minCyclePeriod) :
    s.expireCycle now = s := by
  rw [State.expireCycle, hp]
  exact if_neg fun hdue => absurd ((cycleDue_iff h).mp hdue) (Nat.not_le.mpr hd)

/-- A parameter that nothing but the evaluation follows. -/
theorem paramStored_plain (s : State) {n : Nat} (old new : Nat) (now : TimeTag) (h8 : n ≠ 8) (h11 : n ≠ 11)
    (h13 : n ≠ 13) (h15 : n ≠ 15) : s.paramStored n old new now = s.evaluateAdmission now := by
  simp only [State.paramStored, h8, h11, h13, h15, if_false]

theorem parametersActAtOnce : ParametersActAtOnce := by
  intro s old new now
  have h8 : s.paramStored 8 old new now = (s.floorWritten old new).evaluateAdmission now := rfl
  have h11 : s.paramStored 11 old new now = (s.expirePower now).evaluateAdmission now := rfl
  have h15 : s.paramStored 15 old new now = (s.expireSilence now).evaluateAdmission now := rfl
  have h13 : s.paramStored 13 old new now = (s.evaluateAdmission now).expireCycle now := rfl
  refine ⟨fun n => paramStored_plain s old new now, fun ⟨hs, hn, ho⟩ => ?_, fun h => ?_, fun r hr hs hd => ?_,
    fun h => ?_, fun ha ht => ?_, ?_⟩
  · rw [h8, floorWritten_of_crossing hs hn ho]
  · rw [h8, floorWritten_of_none h]
  · rw [h11, expirePower_of_due hr hs hd]
  · rw [h11, expirePower_of_kept h]
  · rw [h15, expireSilence_of_arrival ha ht]
  · rintro v rfl
    exact ⟨fun hp => h13.trans (expireCycle_of_not_waiting now hp), fun began hp hb =>
      ⟨fun hd => h13.trans (expireCycle_of_due hp hb hd), fun hd => h13.trans (expireCycle_of_early hp hb hd)⟩⟩

/-- With the view stale nothing follows a stored value, outside the wait for a cycle. -/
theorem paramStored_of_stale {s : State} {n : Nat} (old new : Nat) {now : TimeTag} (hs : s.reservoir.stale = true)
    (hp : s.scan.phase ≠ .cycleWait) (hd : s.admissionDue = false) (ha : s.link.lastArrival = now)
    (ht : n = 15 → 1 ≤ s.params.linkSilenceTime) : s.paramStored n old new now = s := by
  have heval : s.evaluateAdmission now = s := by
    rw [evaluateAdmission_of_closed now (gateOpen_of_stale hs), ← hd]
  have h8 : (if n = 8 then s.floorWritten old new else s) = s := by
    rw [floorWritten_of_none (.inl hs), ite_self]
  have h11 : (if n = 11 then s.expirePower now else s) = s := by
    rw [expirePower_of_kept (.inr (.inl hs)), ite_self]
  have h15 : (if n = 15 then s.expireSilence now else s) = s :=
    ite_eq_right_iff.mpr fun h => expireSilence_of_arrival ha (ht h)
  unfold State.paramStored
  dsimp only
  rw [h8, h11, h15, heval, expireCycle_of_not_waiting now hp, ite_self]

/-! ### Numbers and ranges -/

theorem parametersAreNumbered : ParametersAreNumbered := by
  refine ⟨rfl, fun p => ⟨rfl, fun n v hn => ?_⟩⟩
  interval_cases n <;> rfl

theorem paramRanges_ordered : ∀ r ∈ paramRanges, r.1 ≤ r.2 := by decide

theorem paramRanges_isNone {n : Nat} : paramRanges[n]? = none ↔ 18 < n := List.getElem?_eq_none_iff

theorem linkSilenceTime_store (p : Params) (v : Nat) : (p.store 15 v).linkSilenceTime = v := rfl

/-! ### The checks of the write -/

/-- The node of the unit that a node parameter does not name. -/
abbrev otherNode (s : State) (n : Nat) : Nat := if n = 17 then s.params.hazardNode else s.params.powerNode

theorem paramRefusal_of_scalar (s : State) {n : Nat} (v : Nat) (h : n < 17) : s.paramRefusal n v = none := by
  rw [State.paramRefusal, if_neg (by omega), if_neg (by omega)]

theorem paramRefusal_of_node (s : State) {n : Nat} (v : Nat) (h : 17 ≤ n) (h' : n ≤ 18) :
    s.paramRefusal n v = s.nodeRefusal v (otherNode s n) := by
  obtain rfl | rfl : n = 17 ∨ n = 18 := by omega
  · rfl
  · rfl

theorem nodeRefusal_range (s : State) {v : Nat} (n : Nat) (h : v = 0 ∨ 63 ≤ v) : s.nodeRefusal v n = some .range :=
  if_pos h

theorem nodeRefusal_invalid {s : State} {v n : Nat} (h0 : v ≠ 0) (h62 : v ≤ 62)
    (h : v = n ∨ ∃ l : Lift, (s.lift l).entry.ringNode = v) : s.nodeRefusal v n = some .invalid := by
  rw [State.nodeRefusal, if_neg (by omega), if_pos]
  simpa [allLifts] using h

theorem nodeRefusal_none {s : State} {v n : Nat} (h0 : v ≠ 0) (h62 : v ≤ 62) (hn : v ≠ n)
    (hl : ∀ l : Lift, (s.lift l).entry.ringNode ≠ v) : s.nodeRefusal v n = none := by
  rw [State.nodeRefusal, if_neg (by omega), if_neg]
  simpa [allLifts, hn] using hl

theorem writeParameter_range (s : State) {n : Nat} (ws : List Word) (now : TimeTag) (h : 18 < n) :
    s.writeParameter n ws now = s.refuse .range := by
  unfold State.writeParameter
  rw [paramRanges_isNone.mpr h]

theorem writeParameter_empty (s : State) {n : Nat} (now : TimeTag) (h : n ≤ 18) :
    s.writeParameter n [] now = s.refuse .invalid := by
  obtain ⟨r, hr⟩ := Option.ne_none_iff_exists'.mp (mt paramRanges_isNone.mp (Nat.not_lt.mpr h))
  unfold State.writeParameter
  rw [hr]

theorem writeParameter_refused {s : State} {n : Nat} {v : Word} {st : ReplyStatus} (rest : List Word) (now : TimeTag)
    (hn : n ≤ 18) (h : s.paramRefusal n v.toNat = some st) : s.writeParameter n (v :: rest) now = s.refuse st := by
  obtain ⟨r, hr⟩ := Option.ne_none_iff_exists'.mp (mt paramRanges_isNone.mp (Nat.not_lt.mpr hn))
  unfold State.writeParameter
  rw [hr]
  dsimp only
  rw [h]

theorem writeParameter_stored {s : State} {n lo hi : Nat} {v : Word} (rest : List Word) (now : TimeTag)
    (hr : paramRanges[n]? = some (lo, hi)) (h : s.paramRefusal n v.toNat = none) :
    s.writeParameter n (v :: rest) now =
      (({ s with params := s.params.store n (near lo hi v.toNat) } : State).paramStored n (s.params.values.getD n 0)
        (near lo hi v.toNat) now, doneOr (outside lo hi v.toNat)) := by
  unfold State.writeParameter
  rw [hr]
  dsimp only
  rw [h, clampScalar_eq_near _ (paramRanges_ordered _ (List.mem_of_getElem? hr))]

/-- DONE or DONE-CLAMPED, by whether the value was stored as it came (R156). -/
theorem doneOr_outside (lo hi n : Nat) :
    (doneOr (outside lo hi n)).status.code = if near lo hi n = n then 0 else 1 := by
  cases ho : outside lo hi n with
  | true => rw [if_neg ((outside_iff_near_ne lo hi n).mp ho)]; rfl
  | false => rw [if_pos (not_not.mp fun hne => by simp [(outside_iff_near_ne lo hi n).mpr hne] at ho)]; rfl

/-- The words of a stored value's answer. -/
theorem doneOr_eq (b : Bool) : doneOr b = ⟨(doneOr b).status, []⟩ := rfl

end Sys2Proof.Machine

open Sys2Proof Sys2Proof.Machine Sys2Proof.Slice0 in
/-- Settles O14: each check decides the write before the next one is made; with the view stale the gate of the evaluation
stays closed. -/
theorem parameterWriteIsDecided : Obligations.ParameterWriteIsDecided := by
  refine ⟨fun s t i ws hs hlen => ?_, parametersAreNumbered, parametersActAtOnce⟩
  have hrefuse : ∀ st : ReplyStatus,
      (taken s t).writeParameter i.toNat (data s .parameters i ws) t = (taken s t).refuse st →
      exec (.writeEntryParameters t i ws) s = .next (answered (taken s t) (reply st.code 0x25 [])) := fun st h =>
    exec_refuses (st := st) (r := .write .parameters i ws) (n := ws.length + 1) rfl hs (by omega) (by simp)
      ((serve_write s t .parameters i ws).trans h) rfl
  refine ⟨fun hi => hrefuse .range (writeParameter_range _ _ t hi), fun hi hnil => hrefuse .invalid ?_,
    fun v rest hdata => ⟨fun h17 h18 => ⟨fun hv => hrefuse .range ?_, fun hv0 hv62 hused => hrefuse .invalid ?_⟩,
      fun lo hi hrange hok x st hx hst => ?_⟩⟩
  · rw [hnil, writeParameter_empty _ t hi]
  · rw [hdata]
    refine writeParameter_refused rest t h18 ((paramRefusal_of_node _ _ h17 h18).trans (nodeRefusal_range _ _ ?_))
    exact hv.imp_left fun h => by rw [h]; rfl
  · rw [hdata]
    refine writeParameter_refused rest t h18 ((paramRefusal_of_node _ _ h17 h18).trans ?_)
    exact nodeRefusal_invalid (fun h => hv0 (BitVec.eq_of_toNat_eq h)) hv62 hused
  · have hnumber : i.toNat ≤ 18 := by
      by_contra h
      rw [paramRanges_isNone.mpr (by omega)] at hrange
      simp at hrange
    have hnone : (taken s t).paramRefusal i.toNat v.toNat = none := by
      by_cases h17 : i.toNat < 17
      · exact paramRefusal_of_scalar _ _ h17
      · obtain ⟨hv0, hv62, hl, hnode⟩ := hok.resolve_left h17
        rw [paramRefusal_of_node _ _ (Nat.not_lt.mp h17) hnumber]
        exact nodeRefusal_none (fun h => hv0 (BitVec.eq_of_toNat_eq h)) hv62 hnode hl
    subst hx hst
    have hserve := (serve_write s t .parameters i ws).trans
      ((congrArg ((taken s t).writeParameter i.toNat · t) hdata).trans (writeParameter_stored rest t hrange hnone))
    rw [doneOr_eq] at hserve
    rw [← doneOr_outside lo hi v.toNat]
    refine ⟨?_, fun hstale hphase => ?_⟩
    · rw [exec_request (r := .write .parameters i ws) (n := ws.length + 1) (t := t) rfl,
        takeRequest_of_serves hs (by omega) (by simp), hserve]
      rfl
    · rw [paramStored_of_stale _ _ (by exact hstale) (by exact hphase) (by exact hs.2.2) (by rfl)] at hserve
      · exact exec_answers (r := .write .parameters i ws) (n := ws.length + 1) rfl hs (by omega) (by simp) hserve hs.2.2
          rfl
      · intro h15
        rw [h15] at hrange ⊢
        obtain ⟨rfl, rfl⟩ := Prod.mk.inj (Option.some.inj hrange)
        rw [linkSilenceTime_store]
        unfold near
        split
        · exact le_rfl
        · split <;> omega
end

section
/-! ABORT taken at once (R107): the state it leaves before the abort recipe is entered. -/

namespace Sys2Proof.Machine

open Slice0

/-- Whether a CREEP step runs is read off the bank and the step of the record. -/
theorem inCreep_setLift {s : State} {l : Lift} {r q : RescueRecord} (h : (s.lift l).rescue = some r)
    (hb : q.bank = r.bank) (hs : q.step = r.step) :
    (s.setLift l { s.lift l with rescue := some q }).inCreep l = s.inCreep l := by
  have hq : ((s.setLift l { s.lift l with rescue := some q }).lift l).rescue = some q := by simp
  unfold State.inCreep
  rw [runningStep_eq hq, runningStep_eq h, hb, hs]
  rfl

/-- The first release of a creep reservation (R85, log 36). -/
theorem releaseCreep_of_first {s : State} {l : Lift} {r : RescueRecord} (h : (s.lift l).rescue = some r)
    (hr : r.creepReleased = false) :
    s.releaseCreep l =
      { s.setLift l { s.lift l with rescue := some { r with creepReleased := true } } with
        outstanding := s.outstanding - r.creepReservation, admissionDue := true } := by
  unfold State.releaseCreep
  rw [h]
  dsimp only
  rw [hr, if_neg Bool.false_ne_true, modRescue_eq _ h]
  rfl

theorem releaseCreep_of_released {s : State} {l : Lift} {r : RescueRecord} (h : (s.lift l).rescue = some r)
    (hr : r.creepReleased = true) : s.releaseCreep l = s := by
  unfold State.releaseCreep
  rw [h]
  exact if_pos hr

/-- A lift whose execution is about to enter the abort recipe with record `q`: the part's stop in the slot, the return
stack and the working values empty. -/
def stoppedWith (s : State) (l : Lift) (q : RescueRecord) : State :=
  (s.setLift l { s.lift l with rescue := some { q with stack := [], working := Working.empty } }).setSlot l
    (some { kind := .stopAndHold, poster := .part, sends := 15, tag := none })

theorem stoppedWith_eq {s : State} {l : Lift} {q : RescueRecord} (h : (s.lift l).rescue = some q) :
    (s.postPartStop l).modRescue l (fun r => { r with stack := [], working := Working.empty }) = stoppedWith s l q :=
  modRescue_eq (s := s.postPartStop l) _ h

theorem stoppedWith_setLift (s : State) (l : Lift) (x : Option RescueRecord) (q : RescueRecord) :
    stoppedWith (s.setLift l { s.lift l with rescue := x }) l q = stoppedWith s l q := by
  unfold stoppedWith
  rw [setLift_setLift, lift_setLift_same]

theorem entry_stoppedWith (s : State) (l : Lift) (q : RescueRecord) :
    ((stoppedWith s l q).lift l).entry = (s.lift l).entry := by
  unfold stoppedWith
  rw [lift_setSlot, lift_setLift_same]

/-- The abort-pending flag set in a record. -/
def abortMarked (s : State) (l : Lift) : State := s.modRescue l fun r => { r with abortPending := true }

/-- The creep reservation given back where a CREEP step runs. -/
def creepGivenBack (s : State) (l : Lift) : State := if s.inCreep l then s.releaseCreep l else s

/-- An ABORT at once, from the state in which the creep reservation has been dealt with. -/
theorem abortNow_of_stopped {s v : State} {l : Lift} {q : RescueRecord} (now : TimeTag)
    (hv : creepGivenBack (abortMarked s l) l = v) (hq : (v.lift l).rescue = some q) :
    s.abortNow l now = (stoppedWith v l q).startStep l (v.lift l).entry.abortStart now := by
  subst hv
  have habort : s.abortNow l now = (((creepGivenBack (abortMarked s l) l).postPartStop l).modRescue l
      fun r => { r with stack := [], working := Working.empty }).startStep l
        ((((creepGivenBack (abortMarked s l) l).postPartStop l).modRescue l
          fun r => { r with stack := [], working := Working.empty }).lift l).entry.abortStart now := rfl
  rw [habort, stoppedWith_eq hq, entry_stoppedWith]

theorem abortTaken_of_kept {s : State} {l : Lift} {r : RescueRecord} (hd : s.admissionDue = false)
    (hc : s.inCreep l = false ∨ r.creepReleased = true) :
    abortTaken s l r = stoppedWith s l { r with abortPending := true } := by
  have hflag : (r.creepReleased || s.inCreep l) = r.creepReleased := by
    rcases hc with h | h <;> rw [h] <;> simp
  have hdue : (s.inCreep l && !r.creepReleased) = s.admissionDue := by
    rcases hc with h | h <;> rw [h, hd] <;> simp
  have hhold : ¬ (s.inCreep l = true ∧ r.creepReleased = false) := by
    rcases hc with h | h <;> simp [h]
  unfold abortTaken
  rw [hflag, hdue, if_neg hhold]
  rfl

theorem abortTaken_of_released {s : State} {l : Lift} {r : RescueRecord} (hc : s.inCreep l = true)
    (hr : r.creepReleased = false) :
    abortTaken s l r =
      stoppedWith { s with outstanding := s.outstanding - r.creepReservation, admissionDue := true } l
        { r with abortPending := true, creepReleased := true } := by
  unfold abortTaken
  rw [hc, hr, if_pos ⟨rfl, rfl⟩]
  rfl

/-- An ABORT taken at once (R107): the creep reservation is kept outside the first CREEP step, else released (R85). -/
theorem abortNow_eq {s : State} {l : Lift} {r : RescueRecord} (now : TimeTag) (h : (s.lift l).rescue = some r)
    (hd : s.admissionDue = false) :
    s.abortNow l now = (abortTaken s l r).startStep l (s.lift l).entry.abortStart now := by
  have hu : abortMarked s l = s.setLift l { s.lift l with rescue := some { r with abortPending := true } } :=
    modRescue_eq _ h
  have hcreep : (abortMarked s l).inCreep l = s.inCreep l := by
    rw [hu]
    exact inCreep_setLift h rfl rfl
  have hp : ((abortMarked s l).lift l).rescue = some { r with abortPending := true } := by
    rw [hu, lift_setLift_same]
  by_cases hkept : s.inCreep l = false ∨ r.creepReleased = true
  · have hv : creepGivenBack (abortMarked s l) l =
        s.setLift l { s.lift l with rescue := some { r with abortPending := true } } := by
      unfold creepGivenBack
      rcases hkept with hc | hc
      · rw [hcreep, hc, if_neg Bool.false_ne_true, hu]
      · rw [releaseCreep_of_released hp hc, ite_self, hu]
    rw [abortNow_of_stopped now hv (by rw [lift_setLift_same]), stoppedWith_setLift, lift_setLift_same,
      abortTaken_of_kept hd hkept]
  · obtain ⟨hc, hr⟩ := not_or.mp hkept
    rw [Bool.not_eq_false] at hc
    rw [Bool.not_eq_true] at hr
    have hv : creepGivenBack (abortMarked s l) l =
        ({ s with outstanding := s.outstanding - r.creepReservation, admissionDue := true } : State).setLift l
          { s.lift l with rescue := some { r with abortPending := true, creepReleased := true } } := by
      unfold creepGivenBack
      rw [hcreep, hc, if_pos rfl, releaseCreep_of_first hp hr, hu, setLift_setLift, lift_setLift_same]
      rfl
    rw [abortNow_of_stopped now hv (by rw [lift_setLift_same]), lift_setLift_same, abortTaken_of_released hc hr]
    exact congrArg (State.startStep · l _ now) (stoppedWith_setLift
      { s with outstanding := s.outstanding - r.creepReservation, admissionDue := true } l _ _)

/-- Outside a moving creep with a landing ahead an ABORT is taken at once (R107, R108, log 31). -/
theorem abortExecution_at_once {s : State} {l : Lift} {r : RescueRecord} (now : TimeTag)
    (h : (s.lift l).rescue = some r) (hp : r.abortPending = false)
    (hnow : s.inCreep l = false ∨ (s.lift l).moving = false
      ∨ nextLanding (s.lift l).landings (s.lift l).creepDirection (s.lift l).pos.position = none) :
    s.abortExecution l now = s.abortNow l now := by
  unfold State.abortExecution
  rw [h]
  dsimp only
  rw [hp, if_neg Bool.false_ne_true]
  split
  next hmoving =>
    obtain ⟨hc, hm⟩ := Bool.and_eq_true_iff.mp hmoving
    have hn := (hnow.resolve_left (by simp [hc])).resolve_left (by simp [hm])
    rw [hn]
  · rfl

end Sys2Proof.Machine

open Sys2Proof Sys2Proof.Machine Sys2Proof.Slice0 in
/-- Settles O21: with no landing ahead of a moving creep there is nothing to wait for. -/
theorem abortIsTakenAtOnce : Obligations.AbortIsTakenAtOnce := by
  intro s t i l r hs hl hst hr hp hnow
  have hexec := exec_control_finish (t := t) .abort hs hl (by rw [hst]; rfl)
  have habort : (taken s t).act l .abort t = (taken s t).abortNow l t :=
    abortExecution_at_once (s := taken s t) t hr hp hnow
  rw [habort, abortNow_eq (s := taken s t) t hr hs.2.2] at hexec
  exact hexec
end

section
/-! The queue's merit order (R78, R79), and what the operations on a lift without an execution keep: the reservations, and
the merit order when the lift stands outside the queue. -/

namespace Sys2Proof.Machine

open Slice0

/-! ### Merit order -/

/-- A list of lifts in merit order, the greatest first (R78). -/
abbrev Ranked (s : State) (q : List Lift) : Prop := q.Pairwise fun a b => (s.lift b).merit ≤ (s.lift a).merit

theorem ranked_congr {s u : State} {q : List Lift} (h : ∀ k ∈ q, (u.lift k).merit = (s.lift k).merit)
    (hr : Ranked s q) : Ranked u q :=
  hr.imp_of_mem fun ha hb hab => by rw [h _ ha, h _ hb]; exact hab

/-- The order of the others stands whatever becomes of one lift. -/
theorem ranked_others {l : Lift} {s u : State} {q : List Lift} (h : ∀ k : Lift, k ≠ l → u.lift k = s.lift k)
    (hr : Ranked s q) : Ranked u (q.filter (· ≠ l)) :=
  ranked_congr (fun k hk => by rw [h k (by simpa using (List.mem_filter.mp hk).2)]) (hr.filter _)

/-- Outside the queue a lift has no say in its order. -/
theorem meritOrdered_of_not_mem {l : Lift} {s u : State} (h : ∀ k : Lift, k ≠ l → u.lift k = s.lift k)
    (hq : u.queue = s.queue) (hl : l ∉ s.queue) (ho : s.MeritOrdered) : u.MeritOrdered := by
  show Ranked u u.queue
  rw [hq]
  exact ranked_congr (fun k hk => by rw [h k fun e => hl (e ▸ hk)]) ho

theorem merit_le_of_goesBefore {s : State} {a b : Lift} (h : goesBefore s a b = true) :
    (s.lift b).merit ≤ (s.lift a).merit := by
  unfold goesBefore at h
  dsimp only at h
  by_cases hm : (s.lift a).merit ≠ (s.lift b).merit
  · rw [if_pos hm, decide_eq_true_eq] at h
    exact h.le
  · exact (not_not.mp hm).ge

theorem merit_le_of_not_goesBefore {s : State} {a b : Lift} (h : goesBefore s a b = false) :
    (s.lift a).merit ≤ (s.lift b).merit := by
  unfold goesBefore at h
  dsimp only at h
  by_cases hm : (s.lift a).merit ≠ (s.lift b).merit
  · rw [if_pos hm, decide_eq_false_iff_not] at h
    exact Nat.not_lt.mp h
  · exact (not_not.mp hm).le

theorem insertByKeys_ranked {s : State} {l : Lift} {q : List Lift} (h : Ranked s q) :
    Ranked s (insertByKeys s l q) := by
  induction q with
  | nil => exact List.pairwise_singleton _ _
  | cons x xs ih =>
    obtain ⟨hx, hxs⟩ := List.pairwise_cons.mp h
    unfold insertByKeys
    split
    next hb =>
      have hlx := merit_le_of_goesBefore hb
      refine List.pairwise_cons.mpr ⟨fun k hk => ?_, h⟩
      rcases List.mem_cons.mp hk with rfl | hk
      · exact hlx
      · exact (hx k hk).trans hlx
    next hb =>
      have hxl := merit_le_of_not_goesBefore (Bool.eq_false_iff.mpr hb)
      refine List.pairwise_cons.mpr ⟨fun k hk => ?_, ih hxs⟩
      rcases (mem_insertByKeys s l k xs).mp hk with rfl | hk
      · exact hxl
      · exact hx k hk

/-- An insertion among entries in merit order (R79). -/
theorem enqueue_meritOrdered {s : State} {l : Lift} (h : Ranked s (s.queue.filter (· ≠ l))) :
    (s.enqueue l).MeritOrdered := insertByKeys_ranked h

theorem left_meritOrdered (s : State) (l : Lift) (h : s.MeritOrdered) : (left s l).MeritOrdered := by
  unfold left
  split
  · exact h.filter _
  · exact h

/-- A lift that leaves the queue, if it stands there, leaves the rest in order (R79). -/
theorem moved_left_meritOrdered {s : State} {l : Lift} (c : LiftContext)
    (hq : l ∈ s.queue → (s.lift l).state = .queued) (h : s.MeritOrdered) : (moved (left s l) l c).MeritOrdered := by
  refine meritOrdered_of_not_mem (s := left s l) (fun k => lift_moved_other _ c) (moved_queue _ l c) (fun hl => ?_)
    (left_meritOrdered s l h)
  obtain ⟨hm, hk⟩ := (mem_left_queue s l l).mp hl
  exact hk (hq hm) rfl

/-! ### A lift without an execution -/

/-- An operation on one lift that reserves nothing and releases nothing, gives the lift no execution, and keeps the merit
order when the lift stands outside the queue. -/
structure Rests (l : Lift) (s u : State) : Prop where
  lift_other : ∀ k : Lift, k ≠ l → u.lift k = s.lift k
  outstanding : u.outstanding = s.outstanding
  rescue : (s.lift l).rescue = none → (u.lift l).rescue = none
  order : l ∉ s.queue → s.MeritOrdered → u.MeritOrdered

namespace Rests

theorem refl (l : Lift) (s : State) : Rests l s s := ⟨fun _ _ => rfl, rfl, id, fun _ => id⟩

/-- One operation after another that has not brought the lift into the queue. -/
theorem trans {l : Lift} {s u v : State} (h : Rests l s u) (hq : l ∉ s.queue → l ∉ u.queue) (k : Rests l u v) :
    Rests l s v where
  lift_other i hi := (k.lift_other i hi).trans (h.lift_other i hi)
  outstanding := k.outstanding.trans h.outstanding
  rescue := k.rescue ∘ h.rescue
  order hl := k.order (hq hl) ∘ h.order hl

/-- An update that touches neither contexts nor the queue nor the reservations. -/
theorem of_same (l : Lift) {s u : State} (hl : u.lifts = s.lifts) (hq : u.queue = s.queue)
    (ho : u.outstanding = s.outstanding) : Rests l s u := by
  have e : ∀ k, u.lift k = s.lift k := fun k => by rw [State.lift, hl]; rfl
  exact ⟨fun k _ => e k, ho, fun h => by rw [e l, h], meritOrdered_of_not_mem (fun k _ => e k) hq⟩

end Rests

section
variable {l : Lift}

theorem setLift_rests (s : State) (c : LiftContext) (h : (s.lift l).rescue = none → c.rescue = none) :
    Rests l s (s.setLift l c) :=
  ⟨fun _ => lift_setLift_other s c, rfl, fun hr => by rw [lift_setLift_same, h hr],
    meritOrdered_of_not_mem (fun _ => lift_setLift_other s c) rfl⟩

theorem moved_rests (s : State) (c : LiftContext) (h : (s.lift l).rescue = none → c.rescue = none) :
    Rests l s (moved s l c) :=
  ⟨fun _ => lift_moved_other s c, moved_outstanding s l c, fun hr => by rw [lift_moved_same, h hr],
    meritOrdered_of_not_mem (fun _ => lift_moved_other s c) (moved_queue s l c)⟩

theorem moved_left_rests (s : State) (c : LiftContext) (h : (s.lift l).rescue = none → c.rescue = none) :
    Rests l s (moved (left s l) l c) :=
  ⟨fun k hk => (lift_moved_other _ c hk).trans (lift_left s l k),
    (moved_outstanding _ l c).trans (left_outstanding s l), fun hr => by rw [lift_moved_same, h hr],
    fun hl => moved_left_meritOrdered c fun hm => absurd hm hl⟩

theorem raiseLift_rests (s : State) (r : LiftReason) : Rests l s (s.raiseLift l r) := .of_same l rfl rfl rfl

theorem runPlanner_rests (s : State) (now : TimeTag) : Rests l s (s.runPlanner l now) :=
  have h := (runPlanner_stepFrame s l now).lift_other
  ⟨h, writePlan_outstanding s l now _, fun hr => by rw [State.runPlanner, lift_writePlan_same]; exact hr,
    meritOrdered_of_not_mem h (writePlan_queue s l now _)⟩

/-! ### Entries into rescue states -/

theorem enterNormal_rests (s : State) : Rests l s (s.enterNormal l) := by
  rw [enterNormal_eq]
  exact moved_left_rests s _ id

theorem enterManual_rests (s : State) (why : ManualReason) : Rests l s (s.enterManual l why) := by
  rw [enterManual_eq]
  exact moved_left_rests s _ fun _ => rfl

theorem enterReleased_rests (s : State) : Rests l s (s.enterReleased l) := by
  have h := moved_rests s (l := l) { s.lift l with state := .released, rescue := none } fun _ => rfl
  obtain ⟨u, rfl, e | e⟩ := enterReleased_cases s l <;> rw [e]
  · exact h
  · exact h.trans (fun hl => by rwa [moved_queue]) (raiseLift_rests _ _)

theorem enterQueued_rests (s : State) (now : TimeTag) : Rests l s (s.enterQueued l now) := by
  have hother : ∀ k : Lift, k ≠ l → (moved s l (queuedAt (s.lift l) now)).lift k = s.lift k :=
    fun _ => lift_moved_other s _
  rw [enterQueued_eq]
  refine ⟨hother, moved_outstanding s l _, fun hr => ?_, fun _ ho => ?_⟩
  · rw [lift_callAdmission, lift_enqueue, lift_moved_same]
    exact hr
  · have hranked : Ranked (moved s l (queuedAt (s.lift l) now))
        ((moved s l (queuedAt (s.lift l) now)).queue.filter (· ≠ l)) := by
      rw [moved_queue]
      exact ranked_others hother ho
    exact enqueue_meritOrdered hranked

theorem not_mem_runPlanner_queue {s : State} (now : TimeTag) (h : l ∉ s.queue) : l ∉ (s.runPlanner l now).queue := by
  rwa [(runPlanner_stepFrame s l now).queue]

theorem planStalled_rests (s : State) (now : TimeTag) : Rests l s (s.planStalled l now) := by
  have hp := runPlanner_rests (l := l) s now
  have hq := not_mem_runPlanner_queue (s := s) (l := l) now
  unfold State.planStalled
  dsimp only
  split
  · exact hp
  · split
    · exact hp.trans hq (enterQueued_rests _ now)
    · exact hp.trans hq (enterManual_rests _ _)

theorem evaluateStalled_rests (s : State) (now : TimeTag) : Rests l s (s.evaluateStalled l now) := by
  unfold State.evaluateStalled
  split
  · split
    · exact enterNormal_rests s
    · split
      · exact enterManual_rests s _
      · exact planStalled_rests s now
  · exact planStalled_rests s now

theorem enterStalled_rests (s : State) (now : TimeTag) : Rests l s (s.enterStalled l now) := by
  rw [enterStalled_eq]
  exact (moved_rests s _ (by exact id)).trans (fun hl => by rwa [moved_queue]) (evaluateStalled_rests _ now)

/-- The replan of a lift outside the queue puts it there, or into MANUAL, or leaves it (R13). -/
theorem replanQueued_rests (s : State) (now : TimeTag) : Rests l s (s.replanQueued l now) := by
  have hp := runPlanner_rests (l := l) s now
  have hq := not_mem_runPlanner_queue (s := s) (l := l) now
  unfold State.replanQueued
  dsimp only
  split
  · exact hp.trans hq (enterManual_rests _ _)
  · split
    · exact hp
    · exact hp.trans hq ⟨fun _ _ => rfl, rfl, id, fun _ ho => enqueue_meritOrdered (ho.filter _)⟩

/-! ### The end of an execution (R16) -/

theorem endRetry_rests (s : State) (now : TimeTag) : Rests l s (s.endRetry l now) := by
  unfold State.endRetry
  split
  · exact (setLift_rests s _ (by exact id)).trans id (enterStalled_rests _ now)
  · exact enterManual_rests s _

theorem endAs_rests (s : State) (why : Ending) (aborted : Bool) (now : TimeTag) :
    Rests l s (s.endAs l why aborted now) := by
  have hslot : ∀ o, Rests l s (s.setSlot l o) := fun o => .of_same l rfl rfl rfl
  unfold State.endAs
  cases why with
  | reached outcome =>
    cases aborted with
    | true => exact enterManual_rests s _
    | false =>
      cases outcome with
      | released => exact enterReleased_rests s
      | retry => exact endRetry_rests s now
      | manual => exact enterManual_rests s _
  | stepLimit => exact enterManual_rests s _
  | safety => exact (hslot _).trans id (enterManual_rests _ _)
  | lostContact => exact (hslot _).trans id (enterManual_rests _ _)

/-! ### Reports (R9 to R20) -/

theorem confirmStall_rests (s : State) (now : TimeTag) : Rests l s (s.confirmStall l now) :=
  (setLift_rests s _ (by exact id)).trans id (enterStalled_rests _ now)

theorem debounce_rests (s : State) (n : Nat) (now : TimeTag) : Rests l s (s.debounce l n now) := by
  have h : Rests l s (s.modLift l fun c => { c with suspectCount := n }) := setLift_rests s _ (by exact id)
  unfold State.debounce
  dsimp only
  split
  · exact h.trans id (confirmStall_rests _ now)
  · rw [modLift_enter s l _ .suspect rfl]
    exact moved_rests s _ id

theorem reportNormal_rests (s : State) (v : Verdict) (now : TimeTag) : Rests l s (s.reportNormal l v now) := by
  unfold State.reportNormal
  split
  · exact debounce_rests s _ now
  · exact .refl l s

theorem reportSuspect_rests (s : State) (v : Verdict) (now : TimeTag) : Rests l s (s.reportSuspect l v now) := by
  unfold State.reportSuspect
  split
  · exact debounce_rests s _ now
  · exact enterNormal_rests s

theorem reportQueued_rests (s : State) (v : Verdict) (now : TimeTag) : Rests l s (s.reportQueued l v now) := by
  unfold State.reportQueued
  split
  · exact enterNormal_rests s
  · split
    · exact enterManual_rests s _
    · exact replanQueued_rests s now

theorem reportReleased_rests (s : State) (v : Verdict) (r : Report) (b : Option Nat) :
    Rests l s (s.reportReleased l v r b) := by
  unfold State.reportReleased
  extract_lets a
  have ha : Rests l s a ∧ a.queue = s.queue := by
    unfold a
    split
    · exact ⟨raiseLift_rests s _, rfl⟩
    · exact ⟨.refl l s, rfl⟩
  obtain ⟨ha, hq⟩ := ha
  clear_value a
  split
  · exact ha.trans (fun hl => by rwa [hq]) (enterNormal_rests a)
  · exact ha

theorem reportManual_rests (s : State) (v : Verdict) (r : Report) : Rests l s (s.reportManual l v r) := by
  unfold State.reportManual
  split
  · exact enterNormal_rests s
  · exact .refl l s

theorem not_mem_enterNormal_queue {s : State} (h : l ∉ s.queue) : l ∉ (s.enterNormal l).queue := by
  rw [enterNormal_eq, moved_queue, mem_left_queue]
  exact fun hl => h hl.1

theorem reportOffline_rests (s : State) (v : Verdict) (r : Report) (b : Option Nat) (now : TimeTag) :
    Rests l s (s.reportOffline l v r b now) := by
  obtain ⟨u, hu⟩ : ∃ u, u = s.modLift l fun c => { c with beforeOffline := none } := ⟨_, rfl⟩
  have h : Rests l s u := by rw [hu]; exact setLift_rests s _ (by exact id)
  have hq : l ∉ s.queue → l ∉ u.queue := by rw [hu]; exact id
  have hnormal : Rests l s ((u.enterNormal l).reportNormal l v now) :=
    (h.trans hq (enterNormal_rests u)).trans (not_mem_enterNormal_queue ∘ hq) (reportNormal_rests _ v now)
  have henter : ∀ st, Rests l s (u.enter l st) ∧ (l ∉ s.queue → l ∉ (u.enter l st).queue) := fun st => by
    rw [enter_eq_moved]
    exact ⟨h.trans hq (moved_rests u _ (by exact id)), fun hl => by rw [moved_queue]; exact hq hl⟩
  have hstalled : Rests l s (if v.trapping then u.enterStalled l now else (u.enterNormal l).reportNormal l v now) := by
    split
    · exact h.trans hq (enterStalled_rests u now)
    · exact hnormal
  unfold State.reportOffline
  dsimp only
  rw [← hu]
  split
  · exact (henter _).1.trans (henter _).2 (reportManual_rests _ v r)
  · exact (henter _).1.trans (henter _).2 (reportReleased_rests _ v r b)
  · exact hstalled
  · exact hstalled
  · exact hnormal

end

end Sys2Proof.Machine
end

section
/-! The account of a running execution (R77, R85, R86): what an operation adds to or takes from the outstanding reservation
is what it adds to or takes from the lift's own record. Within a step the record keeps its count of entries too. -/

namespace Sys2Proof.Machine

open Slice0

/-- The outstanding reservation moves with what one lift holds of it. -/
abbrev Accounts (l : Lift) (s u : State) : Prop :=
  (s.lift l).reserved ≤ s.outstanding → u.outstanding + (s.lift l).reserved = s.outstanding + (u.lift l).reserved

/-- The entries that a lift's execution has used, if one runs (R93). -/
def LiftContext.entriesUsed (c : LiftContext) : Option Nat := c.rescue.map (·.budget)

/-- An operation within a step: it keeps the account and the count of entries. -/
structure StepAccounts (l : Lift) (s u : State) : Prop where
  accounts : Accounts l s u
  entries : (u.lift l).entriesUsed = (s.lift l).entriesUsed

theorem accounts_trans {l : Lift} {s u v : State} (h : Accounts l s u) (k : Accounts l u v) : Accounts l s v := by
  intro hs
  have hu := h hs
  have hv := k (by omega)
  omega

theorem accounts_of_eq {l : Lift} {s u : State} (ho : u.outstanding = s.outstanding)
    (hr : (u.lift l).reserved = (s.lift l).reserved) : Accounts l s u := fun _ => by rw [ho, hr]

theorem reserved_of_none {c : LiftContext} (h : c.rescue = none) : c.reserved = 0 := by
  rw [LiftContext.reserved, h]

theorem reserved_of_some {c : LiftContext} {r : RescueRecord} (h : c.rescue = some r) : c.reserved = r.held := by
  rw [LiftContext.reserved, h]

/-- A lift without an execution has no part in the outstanding reservation. -/
theorem Rests.accounts {l : Lift} {s u : State} (h : Rests l s u) (hr : (s.lift l).rescue = none) : Accounts l s u :=
  accounts_of_eq h.outstanding (by rw [reserved_of_none hr, reserved_of_none (h.rescue hr)])

namespace StepAccounts

theorem refl (l : Lift) (s : State) : StepAccounts l s s := ⟨accounts_of_eq rfl rfl, rfl⟩

theorem trans {l : Lift} {s u v : State} (h : StepAccounts l s u) (k : StepAccounts l u v) : StepAccounts l s v :=
  ⟨accounts_trans h.accounts k.accounts, k.entries.trans h.entries⟩

/-- An operation that touches neither the record nor the outstanding reservation. -/
theorem of_record {l : Lift} {s u : State} (ho : u.outstanding = s.outstanding)
    (hr : (u.lift l).rescue = (s.lift l).rescue) : StepAccounts l s u :=
  ⟨accounts_of_eq ho (by rw [LiftContext.reserved, LiftContext.reserved, hr]),
    by rw [LiftContext.entriesUsed, LiftContext.entriesUsed, hr]⟩

end StepAccounts

section
variable {l : Lift}

/-! ### Within a step -/

theorem modRescue_accounts (s : State) {f : RescueRecord → RescueRecord} (hf : ∀ r, (f r).held = r.held) :
    Accounts l s (s.modRescue l f) := by
  refine accounts_of_eq rfl ?_
  cases h : (s.lift l).rescue with
  | none => simp [State.modRescue, LiftContext.reserved, h]
  | some r => simp [State.modRescue, LiftContext.reserved, h, hf]

theorem modRescue_stepAccounts (s : State) {f : RescueRecord → RescueRecord} (hf : ∀ r, (f r).held = r.held)
    (hb : ∀ r, (f r).budget = r.budget) : StepAccounts l s (s.modRescue l f) := by
  refine ⟨modRescue_accounts s hf, ?_⟩
  simp [State.modRescue, LiftContext.entriesUsed, Function.comp_def, hb]

theorem modCreep_stepAccounts (s : State) (f : CreepWork → CreepWork) : StepAccounts l s (s.modCreep l f) :=
  modRescue_stepAccounts s (fun _ => rfl) fun _ => rfl

theorem setSlot_stepAccounts (s : State) (o : Option Order) : StepAccounts l s (s.setSlot l o) := .of_record rfl rfl

theorem writePlan_stepAccounts (s : State) (now : TimeTag) (p : Plan) : StepAccounts l s (s.writePlan l now p) :=
  .of_record (writePlan_outstanding s l now p) (by rw [lift_writePlan_same]; rfl)

theorem runPlanner_stepAccounts (s : State) (now : TimeTag) : StepAccounts l s (s.runPlanner l now) :=
  writePlan_stepAccounts s now _

theorem post_stepAccounts (s : State) (k : OrderKind) (p : Poster) (n : Nat) : StepAccounts l s (s.post l k p n).1 := by
  unfold State.post
  split
  · split
    · exact .refl l s
    · exact setSlot_stepAccounts s _
  · exact setSlot_stepAccounts s _

theorem withdrawOwn_stepAccounts (s : State) : StepAccounts l s (s.withdrawOwn l) :=
  .of_record (withdrawOwn_outstanding s l) (by rw [lift_withdrawOwn])

/-- The release of the creep reservation takes from both sides what the record held for the creep (R85). -/
theorem releaseCreep_stepAccounts (s : State) : StepAccounts l s (s.releaseCreep l) := by
  cases h : (s.lift l).rescue with
  | none =>
    unfold State.releaseCreep
    rw [h]
    exact .refl l s
  | some r =>
    have hlift := lift_releaseCreep_same h
    refine ⟨fun hs => ?_, by rw [hlift, LiftContext.entriesUsed, LiftContext.entriesUsed, h]; rfl⟩
    have hnew : ((s.releaseCreep l).lift l).reserved = r.doorReservation := by rw [hlift]; rfl
    have hold : (s.lift l).reserved = r.doorReservation + if r.creepReleased then 0 else r.creepReservation :=
      reserved_of_some h
    rw [releaseCreep_outstanding h, hnew]
    rw [hold] at hs ⊢
    cases hr : r.creepReleased with
    | true => simp
    | false =>
      simp only [hr, Bool.false_eq_true, if_false] at hs ⊢
      omega

theorem closeStep_stepAccounts (s : State) (sr : StepRecord) (ok : Bool) : StepAccounts l s (s.closeStep l sr ok) := by
  unfold State.closeStep
  extract_lets a b c
  have ha : StepAccounts l s a := by
    unfold a
    split
    · exact withdrawOwn_stepAccounts s
    · exact .refl l s
  have hb : StepAccounts l a b := by
    unfold b
    split
    · exact releaseCreep_stepAccounts a
    · exact .refl l a
  have hc : StepAccounts l b c := by
    unfold c
    split
    · exact .of_record rfl rfl
    · exact .refl l b
  exact ((ha.trans hb).trans hc).trans (modRescue_stepAccounts c (fun _ => rfl) fun _ => rfl)

theorem leaveStep_stepAccounts (s : State) (sr : StepRecord) (ok : Bool) :
    StepAccounts l s (s.leaveStep l sr ok).1 := by
  have h := closeStep_stepAccounts (l := l) s sr ok
  unfold State.leaveStep
  extract_lets deferred u
  split
  · exact h.trans (modRescue_stepAccounts u (fun _ => rfl) fun _ => rfl)
  · exact h

theorem enterOrder_stepAccounts (s : State) (sr : StepRecord) (k : StepOrder) (m : Nat) :
    StepAccounts l s (s.enterOrder l sr k m).1 := by
  unfold State.enterOrder
  split
  · exact leaveStep_stepAccounts s sr false
  · dsimp only
    split
    · exact post_stepAccounts s _ _ _
    · exact (post_stepAccounts s _ _ _).trans (leaveStep_stepAccounts _ sr false)

theorem enterCreep_stepAccounts (s : State) (sr : StepRecord) (now : TimeTag) :
    StepAccounts l s (s.enterCreep l sr now).1 := by
  have hseen : StepAccounts l s { s with scan := { s.scan with creepSeen := s.scan.creepSeen || s.scan.running } } :=
    .of_record rfl rfl
  have h := hseen.trans (runPlanner_stepAccounts _ now)
  unfold State.enterCreep
  dsimp only
  split
  · exact h.trans (leaveStep_stepAccounts _ sr false)
  · exact h.trans (leaveStep_stepAccounts _ sr true)
  · split
    · exact (h.trans (post_stepAccounts _ _ _ _)).trans (modRescue_stepAccounts _ (fun _ => rfl) fun _ => rfl)
    · exact (h.trans (post_stepAccounts _ _ _ _)).trans (leaveStep_stepAccounts _ sr false)

theorem enterCall_stepAccounts (s : State) (sr : StepRecord) (r : RescueRecord) (t : Nat) :
    StepAccounts l s (s.enterCall l sr r t).1 := by
  unfold State.enterCall
  split
  · exact (modRescue_stepAccounts s (by exact fun _ => rfl) (by exact fun _ => rfl)).trans (closeStep_stepAccounts _ sr true)
  · exact closeStep_stepAccounts s sr false

theorem enterReturn_stepAccounts (s : State) (sr : StepRecord) (r : RescueRecord) :
    StepAccounts l s (s.enterReturn l sr r).1 := by
  unfold State.enterReturn
  split
  · exact (modRescue_stepAccounts s (by exact fun _ => rfl) (by exact fun _ => rfl)).trans (closeStep_stepAccounts _ sr true)
  · exact closeStep_stepAccounts s sr false

/-! ### The end of an execution (R16, R86) -/

/-- Step 1 of an ending releases what the record holds. -/
theorem dropExecution_accounts (s : State) : Accounts l s (s.dropExecution l) := by
  cases h : (s.lift l).rescue with
  | none =>
    unfold State.dropExecution
    rw [h]
    exact accounts_of_eq rfl rfl
  | some r =>
    intro hs
    have hlift : ((s.dropExecution l).lift l).reserved = 0 := by
      rw [(dropExecution_context s l).2]
      rfl
    have hout : (s.dropExecution l).outstanding = s.outstanding - r.held := by rw [dropExecution_eq s l r h]
    rw [hlift, hout]
    rw [reserved_of_some h] at hs ⊢
    omega

theorem endExecution_accounts (s : State) (why : Ending) (now : TimeTag) :
    Accounts l s (s.endExecution l why now) := by
  rw [endExecution_eq]
  refine accounts_trans (dropExecution_accounts s) ?_
  exact (endAs_rests _ why _ now).accounts (by rw [(dropExecution_context s l).2])

/-! ### Entries and events of a running execution -/

theorem enterOnce_accounts (s : State) (i : Nat) (now : TimeTag) : Accounts l s (s.enterOnce l i now).1 := by
  unfold State.enterOnce
  split
  · exact accounts_of_eq rfl rfl
  next r hr =>
    split
    · exact endExecution_accounts s _ now
    · extract_lets sr r' a
      have ha : Accounts l s a := by
        refine accounts_of_eq rfl ?_
        unfold a
        rw [modRescue_eq _ hr, lift_setLift_same, reserved_of_some hr]
        rfl
      clear_value a
      split
      · exact ha
      · exact ha
      · exact accounts_trans ha (enterOrder_stepAccounts a sr _ _).accounts
      · exact accounts_trans ha (enterCreep_stepAccounts a sr now).accounts
      · exact accounts_trans ha (enterCall_stepAccounts a sr r' _).accounts
      · exact accounts_trans ha (enterReturn_stepAccounts a sr r').accounts
      · exact accounts_trans ha (endExecution_accounts a _ now)

theorem runEntries_accounts (n : Nat) (s : State) (i : Nat) (now : TimeTag) :
    Accounts l s (State.runEntries n s l i now) := by
  induction n generalizing s i with
  | zero => exact accounts_of_eq rfl rfl
  | succ n ih =>
    have h := enterOnce_accounts (l := l) s i now
    unfold State.runEntries
    split
    next u e => rwa [e] at h
    next u j e =>
      rw [e] at h
      exact accounts_trans h (ih u j)

theorem startStep_accounts (s : State) (i : Nat) (now : TimeTag) : Accounts l s (s.startStep l i now) :=
  runEntries_accounts _ s i now

theorem endStep_accounts (s : State) (ok : Bool) (now : TimeTag) : Accounts l s (s.endStep l ok now) := by
  unfold State.endStep
  split
  · exact accounts_trans (leaveStep_stepAccounts s _ ok).accounts (startStep_accounts _ _ now)
  · exact accounts_of_eq rfl rfl

theorem renewCreep_accounts (s : State) (now : TimeTag) : Accounts l s (s.renewCreep l now) := by
  unfold State.renewCreep
  split
  · dsimp only
    split
    · exact (post_stepAccounts s _ _ _).accounts
    · exact accounts_trans (post_stepAccounts s _ _ _).accounts (endStep_accounts _ false now)
  · exact accounts_of_eq rfl rfl

theorem orderLanding_accounts (s : State) (i : Nat) (now : TimeTag) : Accounts l s (s.orderLanding l i now) :=
  accounts_trans (modCreep_stepAccounts s _).accounts (renewCreep_accounts _ now)

theorem creepReport_accounts (s : State) (r : Report) (now : TimeTag) : Accounts l s (s.creepReport l r now) := by
  unfold State.creepReport
  split
  · exact accounts_of_eq rfl rfl
  · split
    · exact endStep_accounts s _ now
    · extract_lets progress a inMarker
      have h : Accounts l s a := modRescue_accounts s fun _ => rfl
      clear_value a inMarker
      split
      · split
        · exact accounts_trans h (orderLanding_accounts a _ now)
        · exact h
      · exact h

theorem stepReport_accounts (s : State) (r : Report) (now : TimeTag) : Accounts l s (s.stepReport l r now) := by
  unfold State.stepReport
  split
  · exact accounts_of_eq rfl rfl
  · split
    · extract_lets repeats a
      have h : Accounts l s a := modRescue_accounts s fun _ => rfl
      clear_value a
      split
      · exact accounts_trans h (endStep_accounts a true now)
      · exact h
    · exact creepReport_accounts s r now
    · exact accounts_of_eq rfl rfl

theorem reportRescuing_accounts (s : State) (v : Verdict) (r : Report) (now : TimeTag) :
    Accounts l s (s.reportRescuing l v r now) := by
  unfold State.reportRescuing
  split
  · exact endExecution_accounts s _ now
  · exact stepReport_accounts s r now

theorem replanRescuing_accounts (s : State) (now : TimeTag) : Accounts l s (s.replanRescuing l now) := by
  unfold State.replanRescuing
  split
  next w p rr _ _ _ =>
    extract_lets targetUsable a within
    have h : Accounts l s a := (writePlan_stepAccounts s now _).accounts
    clear_value a within
    split
    · exact accounts_of_eq rfl rfl
    · split
      · exact accounts_trans h (orderLanding_accounts a _ now)
      · split
        · exact accounts_trans h (orderLanding_accounts a _ now)
        · exact accounts_trans h (endStep_accounts a false now)
  · exact accounts_of_eq rfl rfl

theorem deliver_accounts (s : State) (p : Poster) (ok : Bool) (now : TimeTag) :
    Accounts l s (s.deliver l p ok now) := by
  unfold State.deliver
  split
  · exact accounts_of_eq rfl rfl
  · split
    · split
      · exact endStep_accounts s ok now
      · split
        · exact (modCreep_stepAccounts s _).accounts
        · exact endStep_accounts s false now
      · exact accounts_of_eq rfl rfl
    · exact accounts_of_eq rfl rfl

theorem expireStep_accounts (s : State) (now : TimeTag) : Accounts l s (s.expireStep l now) := by
  unfold State.expireStep
  split
  · split
    · exact endStep_accounts s _ now
    · exact accounts_of_eq rfl rfl
  · exact accounts_of_eq rfl rfl

theorem abortNow_accounts (s : State) (now : TimeTag) : Accounts l s (s.abortNow l now) := by
  unfold State.abortNow
  extract_lets a b c
  have ha : Accounts l s a := modRescue_accounts s fun _ => rfl
  have hb : Accounts l a b := by
    unfold b
    split
    · exact (releaseCreep_stepAccounts a).accounts
    · exact accounts_of_eq rfl rfl
  have hc : Accounts l b c :=
    accounts_trans (setSlot_stepAccounts b _).accounts (modRescue_accounts (b.postPartStop l) fun _ => rfl)
  exact accounts_trans (accounts_trans (accounts_trans ha hb) hc) (startStep_accounts c _ now)

theorem abortExecution_accounts (s : State) (now : TimeTag) : Accounts l s (s.abortExecution l now) := by
  unfold State.abortExecution
  split
  · exact accounts_of_eq rfl rfl
  · split
    · exact accounts_of_eq rfl rfl
    · split
      · split
        · extract_lets a
          have ha : Accounts l s a := modRescue_accounts s fun _ => rfl
          clear_value a
          exact accounts_trans (accounts_trans ha (modCreep_stepAccounts a _).accounts) (orderLanding_accounts _ _ now)
        · exact abortNow_accounts s now
      · exact abortNow_accounts s now

end

end Sys2Proof.Machine
end

section
/-! What every operation on lift contexts keeps of a coherent state: the outstanding reservation as the sum of what the
executions hold (R77), and the merit order of the queue (R78). -/

namespace Sys2Proof.Machine

open Slice0

/-! ### The relation -/

/-- `u` keeps the coherence of `s`, and of a coherent `s` the balance of the reservations and the order of the queue. -/
structure Books (s u : State) : Prop where
  coherent : s.Coherent → u.Coherent
  balanced : s.Coherent → s.Balanced → u.Balanced
  ordered : s.Coherent → s.MeritOrdered → u.MeritOrdered

namespace Books

theorem refl (s : State) : Books s s := ⟨id, fun _ => id, fun _ => id⟩

theorem rfl {s : State} : Books s s := .refl s

theorem trans {s u v : State} (h : Books s u) (k : Books u v) : Books s v :=
  ⟨k.coherent ∘ h.coherent, fun hc hb => k.balanced (h.coherent hc) (h.balanced hc hb),
    fun hc ho => k.ordered (h.coherent hc) (h.ordered hc ho)⟩

/-- A coherent state may be assumed. -/
theorem of_coherent {s u : State} (h : s.Coherent → Books s u) : Books s u :=
  ⟨fun hc => (h hc).coherent hc, fun hc => (h hc).balanced hc, fun hc => (h hc).ordered hc⟩

end Books

/-! ### Balance -/

theorem balanced_of_reserved {s u : State} (ho : u.outstanding = s.outstanding)
    (hr : ∀ k : Lift, (u.lift k).reserved = (s.lift k).reserved) (h : s.Balanced) : u.Balanced := by
  show u.outstanding = _
  rw [ho, h]
  simp only [hr]

/-- One lift's part and the rest of the sum. -/
theorem sum_allLifts_split (f : Lift → Nat) (l : Lift) :
    (allLifts.map f).sum = f l + ∑ k ∈ Finset.univ.erase l, f k := by
  rw [Finset.add_sum_erase _ _ (Finset.mem_univ l), Fin.sum_univ_def]
  rfl

/-- A balanced state stays balanced when one lift's part and the outstanding reservation move together. -/
theorem balanced_of_accounts {l : Lift} {s u : State} (ha : Accounts l s u)
    (hother : ∀ k : Lift, k ≠ l → (u.lift k).reserved = (s.lift k).reserved) (h : s.Balanced) : u.Balanced := by
  have hs := sum_allLifts_split (fun k => (s.lift k).reserved) l
  have hu := sum_allLifts_split (fun k => (u.lift k).reserved) l
  have hrest : ∑ k ∈ Finset.univ.erase l, (u.lift k).reserved = ∑ k ∈ Finset.univ.erase l, (s.lift k).reserved :=
    Finset.sum_congr rfl fun k hk => hother k (Finset.ne_of_mem_erase hk)
  have hsum : s.outstanding = (s.lift l).reserved + ∑ k ∈ Finset.univ.erase l, (s.lift k).reserved := h.trans hs
  have hmove := ha (by omega)
  show u.outstanding = _
  rw [hu, hrest]
  omega

/-- With no execution running and nothing reserved the reservations balance. -/
theorem balanced_of_idle {s : State} (ho : s.outstanding = 0) (h : ∀ k : Lift, (s.lift k).rescue = none) :
    s.Balanced := by
  show s.outstanding = _
  simp [ho, reserved_of_none (h _)]

/-! ### Kinds of operation -/

/-- An operation that touches no plan, no rescue record, no place in the queue and no reservation. -/
theorem books_of_fields {s u : State} (hq : u.queue = s.queue) (ho : u.outstanding = s.outstanding)
    (hf : ∀ k : Lift, (u.lift k).rescue = (s.lift k).rescue ∧ (u.lift k).plan = (s.lift k).plan)
    (hc : s.Coherent → u.Coherent) : Books s u := by
  refine ⟨hc, fun _ => balanced_of_reserved ho fun k => ?_, fun _ hm => ?_⟩
  · rw [LiftContext.reserved, LiftContext.reserved, (hf k).1]
  · show Ranked u u.queue
    rw [hq]
    exact ranked_congr (fun k _ => by rw [LiftContext.merit, LiftContext.merit, (hf k).2]) hm

theorem books_of_same {s u : State} (hl : u.lifts = s.lifts) (hq : u.queue = s.queue)
    (ho : u.outstanding = s.outstanding) : Books s u :=
  books_of_fields hq ho (fun k => by rw [State.lift, hl]; exact ⟨rfl, rfl⟩) (coherent_of_same hl hq)

theorem setLift_books {s : State} {l : Lift} {c : LiftContext} (hr : c.rescue = (s.lift l).rescue)
    (hp : c.plan = (s.lift l).plan) (hc : s.Coherent → (s.setLift l c).Coherent) : Books s (s.setLift l c) := by
  refine books_of_fields rfl rfl (fun k => ?_) hc
  rw [lift_setLift]
  split
  next hk => exact hk ▸ ⟨hr, hp⟩
  · exact ⟨rfl, rfl⟩

/-- A lift that is neither QUEUED nor RESCUING: it has no place in the queue and no execution. -/
theorem Rests.books {l : Lift} {s u : State} (h : Rests l s u) (hc : s.Coherent → u.Coherent)
    (hr : (s.lift l).state ≠ .rescuing) (hq : (s.lift l).state ≠ .queued) : Books s u :=
  ⟨hc, fun hs => balanced_of_accounts (h.accounts (rescue_none_of_coherent (hs.1 l) hr)) fun k hk => by
      rw [h.lift_other k hk],
    fun hs => h.order fun hl => hq ((hs.2.2 l).mp hl)⟩

/-- A QUEUED lift, with the order given. -/
theorem Rests.books_of_queued {l : Lift} {s u : State} (h : Rests l s u) (hc : s.Coherent → u.Coherent)
    (hq : (s.lift l).state = .queued) (ho : s.MeritOrdered → u.MeritOrdered) : Books s u :=
  ⟨hc, fun hs => balanced_of_accounts (h.accounts (rescue_none_of_coherent (hs.1 l) (by simp [hq]))) fun k hk => by
      rw [h.lift_other k hk],
    fun _ => ho⟩

theorem StepFrame.meritOrdered {l : Lift} {s u : State} (h : StepFrame l s u) (hl : l ∉ s.queue)
    (ho : s.MeritOrdered) : u.MeritOrdered := meritOrdered_of_not_mem h.lift_other h.queue hl ho

theorem dropExecution_meritOrdered {l : Lift} {s : State} (hl : l ∉ s.queue) (ho : s.MeritOrdered) :
    (s.dropExecution l).MeritOrdered :=
  meritOrdered_of_not_mem (dropExecution_liftFrame s l).lift_other (dropExecution_context s l).1 hl ho

theorem RunsOrEnds.meritOrdered {l : Lift} {now : TimeTag} {s u : State} (h : RunsOrEnds l now s u)
    (hl : l ∉ s.queue) (ho : s.MeritOrdered) : u.MeritOrdered := by
  rcases h with h | ⟨v, why, h, -, rfl⟩
  · exact h.meritOrdered hl ho
  · have hv : l ∉ v.queue := by rwa [h.queue]
    have hdrop : l ∉ (v.dropExecution l).queue := by rwa [(dropExecution_context v l).1]
    rw [endExecution_eq]
    exact (endAs_rests _ why _ now).order hdrop (dropExecution_meritOrdered hv (h.meritOrdered hl ho))

/-- A running execution: its lift stands outside the queue. -/
theorem RunsOrEnds.books {l : Lift} {now : TimeTag} {s u : State} (h : RunsOrEnds l now s u) (ha : Accounts l s u)
    (hr : (s.lift l).rescue.isSome) : Books s u :=
  ⟨h.coherent, fun _ => balanced_of_accounts ha fun k hk => by rw [h.liftFrame.lift_other k hk],
    fun hs => h.meritOrdered fun hl => by
      have hst := (hs.1 l).1.mp hr
      simp [(hs.2.2 l).mp hl] at hst⟩

/-- An operation on an execution that is none without one. -/
theorem RunsOrEnds.books_of_none {l : Lift} {now : TimeTag} {s u : State} (h : RunsOrEnds l now s u)
    (ha : Accounts l s u) (hn : (s.lift l).rescue = none → u = s) : Books s u := by
  cases hr : (s.lift l).rescue with
  | none =>
    rw [hn hr]
    exact .refl s
  | some r => exact h.books ha (by simp [hr])

/-! ### Running executions -/

theorem runningStep_of_none {s : State} {l : Lift} (h : (s.lift l).rescue = none) : s.runningStep l = none := by
  rw [State.runningStep, h]
  rfl

theorem renewCreep_books (s : State) (l : Lift) (now : TimeTag) : Books s (s.renewCreep l now) :=
  (renewCreep_runsOrEnds s l now).books_of_none (renewCreep_accounts s now) fun h => by
    rw [State.renewCreep, runningStep_of_none h]

theorem deliver_books (s : State) (l : Lift) (p : Poster) (ok : Bool) (now : TimeTag) :
    Books s (s.deliver l p ok now) :=
  (deliver_runsOrEnds s l p ok now).books_of_none (deliver_accounts s p ok now) fun h => by
    rw [State.deliver, runningStep_of_none h]

theorem expireStep_books (s : State) (l : Lift) (now : TimeTag) : Books s (s.expireStep l now) :=
  (expireStep_runsOrEnds s l now).books_of_none (expireStep_accounts s now) fun h => by
    unfold State.expireStep
    rw [runningStep_of_none h]
    split
    · exact absurd ‹_› (by simp)
    · rfl

/-! ### Grants and evaluations (R80 to R84) -/

theorem beginRescue_books {s : State} {l : Lift} (passed : List Lift) (hs : s.Coherent) (hl : l ∈ s.queue) :
    Books s (s.beginRescue l passed) := by
  have hst := (hs.2.2 l).mp hl
  have hnone := rescue_none_of_coherent (hs.1 l) (by simp [hst])
  have hother : ∀ k : Lift, k ≠ l → ∃ q, (s.beginRescue l passed).lift k = { s.lift k with queueData := q } :=
    fun k hk => by
      obtain ⟨q, e, -⟩ := foldl_raiseBypass_context (s.dequeue l) passed k
      exact ⟨q, by rw [lift_beginRescue_other s passed hk, e, lift_dequeue, if_neg hk]⟩
  have hout : (s.beginRescue l passed).outstanding
      = s.outstanding + (((s.lift l).newRescue s.recipes.active).creepReservation
          + ((s.lift l).newRescue s.recipes.active).doorReservation) := by
    rw [beginRescue_eq s l passed _ rfl, moved_outstanding]
  have hheld : ((s.beginRescue l passed).lift l).reserved
      = ((s.lift l).newRescue s.recipes.active).doorReservation
          + ((s.lift l).newRescue s.recipes.active).creepReservation := by
    rw [lift_beginRescue_same]
    rfl
  have hqueue : (s.beginRescue l passed).queue = s.queue.filter (· ≠ l) := by
    rw [beginRescue_eq s l passed _ rfl, moved_queue]
    exact foldl_raiseBypass_queue _ _
  refine ⟨fun _ => beginRescue_coherent passed hs hst, fun _ => balanced_of_accounts (l := l) (fun _ => ?_) fun k hk => ?_,
    fun _ ho => ?_⟩
  · rw [hout, hheld, reserved_of_none hnone]
    omega
  · obtain ⟨q, e⟩ := hother k hk
    rw [e]
    rfl
  · show Ranked _ _
    rw [hqueue]
    refine ranked_congr (fun k hk => ?_) (ho.filter _)
    obtain ⟨q, e⟩ := hother k (by simpa using (List.mem_filter.mp hk).2)
    rw [e]
    rfl

theorem grant_books {s : State} {l : Lift} (passed : List Lift) (now : TimeTag) (hl : l ∈ s.queue) :
    Books s (s.grant l passed now) :=
  .of_coherent fun hs => (beginRescue_books passed hs hl).trans
    ((startStep_runsOrEnds _ l _ now).books (startStep_accounts _ _ now) (by rw [lift_beginRescue_same]; rfl))

theorem walks_books (n : Nat) (s : State) (now : TimeTag) : Books s (State.walks n s now) := by
  induction n generalizing s with
  | zero => exact .refl s
  | succ n ih =>
    unfold State.walks
    split
    · split
      next l passed hw => exact (grant_books passed now (walk_mem hw)).trans (ih _)
      · exact .refl s
    · exact .refl s

theorem evaluateAdmission_books (s : State) (now : TimeTag) : Books s (s.evaluateAdmission now) :=
  (walks_books s.walkBound s now).trans (books_of_same rfl rfl rfl)

/-! ### Departures from the queue and replans there (R13, R19, R22, R23, R79) -/

section
variable {s : State} {l : Lift}

theorem enterNormal_meritOrdered (hq : (s.lift l).state = .queued) (ho : s.MeritOrdered) :
    (s.enterNormal l).MeritOrdered := by
  rw [enterNormal_eq]
  exact moved_left_meritOrdered _ (fun _ => hq) ho

theorem enterManual_meritOrdered (why : ManualReason) (hq : (s.lift l).state = .queued) (ho : s.MeritOrdered) :
    (s.enterManual l why).MeritOrdered := by
  rw [enterManual_eq]
  exact moved_left_meritOrdered _ (fun _ => hq) ho

/-- A QUEUED lift that leaves the queue as its context is replaced. -/
theorem moved_left_books {c : LiftContext} (hc : s.Coherent → (moved (left s l) l c).Coherent)
    (hr : (s.lift l).state ≠ .rescuing) (hcr : (s.lift l).rescue = none → c.rescue = none) :
    Books s (moved (left s l) l c) :=
  ⟨hc, fun hs => balanced_of_accounts
      ((moved_left_rests s c hcr).accounts (rescue_none_of_coherent (hs.1 l) hr)) fun k hk => by
        rw [(moved_left_rests s c hcr).lift_other k hk],
    fun hs => moved_left_meritOrdered c (hs.2.2 l).mp⟩

theorem merit_congr {c d : LiftContext} (h : c.plan.map (·.merit) = d.plan.map (·.merit)) : c.merit = d.merit := by
  unfold LiftContext.merit
  cases hc : c.plan <;> cases hd : d.plan <;> simp_all

/-- A replan leaves the order when the merit stands, and restores it when the merit changes (R13). -/
theorem replanQueued_meritOrdered (now : TimeTag) (hq : (s.lift l).state = .queued) (ho : s.MeritOrdered) :
    (s.replanQueued l now).MeritOrdered := by
  have hf := runPlanner_stepFrame s l now
  have hothers : Ranked (s.runPlanner l now) ((s.runPlanner l now).queue.filter (· ≠ l)) := by
    rw [hf.queue]
    exact ranked_others hf.lift_other ho
  have hq' : ((s.runPlanner l now).lift l).state = .queued := hf.state.trans hq
  unfold State.replanQueued
  dsimp only
  split
  · rw [enterManual_eq, left_of_queued _ _ hq']
    refine meritOrdered_of_not_mem (s := { s.runPlanner l now with
      queue := (s.runPlanner l now).queue.filter (· ≠ l), admissionDue := true })
      (fun k => lift_moved_other _ _) (moved_queue _ l _) (by simp) hothers
  · split
    next he =>
      show Ranked _ _
      rw [hf.queue]
      refine ranked_congr (fun k _ => ?_) ho
      by_cases hk : k = l
      · subst hk
        exact (merit_congr he).symm
      · rw [hf.lift_other k hk]
    · exact enqueue_meritOrdered hothers

theorem replanQueued_books (now : TimeTag) (hq : (s.lift l).state = .queued) : Books s (s.replanQueued l now) :=
  (replanQueued_rests s now).books_of_queued
    (fun hs => (replanQueued_liftFrame s l now).coherent hs (replanQueued_coherentAt now (hs.at l) hq)) hq
    (replanQueued_meritOrdered now hq)

theorem reportQueued_meritOrdered (v : Verdict) (now : TimeTag) (hq : (s.lift l).state = .queued)
    (ho : s.MeritOrdered) : (s.reportQueued l v now).MeritOrdered := by
  unfold State.reportQueued
  split
  · exact enterNormal_meritOrdered hq ho
  · split
    · exact enterManual_meritOrdered _ hq ho
    · exact replanQueued_meritOrdered now hq ho

theorem evaluateStalled_books (now : TimeTag) (hst : (s.lift l).state = .stalled) :
    Books s (s.evaluateStalled l now) :=
  (evaluateStalled_rests s now).books
    (fun hs => (evaluateStalled_liftFrame s l now).coherent hs (evaluateStalled_coherentAt now (hs.at l) hst))
    (by simp [hst]) (by simp [hst])

theorem endExecution_books (why : Ending) (now : TimeTag) (hst : (s.lift l).state = .rescuing) :
    Books s (s.endExecution l why now) :=
  .of_coherent fun hs => RunsOrEnds.books (.inr ⟨s, why, .refl l s, (hs.1 l).1.mpr hst, rfl⟩)
    (endExecution_accounts s why now) ((hs.1 l).1.mpr hst)

/-! ### Reports, unanswered polls, hazards (R9 to R20, R52 to R54) -/

theorem storeReport_books (r : Report) (now : TimeTag) : Books s (s.storeReport l r now) :=
  setLift_books rfl rfl (storeReport_coherent l r now)

theorem reportRescuing_books (v : Verdict) (r : Report) (now : TimeTag) (hst : (s.lift l).state = .rescuing) :
    Books s (s.reportRescuing l v r now) := by
  unfold State.reportRescuing
  split
  · exact endExecution_books .safety now hst
  · exact .of_coherent fun hs =>
      (stepReport_runsOrEnds s l r now).books (stepReport_accounts s r now) ((hs.1 l).1.mpr hst)

theorem reportByState_books (v : Verdict) (r : Report) (before : Option Nat) (now : TimeTag) :
    Books s (s.reportByState l v r before now) := by
  have hc : s.Coherent → (s.reportByState l v r before now).Coherent := reportByState_coherent v r before now
  unfold State.reportByState at hc ⊢
  cases hst : (s.lift l).state <;> rw [hst] at hc
  case excluded => exact .refl s
  case normal => exact (reportNormal_rests s v now).books hc (by simp [hst]) (by simp [hst])
  case suspect => exact (reportSuspect_rests s v now).books hc (by simp [hst]) (by simp [hst])
  case stalled => exact evaluateStalled_books now hst
  case queued => exact (reportQueued_rests s v now).books_of_queued hc hst (reportQueued_meritOrdered v now hst)
  case rescuing => exact reportRescuing_books v r now hst
  case released => exact (reportReleased_rests s v r before).books hc (by simp [hst]) (by simp [hst])
  case manual => exact (reportManual_rests s v r).books hc (by simp [hst]) (by simp [hst])
  case offline => exact (reportOffline_rests s v r before now).books hc (by simp [hst]) (by simp [hst])

theorem unansweredPoll_books (s : State) (l : Lift) (now : TimeTag) : Books s (s.unansweredPoll l now) := by
  obtain ⟨hexcluded, hbelow, hat⟩ := unansweredPollsAreCounted s l now _ _ _ rfl rfl rfl
  have hcount : Books s (s.setLift l { s.lift l with unanswered := min 15 ((s.lift l).unanswered + 1) }) :=
    setLift_books rfl rfl fun hs => setLift_coherent hs (hs.1 l) rfl
  by_cases he : (s.lift l).state = .excluded
  · rw [hexcluded he]
    exact .refl s
  by_cases hn : min 15 ((s.lift l).unanswered + 1) < s.params.offlineLimit
  · rw [hbelow he hn]
    exact hcount
  obtain ⟨hoffline, hrescuing, helse⟩ := hat he (Nat.not_lt.mp hn)
  by_cases ho : (s.lift l).state = .offline
  · rw [hoffline ho]
    exact hcount
  by_cases hr : (s.lift l).state = .rescuing
  · rw [hrescuing hr]
    exact hcount.trans (endExecution_books .lostContact now (by rw [lift_setLift_same]; exact hr))
  · rw [helse ho hr]
    exact moved_left_books
      (fun hs => moved_left_coherent hs (goneOffline_coherent _ (hs.1 l) he ho hr) (by simp)) hr id

theorem hazardReplan_books (s : State) (changed : BitVec 32) (now : TimeTag) (l : Lift) :
    Books s (s.hazardReplan changed now l) := by
  unfold State.hazardReplan
  split
  · split
    next hst => exact evaluateStalled_books now hst
    next hst => exact replanQueued_books now hst
    next hst =>
      exact .of_coherent fun hs =>
        (replanRescuing_runsOrEnds s l now).books (replanRescuing_accounts s now) ((hs.1 l).1.mpr hst)
    · exact .refl s
  · exact .refl s

/-! ### Requests (R2, R3, R21 to R23, R39, R106) -/

theorem holdLift_books (now : TimeTag) (hr : (s.lift l).state ≠ .rescuing) : Books s (s.holdLift l now) := by
  by_cases hq : (s.lift l).state = .queued
  · rw [holdLift_of_queued s l now hq]
    exact (moved_left_books (fun hs => held_stalled_coherent hs hq) hr id).trans
      (evaluateStalled_books now (by rw [lift_moved_same]))
  · have hc : s.Coherent → (s.holdLift l now).Coherent := fun hs => holdLift_coherent now hs hr
    rw [holdLift_of_not_queued s l now hq] at hc ⊢
    exact setLift_books rfl rfl hc

theorem releaseLift_books (now : TimeTag) : Books s (s.releaseLift l now) := by
  have hflag : Books s (s.modLift l fun c => { c with hold := false }) :=
    setLift_books rfl rfl fun hs => setLift_coherent hs (unheld_coherent (hs.1 l)) rfl
  unfold State.releaseLift
  dsimp only
  split
  next hst => exact hflag.trans (evaluateStalled_books now hst)
  · exact hflag

theorem act_books {a : Action} (now : TimeTag) (ha : a.accepted (s.lift l).state = true) :
    Books s (s.act l a now) := by
  obtain ⟨he, hr, habort, hclear⟩ := (accepted_iff a _).mp ha
  have hc : s.Coherent → (s.act l a now).Coherent := fun hs => act_coherent now hs ha
  cases a with
  | hold => exact holdLift_books now (hr (.inl rfl))
  | release => exact releaseLift_books now
  | abort =>
    exact .of_coherent fun hs => (abortExecution_runsOrEnds s l now).books (abortExecution_accounts s now)
      ((hs.1 l).1.mpr (habort rfl))
  | forceManual =>
    rw [State.act, enterManual_eq] at hc ⊢
    exact moved_left_books hc (hr (.inr rfl)) fun _ => rfl
  | clear =>
    refine (enterNormal_rests s).books hc ?_ ?_ <;> rcases hclear rfl with h | h <;> simp [h]

theorem extendStep_books (s : State) (i : Nat) (later : List Word) : Books s (s.extendStep i later).1 := by
  unfold State.extendStep
  split
  · exact .refl s
  · split
    · exact .refl s
    next l _ =>
      split
      next hst =>
        have hst' : (s.lift l).state = .rescuing := by
          simp only [Bool.and_eq_true, decide_eq_true_eq] at hst
          exact hst.1
        exact .of_coherent fun hs =>
          RunsOrEnds.books (now := 0) (.inl (modCreep_stepFrame s l _)) (modCreep_stepAccounts s _).accounts
            ((hs.1 l).1.mpr hst')
      · exact .refl s

theorem storeLift_rests (s : State) (l : Lift) (e : LiftEntry) : Rests l s (s.storeLift l e) := by
  by_cases h : (s.lift l).state = .excluded <;> cases he : e.inService
  · rw [storeLift_stays_out s l e h he]
    exact setLift_rests s _ (by exact id)
  · rw [storeLift_enters s l e h he]
    exact (setLift_rests s (fresh e (s.lift l).landings .normal) fun _ => rfl).trans id (.of_same l rfl rfl rfl)
  · rw [storeLift_leaves s l e h he]
    exact (setLift_rests s (fresh e (s.lift l).landings .excluded) fun _ => rfl).trans id (.of_same l rfl rfl rfl)
  · rw [storeLift_stays_in s l e h he]
    refine ⟨fun k hk => by rw [lift_rewrite, if_neg hk], rewrite_outstanding s l e, fun hr => ?_,
      meritOrdered_of_not_mem (fun k hk => by rw [lift_rewrite, if_neg hk]) (rewrite_queue s l e)⟩
    rw [lift_rewrite, if_pos rfl, rewritten_eq]
    exact hr

theorem not_rescuing_of_takesWrites {st : RescueState} (h : st.takesWrites = true) : st ≠ .rescuing := by
  rintro rfl
  exact absurd h (by decide)

theorem writeLift_books (s : State) (i : Nat) (ws : List Word) : Books s (s.writeLift i ws).1 := by
  unfold State.writeLift
  split
  · exact .refl s
  · split
    · exact .refl s
    next l _ hw =>
      have hw' : (s.lift l).state.takesWrites = true := by simpa using hw
      split
      · exact .refl s
      · exact (storeLift_rests s l _).books (fun hs => storeLift_coherent _ hs (not_queued_of_takesWrites hw'))
          (not_rescuing_of_takesWrites hw') (not_queued_of_takesWrites hw')

theorem storeLandings_rests (s : State) (l : Lift) (ls : List Landing) : Rests l s (s.storeLandings l ls) := by
  unfold State.storeLandings
  dsimp only
  split
  · exact setLift_rests s _ (by exact id)
  · exact setLift_rests s _ (by exact id)

theorem writeLandings_books (s : State) (i : Nat) (ws : List Word) : Books s (s.writeLandings i ws).1 := by
  unfold State.writeLandings
  split
  · exact .refl s
  · split
    · exact .refl s
    next l _ hw =>
      have hw' : (s.lift l).state.takesWrites = true := by simpa using hw
      split
      · exact .refl s
      · exact (storeLandings_rests s l _).books (storeLandings_coherent l _) (not_rescuing_of_takesWrites hw')
          (not_queued_of_takesWrites hw')

/-! ### RESTART and reset (R24, R164) -/

theorem restartClear_books (s : State) : Books s s.restartClear :=
  ⟨fun _ => restartClear_coherent s,
    fun _ _ => balanced_of_idle rfl fun k => by rw [lift_restartClear]; rfl,
    fun _ _ => List.Pairwise.nil⟩

theorem reset_books (s : State) : Books s State.reset :=
  ⟨fun _ => reset_coherent, fun _ _ => reset_balanced, fun _ _ => List.Pairwise.nil⟩

end

end Sys2Proof.Machine
end

section
/-! Every step keeps the books: the composition of a command from operations on lift contexts and plain updates. -/

namespace Sys2Proof.Machine

open Slice0

/-! ### Plain updates: what they leave of the outstanding reservation -/

@[simp] theorem transmit_outstanding (s : State) : s.transmit.outstanding = s.outstanding := by
  rw [transmit_link_only]

@[simp] theorem commandReply_outstanding (s : State) (f : Frame) : (s.commandReply f).outstanding = s.outstanding := by
  unfold State.commandReply
  split <;> rfl

@[simp] theorem makeReply_outstanding (s : State) (d : BitVec 6) (st : CommandStatus) :
    (s.makeReply d st).outstanding = s.outstanding := commandReply_outstanding s _

@[simp] theorem takeRemote_outstanding (s : State) (c : RemoteCommand) :
    (s.takeRemote c).outstanding = s.outstanding := by
  rcases takeRemote_cases s c with ⟨-, e⟩ | ⟨-, e⟩ | ⟨-, e⟩ | ⟨-, e⟩ <;> rw [e]
  · exact makeReply_outstanding s _ _
  · exact makeReply_outstanding s _ _
  · exact makeReply_outstanding s _ _

@[simp] theorem updateLane_outstanding (s : State) (l : Lane) (valid : Bool) :
    (s.updateLane l valid).outstanding = s.outstanding := by
  have h : (s.setLaneRecord l ((s.laneRecord l).after valid)).outstanding = s.outstanding := by cases l <;> rfl
  unfold State.updateLane
  dsimp only
  split
  · exact h
  · split <;> exact h

@[simp] theorem closeExchange_outstanding (s : State) (x : Exchange) (valid : Bool) :
    (s.closeExchange x valid).outstanding = s.outstanding := updateLane_outstanding s _ _

@[simp] theorem tryPoll_outstanding (s : State) (d : Descriptor) (asked : Lane) (n : Nat) (start : TimeTag) (gap : Nat) :
    (s.tryPoll d asked n start gap).outstanding = s.outstanding := rfl

@[simp] theorem confirmPoll_outstanding (s : State) (d : Descriptor) (f : FirstReply) (asked : Lane) (start : TimeTag)
    (gap : Nat) : (s.confirmPoll d f asked start gap).outstanding = s.outstanding := rfl

@[simp] theorem beginExchange_outstanding (s : State) (asked : Lane) (f : Frame) (k : ReplyKind) :
    (s.beginExchange asked f k).outstanding = s.outstanding := rfl

@[simp] theorem markSent_outstanding (s : State) (l : Lift) (o : Order) :
    (s.markSent l o).outstanding = s.outstanding := by
  unfold State.markSent
  dsimp only
  split <;> split <;> rfl

@[simp] theorem rejudge_outstanding (q : List RemoteCommand) (s : State) :
    (s.rejudge q).1.outstanding = s.outstanding := by
  induction q generalizing s with
  | nil => rfl
  | cons c cs ih =>
    unfold State.rejudge
    split
    · rw [ih, makeReply_outstanding]
    · rfl

@[simp] theorem takeSlot_outstanding (s : State) (d : Descriptor) (now : TimeTag) :
    (s.takeSlot d now).1.outstanding = s.outstanding := by
  unfold State.takeSlot
  split
  · split
    · simp
    · rfl
  · have h := rejudge_outstanding s.orders.passQueue s
    split
    next e => rwa [e] at h
    next e =>
      rw [e] at h
      simpa using h

@[simp] theorem takeDescriptor_outstanding (s : State) (d : Descriptor) (now : TimeTag) :
    (s.takeDescriptor d now).1.outstanding = s.outstanding := by
  unfold State.takeDescriptor
  cases d.kind with
  | pause =>
    dsimp only
    split <;> rfl
  | pollLift =>
    dsimp only
    split <;> rfl
  | pollPower => rfl
  | pollHazard => rfl
  | orderSlot => exact takeSlot_outstanding s d now

@[simp] theorem takeFrom_outstanding (ds : List Descriptor) (s : State) (i : Nat) (now : TimeTag) :
    (s.takeFrom ds i now).1.outstanding = s.outstanding := by
  induction ds generalizing s i with
  | nil => rfl
  | cons d ds ih =>
    have h := takeDescriptor_outstanding { s with scan := { s.scan with current := some i } } d now
    unfold State.takeFrom
    split
    next e =>
      rw [e] at h
      rw [ih]
      exact h
    next e => rwa [e] at h

@[simp] theorem swapScan_outstanding (s : State) : s.swapScan.outstanding = s.outstanding := rfl

@[simp] theorem endCycle_outstanding (s : State) (now : TimeTag) : (s.endCycle now).outstanding = s.outstanding := by
  unfold State.endCycle
  dsimp only
  split <;> split <;> rfl

@[simp] theorem offerCopy_outstanding (s : State) (l : Lift) (p : List Word) (r : Report) :
    (s.offerCopy l p r).outstanding = s.outstanding := by
  unfold State.offerCopy
  split
  · rfl
  · split
    · rfl
    · split <;> rfl

@[simp] theorem sendAllStop_outstanding (s : State) : s.sendAllStop.outstanding = s.outstanding := rfl

@[simp] theorem sendEnd_outstanding (s : State) (now : TimeTag) : (s.sendEnd now).outstanding = s.outstanding := by
  unfold State.sendEnd
  split
  · split <;> rfl
  · rfl

@[simp] theorem expireSilence_outstanding (s : State) (now : TimeTag) :
    (s.expireSilence now).outstanding = s.outstanding := by
  unfold State.expireSilence
  split <;> rfl

theorem writeFaultClass_outstanding (s : State) (i : Nat) (ws : List Word) :
    (s.writeFaultClass i ws).1.outstanding = s.outstanding := by
  unfold State.writeFaultClass
  split
  · split <;> rfl
  · rfl

theorem writeScan_outstanding (s : State) (i : Nat) (ws : List Word) :
    (s.writeScan i ws).1.outstanding = s.outstanding := by
  unfold State.writeScan
  dsimp only
  split
  · rfl
  · split
    · rfl
    · split
      · split <;> rfl
      · split
        · rfl
        · split <;> rfl

theorem writeRecipe_outstanding (s : State) (i : Nat) (ws : List Word) :
    (s.writeRecipe i ws).1.outstanding = s.outstanding := by
  unfold State.writeRecipe
  split
  · rfl
  · split
    · rfl
    · split <;> rfl

/-- A plain update keeps the books. -/
theorem Untouched.books {s u : State} (h : Untouched s u) (ho : u.outstanding = s.outstanding := by simp) : Books s u :=
  books_of_same h.lifts h.queue ho

/-- A fold of operations that keep the books keeps them. -/
theorem foldl_books {α : Type} (f : State → α → State) (h : ∀ s a, Books s (f s a)) (xs : List α) (s : State) :
    Books s (xs.foldl f s) := by
  induction xs generalizing s with
  | nil => exact .rfl
  | cons x xs ih => exact (h s x).trans (ih (f s x))

/-! ### The scan cycle -/

theorem settle_books (s : State) (now : TimeTag) : Books s (s.settle now) := by
  unfold State.settle
  split
  · exact evaluateAdmission_books s now
  · exact .rfl

theorem finish_books (s : State) (now : TimeTag) : Books s (s.finish now) :=
  (settle_books s now).trans (transmit_untouched _).books

theorem openCycle_books (s : State) (now : TimeTag) : Books s (s.openCycle now) := by
  unfold State.openCycle
  extract_lets e a
  refine .trans (.trans (books_of_same (u := a.setProbes) rfl rfl rfl) (foldl_books _ (fun u l => ?_) _ _))
    (settle_books _ now)
  split
  · exact renewCreep_books u l now
  · exact .rfl

theorem startCycle_books (s : State) (now : TimeTag) : Books s (s.startCycle now) := by
  have h := openCycle_books s now
  unfold State.startCycle
  extract_lets a
  have k := (takeFrom_untouched (a.scan.bank a.scan.active).descriptors a 0 now).books
  split
  next e => rw [e] at k; exact (h.trans k).trans (endCycle_untouched _ now).books
  next e => rw [e] at k; exact h.trans k

theorem advance_books (s : State) (i : Nat) (now : TimeTag) : Books s (s.advance i now) := by
  have k := (takeFrom_untouched ((s.scan.bank s.scan.active).descriptors.drop i) s i now).books
  unfold State.advance
  split
  next u e =>
    rw [e] at k
    have hu := k.trans (endCycle_untouched u now).books
    dsimp only
    split
    · exact hu.trans (startCycle_books _ now)
    · exact hu
  next e => rw [e] at k; exact k

theorem endWork_books (s : State) (start : TimeTag) (gap : Nat) (now : TimeTag) :
    Books s (s.endWork start gap now) := by
  unfold State.endWork
  split
  · exact advance_books s _ now
  · exact (setPhase_untouched s _).books

theorem expireGap_books (s : State) (now : TimeTag) : Books s (s.expireGap now) := by
  unfold State.expireGap
  split
  · split
    · exact advance_books s _ now
    · exact .rfl
  · exact .rfl

theorem expireCycle_books (s : State) (now : TimeTag) : Books s (s.expireCycle now) := by
  unfold State.expireCycle
  split
  · split
    · exact startCycle_books s now
    · exact .rfl
  · exact .rfl

theorem goOn_books (s : State) (g : GoingOn) (start : TimeTag) (gap : Nat) (now : TimeTag) :
    Books s (s.goOn g start gap now) := by
  cases g with
  | ended => exact endWork_books s start gap now
  | retry d asked n => exact (tryPoll_untouched s d asked n start gap).books
  | confirm d f lane => exact (confirmPoll_untouched s d f lane start gap).books

/-! ### What an exchange brings -/

theorem takeReport_books (s : State) (l : Lift) (src : Nat) (p : List Word) (r : Report) (now : TimeTag) :
    Books s (s.takeReport l src p r now) := by
  have hc : Untouched s ((s.offerCopy l p r).transmit) := (offerCopy_untouched s l p r).trans (transmit_untouched _)
  unfold State.takeReport
  split
  · exact .rfl
  · exact (hc.books.trans ((storeReport_books r now).trans (reportByState_books _ r _ now))).trans (settle_books _ now)

theorem takePower_books (s : State) (p : List Word) (now : TimeTag) : Books s (s.takePower p now) := by
  unfold State.takePower
  dsimp only
  split <;> exact books_of_same rfl rfl rfl

theorem takeHazard_books (s : State) (p : List Word) (now : TimeTag) : Books s (s.takeHazard p now) := by
  unfold State.takeHazard
  extract_lets zones changed a b
  have h : Books s b := .trans (books_of_same (u := a) rfl rfl rfl)
    (foldl_books _ (fun u l => hazardReplan_books u changed now l) allLifts a)
  split
  · exact h.trans (callAdmission_untouched b).books
  · exact h

theorem useSend_books (s : State) (l : Lift) (o : Order) (now : TimeTag) : Books s (s.useSend l o now) := by
  unfold State.useSend
  split
  · exact (setSlot_untouched s l none).books.trans (deliver_books _ l _ _ now)
  · exact (setSlot_untouched s l _).books

theorem orderOutcome_books (s : State) (l : Lift) (tag : BitVec 4) (out : EchoOutcome) (now : TimeTag) :
    Books s (s.orderOutcome l tag out now) := by
  unfold State.orderOutcome
  split
  · split
    · cases out with
      | echo t refused =>
        dsimp only
        split
        · exact (setSlot_untouched s l none).books.trans (deliver_books _ l _ _ now)
        · exact useSend_books s l _ now
      | silent => exact useSend_books s l _ now
    · exact .rfl
  · exact .rfl

theorem liftReply_books (s : State) (d : Descriptor) (r : Reply) (now : TimeTag) :
    Books s (s.liftReply d r now).1 := by
  unfold State.liftReply
  split
  · dsimp only
    split
    · exact .rfl
    · exact takeReport_books s _ _ _ _ now
  · exact .rfl

theorem jobReply_books (s : State) (job : Job) (r : Reply) (now : TimeTag) :
    Books s (s.jobReply job r now).1 := by
  have hs : ∀ u, Books s u → Books s (u.settle now) := fun u h => h.trans (settle_books u now)
  unfold State.jobReply
  cases job with
  | poll d asked left =>
    dsimp only
    split
    · refine hs _ ?_
      split
      · exact takePower_books s _ now
      · exact .rfl
    · refine hs _ ?_
      split
      · exact takeHazard_books s _ now
      · exact .rfl
    · exact liftReply_books s d r now
  | confirm d first =>
    dsimp only
    split
    · exact takeReport_books s _ _ _ _ now
    · exact .rfl
  | abandoned => exact .rfl
  | order l tag => exact hs _ (orderOutcome_books s l tag _ now)
  | command node => exact (commandReply_untouched s _).books

theorem pollMissed_books (s : State) (d : Descriptor) (asked : Lane) (left : Nat) (now : TimeTag) :
    Books s (s.pollMissed d asked left now).1 := by
  unfold State.pollMissed
  split
  · exact .rfl
  · cases left with
    | succ n => exact .rfl
    | zero =>
      dsimp only
      split
      · exact .trans (unansweredPoll_books s _ now) (settle_books _ now)
      · exact .rfl

theorem jobMissed_books (s : State) (job : Job) (now : TimeTag) : Books s (s.jobMissed job now).1 := by
  unfold State.jobMissed
  cases job with
  | poll d asked left => exact pollMissed_books s d asked left now
  | confirm d first =>
    dsimp only
    split
    · exact takeReport_books s _ _ _ _ _
    · exact .rfl
  | abandoned => exact .rfl
  | order l tag => exact (orderOutcome_books s l tag _ now).trans (settle_books _ now)
  | command node => exact (makeReply_untouched s _ _).books

theorem endExchange_books (s : State) (x : Exchange) (valid : Bool) (k : State → Job → State × GoingOn)
    (now : TimeTag) (hk : ∀ job, Books s (k s job).1) : Books s (s.endExchange x valid k now) := by
  unfold State.endExchange
  split
  · exact ((closeExchange_untouched s x valid).trans (sendAllStop_untouched _)).books
  · split
    next start gap job _ =>
      exact ((hk job).trans (closeExchange_untouched _ x valid).books).trans (goOn_books _ _ start gap now)
    · exact (closeExchange_untouched s x valid).books

theorem ringFrame_books (s : State) (kind : ReplyKind) (r : Reply) (now : TimeTag) :
    Books s (s.ringFrame kind r now) := by
  unfold State.ringFrame
  split
  · split
    · exact endExchange_books s _ true _ now fun job => jobReply_books s job r now
    · exact .rfl
  · exact .rfl

theorem closeWindow_books (s : State) (now : TimeTag) : Books s (s.closeWindow now) := by
  unfold State.closeWindow
  split
  · split
    · exact endExchange_books s _ false _ now fun job => jobMissed_books s job now
    · exact .rfl
  · exact .rfl

/-! ### Expiries and arrivals -/

theorem expirePower_books (s : State) (now : TimeTag) : Books s (s.expirePower now) := by
  unfold State.expirePower
  split
  · exact books_of_same rfl rfl rfl
  · exact .rfl

/-- The frame of every command: the time, what it does, the evaluation owed and the transmitter. -/
theorem command_books {s u : State} {t : TimeTag} (h : Books (s.atTime t) u) :
    Books s (u.finish t) := ((atTime_untouched s t).books.trans h).trans (finish_books u t)

theorem replyArrives_books (s : State) (kind : ReplyKind) (r : Reply) (t : TimeTag) :
    Books s (s.replyArrives kind r t) := command_books (ringFrame_books _ kind r t)

theorem ringWords_books (s : State) (lane : Lane) (ws : List Word) (whole : Bool) (t : TimeTag) :
    Books s (s.ringWords lane ws whole t) := by
  unfold State.ringWords
  split
  · split
    · exact replyArrives_books s _ _ t
    · exact (atTime_untouched s t).books
  · exact (atTime_untouched s t).books

theorem remoteArrives_books (s : State) (c : RemoteCommand) (t : TimeTag) :
    Books s (s.remoteArrives c t) := by
  unfold State.remoteArrives
  split
  · exact (atTime_untouched s t).books
  · exact command_books ((arrive_untouched _ t).trans (takeRemote_untouched _ c)).books

/-! ### Management requests -/

theorem paramStored_books (s : State) (n old new : Nat) (now : TimeTag) :
    Books s (s.paramStored n old new now) := by
  unfold State.paramStored
  extract_lets a b c d
  have ha : Books s a := by
    unfold a State.floorWritten
    split
    · split
      · exact (raiseStation_untouched s _).books
      · exact .rfl
    · exact .rfl
  have hb : Books a b := by
    unfold b
    split
    · exact expirePower_books a now
    · exact .rfl
  have hc : Books b c := by
    unfold c
    split
    · exact (expireSilence_untouched b now).books
    · exact .rfl
  have hd : Books s d := ((ha.trans hb).trans hc).trans (evaluateAdmission_books c now)
  split
  · exact hd.trans (expireCycle_books d now)
  · exact hd

theorem writeParameter_books (s : State) (n : Nat) (ws : List Word) (now : TimeTag) :
    Books s (s.writeParameter n ws now).1 := by
  unfold State.writeParameter
  split
  · exact .rfl
  · exact .rfl
  · split
    · exact .rfl
    · refine .trans ?_ (paramStored_books _ _ _ _ now)
      exact books_of_same rfl rfl rfl

theorem writeEntry_books (s : State) (tb : Table) (i : Nat) (ws : List Word) (now : TimeTag) :
    Books s (s.writeEntry tb i ws now).1 := by
  cases tb with
  | lift => exact writeLift_books s i ws
  | landings => exact writeLandings_books s i ws
  | faultClass => exact books_of_same (writeFaultClass_lifts s i ws).1 (writeFaultClass_lifts s i ws).2 (writeFaultClass_outstanding s i ws)
  | scan => exact books_of_same (writeScan_lifts s i ws).1 (writeScan_lifts s i ws).2 (writeScan_outstanding s i ws)
  | recipe => exact books_of_same (writeRecipe_lifts s i ws).1 (writeRecipe_lifts s i ws).2 (writeRecipe_outstanding s i ws)
  | parameters => exact writeParameter_books s i ws now

theorem takeScanSwap_books (s : State) (now : TimeTag) : Books s (s.takeScanSwap now) := by
  have hs : Books s s.swapScan := (swapScan_untouched s).books
  unfold State.takeScanSwap
  split
  · exact hs.trans (startCycle_books _ now)
  · split
    · exact hs
    · exact books_of_same rfl rfl rfl

theorem requestSwap_books (s : State) (sel : Nat) (now : TimeTag) : Books s (s.requestSwap sel now).1 := by
  have hr : Books s s.swapRecipe := books_of_same rfl rfl rfl
  unfold State.requestSwap
  split
  · unfold State.requestSwapScan
    split
    · exact .rfl
    · exact takeScanSwap_books s now
  · exact hr
  · unfold State.requestSwapBoth
    split
    · exact .rfl
    · exact hr.trans (takeScanSwap_books _ now)
  · exact .rfl

theorem control_books (s : State) (n : Nat) (a : Action) (now : TimeTag) :
    Books s (s.control n a now).1 := by
  unfold State.control
  split
  · exact .rfl
  next l _ =>
    split
    next ha => exact act_books now ha
    · exact .rfl

theorem liftControl_books (s : State) (n : Nat) (later : List Word) (now : TimeTag) :
    Books s (s.liftControl n later now).1 := by
  unfold State.liftControl
  split
  · exact .rfl
  · split
    · exact control_books s n _ now
    · split <;> exact .rfl

theorem beginRestart_books (s : State) : Books s s.beginRestart := by
  unfold State.beginRestart
  dsimp only
  split <;> exact books_of_same rfl rfl rfl

theorem restartCycle_books (s : State) (now : TimeTag) : Books s (s.restartCycle now) := by
  cases hv : (s.scan.bank s.scan.active).valid
  · rw [restartCycle_of_invalid s now hv]
    exact books_of_same rfl rfl rfl
  · rw [restartCycle_of_valid s now hv]
    refine .trans ?_ (startCycle_books _ now)
    exact books_of_same rfl rfl rfl

theorem endAllStop_books (s : State) (now : TimeTag) : Books s (s.endAllStop now) := by
  unfold State.endAllStop
  split
  · exact .trans (restartClear_books s) (restartCycle_books _ now)
  · exact .rfl

theorem serve_books (s : State) (r : Request) (held : Option Prefix) (now : TimeTag) :
    Books s (s.serve r held now).1 := by
  unfold State.serve
  cases r with
  | identify => exact .rfl
  | storePrefix tb i ws =>
    dsimp only
    unfold State.takePrefix
    split
    · exact .rfl
    · exact books_of_same rfl rfl rfl
  | write tb i ws => exact writeEntry_books s tb _ _ now
  | read tb i later => dsimp only; rw [readEntry_state]; exact .rfl
  | swap sel => exact requestSwap_books s _ now
  | readContext l later => dsimp only; rw [readContext_state]; exact .rfl
  | liftControl l later => exact liftControl_books s _ later now
  | control l a => exact control_books s _ a now
  | extendStep l later => exact extendStep_books s _ later
  | restart => exact beginRestart_books s
  | unknown c => exact .rfl
  | empty => exact .rfl

theorem agentTakes_books (s : State) (r : Request) (now : TimeTag) : Books s (s.agentTakes r now) := by
  have hc : Books s (s.consume r) := books_of_same rfl rfl rfl
  rcases agentTakes_cases s r now with ⟨-, e⟩ | ⟨-, e⟩ <;> rw [e]
  · exact hc.trans (books_of_same rfl rfl rfl)
  · exact (hc.trans (serve_books _ r _ now)).trans (books_of_same rfl rfl rfl)

theorem takeRequest_books (s : State) (r : Request) (n : Nat) (t : TimeTag) :
    Books s (s.takeRequest r n t) := by
  have ha := (arrive_untouched (s.atTime t) t).books
  rcases takeRequest_cases s r n t with ⟨-, e⟩ | ⟨-, -, e⟩ | ⟨-, -, e⟩ <;> rw [e]
  · exact (atTime_untouched s t).books
  · exact command_books ha
  · exact command_books (ha.trans (agentTakes_books _ r t))

theorem requestArrives_books (s : State) (d : BitVec 6) (p : List Word) (t : TimeTag) :
    Books s (s.requestArrives d p t) := by
  unfold State.requestArrives
  split
  · exact takeRequest_books s _ _ t
  · split
    · exact (atTime_untouched s t).books
    · exact command_books (arrive_untouched _ t).books

theorem routeKind_books (s : State) (f : Frame) (now : TimeTag) : Books s (s.routeKind f now) := by
  unfold State.routeKind
  split
  · split
    · unfold State.routeRequest
      split
      · exact .rfl
      · exact agentTakes_books s _ now
    · exact .rfl
  · split
    · exact (takeRemote_untouched s _).books
    · exact .rfl

theorem linkWords_books (s : State) (ws : List Word) (whole : Bool) (t : TimeTag) :
    Books s (s.linkWords ws whole t) := by
  unfold State.linkWords
  split
  · exact command_books ((arrive_untouched _ t).books.trans (routeKind_books _ _ t))
  · exact (atTime_untouched s t).books

/-! ### Whole commands -/

theorem exec_books {c : Instr} {s u : State} (he : exec c s = .next u) : Books s u := by
  cases c
  case powerOnReset => cases he; exact (reset_books s).trans (books_of_same rfl rfl rfl)
  case allStopSendEnd t => cases he; exact command_books (endAllStop_books _ t)
  case managementRequestDiscard t d p => cases he; exact requestArrives_books s d p t
  case linkFrameDiscard t ws b => cases he; exact linkWords_books s ws b t
  case remoteCommand t d p => cases he; exact remoteArrives_books s _ t
  case exchangeSendEnd t => cases he; exact command_books (sendEnd_untouched _ t).books
  case statusReport t r => cases he; exact replyArrives_books s _ r t
  case powerReport t r => cases he; exact replyArrives_books s _ r t
  case hazardReport t r => cases he; exact replyArrives_books s _ r t
  case orderEcho t r => cases he; exact replyArrives_books s _ r t
  case commandReply t r => cases he; exact replyArrives_books s _ r t
  case replyWindowClose t => cases he; exact command_books (closeWindow_books _ t)
  case ringFrameDiscard t lane ws b => cases he; exact ringWords_books s lane ws b t
  case descriptorGapExpiry t => cases he; exact command_books (expireGap_books _ t)
  case cycleStart t => cases he; exact command_books (expireCycle_books _ t)
  case stepTimerExpiry t l => cases he; exact command_books (expireStep_books _ l t)
  case powerStaleExpiry t => cases he; exact command_books (expirePower_books _ t)
  case silenceExpiry t => cases he; exact command_books (expireSilence_untouched _ t).books
  case transmitEnd t => cases he; exact command_books (link_untouched _ _).books
  all_goals cases he; exact takeRequest_books s _ _ _

/-- Every step keeps the books; an idle step changes nothing. -/
theorem step_books {s u : State} (he : step s = .next u) : Books s u := by
  unfold step at he
  split at he
  · cases he
    exact .rfl
  next c cs _ => exact .trans (books_of_same (s := s) (u := { s with pending := cs }) rfl rfl rfl) (exec_books he)

end Sys2Proof.Machine

open Sys2Proof Sys2Proof.Machine Sys2Proof.Slice0 in
/-- Settles O54: each operation moves the outstanding reservation by what it moves in its own lift's record. -/
theorem stepKeepsReservationsBalanced : Obligations.StepKeepsReservationsBalanced :=
  fun _ _ hc hb he => (step_books he).balanced hc hb

open Sys2Proof Sys2Proof.Machine Sys2Proof.Slice0 in
/-- Settles O48: an insertion compares merits first, and every operation either leaves the ranks alone or reinserts the
lift whose merit it changes. -/
theorem queueStaysInMeritOrder : Obligations.QueueStaysInMeritOrder :=
  ⟨fun s l hn ho => ⟨enqueue_meritOrdered ho, enqueue_nodup s l hn, fun k => mem_enqueue s l k⟩,
    fun _ _ hc ho he => (step_books he).ordered hc ho⟩
end

section
/-! The Step Sequencer (R93 to R101): how a step ends, what a WAIT counts, how each kind of step is entered, and how the
entries of one event follow one another. -/

namespace Sys2Proof.Machine

open Slice0

/-! ### The end of a step (R85, R94, R108) -/

/-- The state in which a step with record `r` has ended, before STEP is raised: its order withdrawn (`mine`), its creep
reservation released (`first`), the return stack left at `stack`. -/
def closedWith (s : State) (l : Lift) (r : RescueRecord) (mine first : Bool) (stack : List Nat) : State :=
  { (if mine then s.setSlot l none else s).setLift l
      { s.lift l with rescue := some { r with creepReleased := r.creepReleased || first, stack := stack,
                                              working := Working.empty } } with
    outstanding := if first then s.outstanding - r.creepReservation else s.outstanding
    admissionDue := first || s.admissionDue }

/-- A step that posted no order and holds no creep reservation. -/
theorem closedWith_plain (s : State) (l : Lift) (r : RescueRecord) (stack : List Nat) :
    closedWith s l r false false stack =
      s.setLift l { s.lift l with rescue := some { r with stack := stack, working := Working.empty } } := by
  simp [closedWith, State.setLift]

theorem posts_iff (a : StepAction) : a.posts = true ↔ (∃ k m, a = .order k m) ∨ a = .creep := by
  cases a <;> simp [StepAction.posts]

theorem withdrawOwn_of_own {s : State} {l : Lift} {r : RescueRecord} {o : Order} (h : (s.lift l).rescue = some r)
    (ho : s.slot l = some o) (hs : o.kind.isStop = false) (hp : o.poster = .entry r.budget) :
    s.withdrawOwn l = s.setSlot l none := by
  simp [State.withdrawOwn, h, ho, hs, hp]

theorem withdrawOwn_of_other {s : State} {l : Lift} {r : RescueRecord} (h : (s.lift l).rescue = some r)
    (ho : ¬ ∃ o, s.slot l = some o ∧ o.kind.isStop = false ∧ o.poster = .entry r.budget) : s.withdrawOwn l = s := by
  cases hslot : s.slot l with
  | none => simp [State.withdrawOwn, hslot]
  | some o =>
    have hnot : ¬ ((!o.kind.isStop && decide (o.poster = .entry r.budget)) = true) := fun hown => by
      simp only [Bool.and_eq_true, Bool.not_eq_true', decide_eq_true_eq] at hown
      exact ho ⟨o, hslot, hown⟩
    unfold State.withdrawOwn
    rw [hslot, h]
    exact if_neg hnot

/-- A step that posts orders withdraws its own pending ordinary one (R94, R140). -/
theorem withdrawn_eq {s : State} {l : Lift} {r : RescueRecord} {a : StepAction} {mine : Bool}
    (h : (s.lift l).rescue = some r)
    (hmine : mine = true ↔ ((∃ k m, a = .order k m) ∨ a = .creep)
      ∧ ∃ o, s.slot l = some o ∧ o.kind.isStop = false ∧ o.poster = .entry r.budget) :
    (if a.posts then s.withdrawOwn l else s) = if mine then s.setSlot l none else s := by
  rw [← posts_iff] at hmine
  cases hm : mine with
  | true =>
    obtain ⟨hposts, o, ho, hs, hp⟩ := hmine.mp hm
    rw [if_pos hposts, withdrawOwn_of_own h ho hs hp, if_pos rfl]
  | false =>
    have hnot : ¬ _ := fun h' => Bool.false_ne_true (hm ▸ hmine.mpr h')
    rw [if_neg Bool.false_ne_true]
    split
    next hposts => exact withdrawOwn_of_other h fun ho => hnot ⟨hposts, ho⟩
    · rfl

/-- The state in which the creep reservation of record `r` has been released (`first`), its figure kept (log 36). -/
def releasedWith (s : State) (l : Lift) (r : RescueRecord) (first : Bool) : State :=
  { s.setLift l { s.lift l with rescue := some { r with creepReleased := r.creepReleased || first } } with
    outstanding := if first then s.outstanding - r.creepReservation else s.outstanding
    admissionDue := first || s.admissionDue }

/-- The first CREEP step to end releases the creep reservation (R85). -/
theorem released_eq {s : State} {l : Lift} {r : RescueRecord} {a : StepAction} {first : Bool}
    (h : (s.lift l).rescue = some r) (hfirst : first = true ↔ a = .creep ∧ r.creepReleased = false) :
    (if a = .creep then s.releaseCreep l else s) = releasedWith s l r first := by
  unfold releasedWith
  cases hf : first with
  | true =>
    obtain ⟨hc, hr⟩ := hfirst.mp hf
    rw [if_pos hc, releaseCreep_of_first h hr, hr]
    rfl
  | false =>
    have hsame : ({ s.lift l with rescue := some { r with creepReleased := r.creepReleased || false } } : LiftContext)
        = s.lift l := by rw [Bool.or_false, ← h]
    have hkept : (if a = .creep then s.releaseCreep l else s) = s := by
      split
      next hc =>
        refine releaseCreep_of_released h ?_
        by_contra hr
        simp [hf, hc, hr] at hfirst
      · rfl
    rw [hkept, hsame, setLift_lift]
    rfl

/-- With its working values gone, what is left of an ended step. -/
theorem emptied_eq {s a : State} {l : Lift} {r : RescueRecord} {mine first : Bool}
    (ha : a = if mine then s.setSlot l none else s) :
    (releasedWith a l r first).modRescue l (fun r => { r with working := Working.empty }) =
      closedWith s l r mine first r.stack := by
  have hlift : (releasedWith a l r first).lift l
      = { a.lift l with rescue := some { r with creepReleased := r.creepReleased || first } } :=
    lift_setLift_same a l _
  have halift : a.lift l = s.lift l := by rw [ha]; split <;> rfl
  have hafields : a.outstanding = s.outstanding ∧ a.admissionDue = s.admissionDue := by
    rw [ha]
    split <;> exact ⟨rfl, rfl⟩
  rw [modRescue_eq _ (congrArg LiftContext.rescue hlift), hlift, closedWith, ← ha, ← halift, ← hafields.1, ← hafields.2]
  simp [releasedWith, State.setLift]

/-- The end of a step before the next entry (R94): STEP is raised when it ended done with notify. -/
theorem closeStep_eq {s : State} {l : Lift} {r : RescueRecord} {sr : StepRecord} {mine first : Bool} (ok : Bool)
    (h : (s.lift l).rescue = some r)
    (hmine : mine = true ↔ ((∃ k m, sr.action = .order k m) ∨ sr.action = .creep)
      ∧ ∃ o, s.slot l = some o ∧ o.kind.isStop = false ∧ o.poster = .entry r.budget)
    (hfirst : first = true ↔ sr.action = .creep ∧ r.creepReleased = false) :
    s.closeStep l sr ok =
      if ok && sr.notify then raised (closedWith s l r mine first r.stack) (l.val + 1) 2
      else closedWith s l r mine first r.stack := by
  obtain ⟨a, ha⟩ : ∃ a, a = if mine then s.setSlot l none else s := ⟨_, rfl⟩
  have harescue : (a.lift l).rescue = some r := by
    rw [← h, ha]
    split <;> rfl
  have hraise : ∀ (b : Bool) (u : State) (f : RescueRecord → RescueRecord),
      (if b then u.raiseLift l .step else u).modRescue l f =
        if b then raised (u.modRescue l f) (l.val + 1) 2 else u.modRescue l f := fun b u f => by cases b <;> rfl
  unfold State.closeStep
  dsimp only
  rw [withdrawn_eq h hmine, ← ha, released_eq harescue hfirst, hraise, emptied_eq ha]

/-- A step that is no CREEP and has no order of its own pending ends by its chain alone. -/
theorem closeStep_plain {s : State} {l : Lift} {r : RescueRecord} {sr : StepRecord} (ok : Bool)
    (h : (s.lift l).rescue = some r) (hc : sr.action ≠ .creep)
    (ho : (∃ k m, sr.action = .order k m) → ∀ o ∈ s.slot l, o.kind.isStop = true) :
    s.closeStep l sr ok =
      if ok && sr.notify then
        raised (s.setLift l { s.lift l with rescue := some { r with working := Working.empty } }) (l.val + 1) 2
      else s.setLift l { s.lift l with rescue := some { r with working := Working.empty } } := by
  have hnot : ¬ (((∃ k m, sr.action = .order k m) ∨ sr.action = .creep)
      ∧ ∃ o, s.slot l = some o ∧ o.kind.isStop = false ∧ o.poster = .entry r.budget) := by
    rintro ⟨hposts, o, hslot, hs, -⟩
    exact Bool.false_ne_true (hs.symm.trans (ho (hposts.resolve_right hc) o hslot))
  have hplain := closeStep_eq (sr := sr) (mine := false) (first := false) ok h (by simp [hnot]) (by simp [hc])
  rwa [closedWith_plain] at hplain

theorem lift_closedWith (s : State) (l : Lift) (r : RescueRecord) (mine first : Bool) (stack : List Nat) :
    (closedWith s l r mine first stack).lift l =
      { s.lift l with rescue := some { r with creepReleased := r.creepReleased || first, stack := stack,
                                              working := Working.empty } } := lift_setLift_same _ l _

theorem entry_closedWith (s : State) (l : Lift) (r : RescueRecord) (mine first : Bool) (stack : List Nat) :
    ((closedWith s l r mine first stack).lift l).entry = (s.lift l).entry := by rw [lift_closedWith]

theorem setLift_stack_eq {s : State} {l : Lift} {r : RescueRecord} {mine first : Bool} (stack : List Nat) :
    (closedWith s l r mine first r.stack).modRescue l (fun r => { r with stack := stack }) =
      closedWith s l r mine first stack := by
  have hlift := lift_closedWith s l r mine first r.stack
  rw [modRescue_eq _ (congrArg LiftContext.rescue hlift), hlift]
  simp [closedWith, State.setLift]

theorem leaveStep_of_deferred {s : State} {l : Lift} {r : RescueRecord} {k : CreepWork} (sr : StepRecord) (ok : Bool)
    (h : (s.lift l).rescue = some r) (hk : r.working.creep = some k) (hd : k.abortDeferred = true) :
    s.leaveStep l sr ok =
      ((s.closeStep l sr ok).modRescue l (fun r => { r with stack := [] }),
        ((s.closeStep l sr ok).lift l).entry.abortStart) := by
  simp [State.leaveStep, creepWork_eq h, hk, hd]

theorem leaveStep_of_undeferred {s : State} {l : Lift} {r : RescueRecord} (sr : StepRecord) (ok : Bool)
    (h : (s.lift l).rescue = some r) (hd : ∀ k, r.working.creep = some k → k.abortDeferred = false) :
    s.leaveStep l sr ok = (s.closeStep l sr ok, if ok then sr.chainDone else sr.chainFail) := by
  cases hk : r.working.creep with
  | none => exact leaveStep_entry ok h hk
  | some k => simp [State.leaveStep, creepWork_eq h, hk, hd k hk]

/-- A step left (R94): its chain is entered, or the abort recipe start, with an empty return stack, when an abort was
deferred in it (R108). -/
theorem leaveStep_eq {s : State} {l : Lift} {r : RescueRecord} {sr : StepRecord} {mine first deferred : Bool} (ok : Bool)
    (h : (s.lift l).rescue = some r)
    (hmine : mine = true ↔ ((∃ k m, sr.action = .order k m) ∨ sr.action = .creep)
      ∧ ∃ o, s.slot l = some o ∧ o.kind.isStop = false ∧ o.poster = .entry r.budget)
    (hfirst : first = true ↔ sr.action = .creep ∧ r.creepReleased = false)
    (hdeferred : deferred = true ↔ ∃ k, r.working.creep = some k ∧ k.abortDeferred = true) {v : State}
    (hv : v = closedWith s l r mine first (if deferred then [] else r.stack)) :
    s.leaveStep l sr ok =
      (if ok && sr.notify then raised v (l.val + 1) 2 else v,
        if deferred then (s.lift l).entry.abortStart else if ok then sr.chainDone else sr.chainFail) := by
  have hclose := closeStep_eq ok h hmine hfirst
  subst hv
  cases deferred with
  | true =>
    obtain ⟨k, hk, hd⟩ := hdeferred.mp rfl
    have hstack : (s.closeStep l sr ok).modRescue l (fun r => { r with stack := [] }) =
        if ok && sr.notify then raised (closedWith s l r mine first []) (l.val + 1) 2
        else closedWith s l r mine first [] := by
      rw [hclose, ← setLift_stack_eq []]
      split <;> rfl
    have hentry : ((s.closeStep l sr ok).lift l).entry = (s.lift l).entry := by
      rw [hclose]
      split <;> exact entry_closedWith s l r mine first r.stack
    rw [leaveStep_of_deferred sr ok h hk hd, hstack, hentry]
    rfl
  | false =>
    rw [leaveStep_of_undeferred sr ok h fun k hk => Bool.eq_false_iff.mpr fun hd => ?_, hclose]
    · rfl
    · exact Bool.false_ne_true (hdeferred.mpr ⟨k, hk, hd⟩)

theorem stepsEndByTheirRules : StepsEndByTheirRules := by
  rintro s l ok now r sr h rfl mine first deferred hmine hfirst hdeferred v hv
  have hleave := leaveStep_eq (v := v) ok h hmine hfirst hdeferred hv
  unfold State.endStep
  rw [runningStep_eq h]
  dsimp only
  rw [hleave]
  cases ok <;> simp

/-! ### WAIT (R96) -/

theorem holds_iff (k : WaitCondition) (r : Report) (occupancy : Option Nat) :
    k.holds r occupancy = true ↔ Satisfies k r occupancy := by
  cases k with
  | stopped => exact decide_eq_true_iff
  | mainsLost => exact Iff.rfl
  | armed => exact decide_eq_true_iff
  | doorsOpen => exact decide_eq_true_iff
  | carClear => exact decide_eq_true_iff
  | brakeSet => exact Iff.rfl

theorem waitsCountReports : WaitsCountReports := by
  rintro s l rep now r sr h rfl
  have hrun := runningStep_eq h
  refine ⟨fun k hk n v hyes hno hv => ?_, fun hc => ?_, fun hother => ?_⟩
  · have hn : (if k.holds rep (s.lift l).occupancy then r.working.repeats + 1 else 0) = n := by
      split
      next hh => exact (hyes ((holds_iff k rep _).mp hh)).symm
      next hh => exact (hno fun hs => hh ((holds_iff k rep _).mpr hs)).symm
    have hstep : s.stepReport l rep now =
        if atLeastOne (s.stepRecord r.bank r.step).count ≤ n then v.endStep l true now else v := by
      unfold State.stepReport
      rw [hrun]
      dsimp only
      rw [hk]
      dsimp only
      rw [h]
      dsimp only
      simp only [hn, modRescue_eq _ h, hv]
    exact ⟨fun hle => hstep.trans (if_pos hle), fun hlt => hstep.trans (if_neg (Nat.not_le.mpr hlt))⟩
  · unfold State.stepReport
    rw [hrun]
    dsimp only
    rw [hc]
  · unfold State.stepReport
    rw [hrun]
    dsimp only
    rcases hother with hp | ⟨k, m, ho⟩
    · rw [hp]
    · rw [ho]

/-! ### Entries (R93, R97, R100, R101) -/

theorem post_of_not_turned_away {s : State} {l : Lift} (k : OrderKind) (p : Poster) (n : Nat)
    (h : ∀ o ∈ s.slot l, o.kind.isStop = true → k.isStop = true) :
    s.post l k p n = (s.setSlot l (some { kind := k, poster := p, sends := n, tag := none }), true) := by
  unfold State.post
  split
  next o ho =>
    have hposted : ¬ ((o.kind.isStop && !k.isStop) = true) := fun hb => by
      simp only [Bool.and_eq_true, Bool.not_eq_true'] at hb
      exact Bool.false_ne_true (hb.2.symm.trans (h o ho hb.1))
    exact if_neg hposted
  · rfl

/-- The record of an entry as the model writes it. -/
def entered (r : RescueRecord) (i : Nat) (sr : StepRecord) (now : TimeTag) : RescueRecord :=
  { r with budget := r.budget + 1, step := i, working := Working.entered sr now }

/-- What an entry does once its record, `r`, is in place. -/
def State.entryAction (s : State) (l : Lift) (sr : StepRecord) (r : RescueRecord) (now : TimeTag) :
    State × Option Nat :=
  match sr.action with
  | .wait _ => (s, none)
  | .pause => (s, none)
  | .order k m => s.enterOrder l sr k m
  | .creep => s.enterCreep l sr now
  | .call target => s.enterCall l sr r target
  | .ret => s.enterReturn l sr r
  | .finish outcome => (s.endExecution l (.reached outcome) now, none)

section
variable {s : State} {l : Lift} {r : RescueRecord}

theorem enterOnce_of_spent (i : Nat) (now : TimeTag) (h : (s.lift l).rescue = some r) (hb : 32 ≤ r.budget) :
    s.enterOnce l i now = (s.endExecution l .stepLimit now, none) := by
  unfold State.enterOnce
  rw [h]
  exact if_pos hb

theorem enterOnce_of_budget (i : Nat) (now : TimeTag) (h : (s.lift l).rescue = some r) (hb : r.budget < 32) :
    s.enterOnce l i now =
      (s.setLift l { s.lift l with rescue := some (entered r i (s.stepRecord r.bank i) now) }).entryAction l
        (s.stepRecord r.bank i) (entered r i (s.stepRecord r.bank i) now) now := by
  have hrecord := modRescue_eq (fun _ => entered r i (s.stepRecord r.bank i) now) h
  rw [← hrecord]
  unfold State.enterOnce
  rw [h]
  exact if_neg (Nat.not_le.mpr hb)

end

/-- The steps with a step timer: WAIT, PAUSE, ORDER and CREEP (R93). -/
def StepAction.timed : StepAction → Bool
  | .call _ => false
  | .ret => false
  | .finish _ => false
  | _ => true

theorem entered_eq (r : RescueRecord) (i : Nat) (sr : StepRecord) (now : TimeTag) :
    entered r i sr now =
      entering r i (if sr.action.timed then some { loadedAt := now, ds := atLeastOne sr.timeout } else none) := by
  unfold entered Working.entered StepAction.timed
  cases sr.action <;> rfl

section
variable {u : State} {l : Lift} {r : RescueRecord} {sr : StepRecord}

/-- An ORDER whose order is posted waits for its outcome (R97). -/
theorem enterOrder_of_posted {k : StepOrder} {m : Nat} {kind : OrderKind} (h : (u.lift l).rescue = some r)
    (hk : (u.lift l).stepOrder k m = some kind) (hslot : ∀ o ∈ u.slot l, o.kind.isStop = true → kind.isStop = true) :
    u.enterOrder l sr k m =
      (u.setSlot l (some { kind := kind, poster := .entry r.budget, sends := atLeastOne sr.count, tag := none }), none) := by
  unfold State.enterOrder
  rw [hk]
  simp only [post_of_not_turned_away kind _ _ hslot, if_true, runningEntry_eq h]

/-- An ORDER whose order is turned away ends in fail within its entry (R97, R139). -/
theorem enterOrder_of_turned_away {k : StepOrder} {m : Nat} {kind : OrderKind} (h : (u.lift l).rescue = some r)
    (hcreep : r.working.creep = none) (hsr : sr.action = .order k m) (hk : (u.lift l).stepOrder k m = some kind)
    (hstop : ∃ o ∈ u.slot l, o.kind.isStop = true) (hkind : kind.isStop = false) :
    u.enterOrder l sr k m =
      (u.setLift l { u.lift l with rescue := some { r with working := Working.empty } }, some sr.chainFail) := by
  have hstops : ∀ o ∈ u.slot l, o.kind.isStop = true := by
    obtain ⟨o, ho, hs⟩ := hstop
    intro o' ho'
    rwa [← Option.some.inj (ho.symm.trans ho')]
  have hclose := closeStep_plain (sr := sr) false h (by simp [hsr]) fun _ => hstops
  unfold State.enterOrder
  rw [hk]
  simp only [post_of_stop _ _ hkind hstop, Bool.false_eq_true, if_false]
  rw [leaveStep_entry false h hcreep, hclose]
  rfl

/-- An OPEN DOORS step without a landing ends in fail within its entry (R97). -/
theorem enterOrder_of_no_order {k : StepOrder} {m : Nat} (h : (u.lift l).rescue = some r)
    (hcreep : r.working.creep = none) (hsr : sr.action = .order k m) (hk : (u.lift l).stepOrder k m = none) :
    ∃ v, u.enterOrder l sr k m = (v, some sr.chainFail)
      ∧ (v.lift l).rescue = some { r with working := Working.empty } := by
  obtain ⟨mine, hmine⟩ : ∃ mine : Bool, mine = true ↔ ((∃ k m, sr.action = .order k m) ∨ sr.action = .creep)
      ∧ ∃ o, u.slot l = some o ∧ o.kind.isStop = false ∧ o.poster = .entry r.budget :=
    ⟨_, @decide_eq_true_iff _ (Classical.propDecidable _)⟩
  have hclose := closeStep_eq (first := false) false h hmine (by simp [hsr])
  refine ⟨closedWith u l r mine false r.stack, ?_, ?_⟩
  · unfold State.enterOrder
    rw [hk]
    dsimp only
    rw [leaveStep_entry false h hcreep, hclose]
    rfl
  · rw [lift_closedWith, Bool.or_false]

/-- CALL and RETURN end done with the return stack changed (R100). -/
theorem closeStep_restacked (f : List Nat → List Nat) (h : (u.lift l).rescue = some r) (hc : sr.action ≠ .creep)
    (ho : ∀ k m, sr.action ≠ .order k m) {v : State}
    (hv : v = u.setLift l { u.lift l with rescue := some { r with stack := f r.stack, working := Working.empty } }) :
    (u.modRescue l fun r => { r with stack := f r.stack }).closeStep l sr true =
      if sr.notify then raised v (l.val + 1) 2 else v := by
  obtain ⟨p, hp⟩ : ∃ p, p = u.modRescue l fun r => { r with stack := f r.stack } := ⟨_, rfl⟩
  have hset := hp.trans (modRescue_eq _ h)
  have hlift : p.lift l = { u.lift l with rescue := some { r with stack := f r.stack } } := by
    rw [hset]
    exact lift_setLift_same u l _
  have hclose := closeStep_plain (sr := sr) true (congrArg LiftContext.rescue hlift) hc
    fun ⟨k, m, hk⟩ => absurd hk (ho k m)
  have hemptied : p.setLift l { p.lift l with
      rescue := some { r with stack := f r.stack, working := Working.empty } } = v := by
    rw [hlift, hset, setLift_setLift, hv]
  rw [← hp, hclose, hemptied]
  rfl

/-- A CALL with room on the return stack pushes the step to return to (R100). -/
theorem enterCall_of_room {target : Nat} (h : (u.lift l).rescue = some r) (hsr : sr.action = .call target)
    (hroom : r.stack.length < 2) {v : State}
    (hv : v = u.setLift l { u.lift l with
      rescue := some { r with stack := sr.chainDone :: r.stack, working := Working.empty } }) :
    u.enterCall l sr r target = (if sr.notify then raised v (l.val + 1) 2 else v, some target) := by
  have hclose := closeStep_restacked (sr := sr) (List.cons sr.chainDone) h (by simp [hsr]) (by simp [hsr]) hv
  unfold State.enterCall
  rw [if_pos (by exact hroom), hclose]

theorem enterCall_of_full {target : Nat} (h : (u.lift l).rescue = some r) (hsr : sr.action = .call target)
    (hfull : 2 ≤ r.stack.length) :
    u.enterCall l sr r target =
      (u.setLift l { u.lift l with rescue := some { r with working := Working.empty } }, some sr.chainFail) := by
  have hclose := closeStep_plain (sr := sr) false h (by simp [hsr]) (by simp [hsr])
  unfold State.enterCall
  rw [if_neg (by exact Nat.not_lt.mpr hfull), hclose]
  rfl

/-- A RETURN pops the step to enter (R100). -/
theorem enterReturn_of_pushed {j : Nat} {rest : List Nat} (h : (u.lift l).rescue = some r) (hsr : sr.action = .ret)
    (hstack : r.stack = j :: rest) {v : State}
    (hv : v = u.setLift l { u.lift l with rescue := some { r with stack := rest, working := Working.empty } }) :
    u.enterReturn l sr r = (if sr.notify then raised v (l.val + 1) 2 else v, some j) := by
  have hclose := closeStep_restacked (sr := sr) (v := v) List.tail h (by simp [hsr]) (by simp [hsr])
    (by rw [hv, hstack]; rfl)
  unfold State.enterReturn
  rw [hstack]
  dsimp only
  rw [hclose]

theorem enterReturn_of_empty (h : (u.lift l).rescue = some r) (hsr : sr.action = .ret) (hstack : r.stack = []) :
    u.enterReturn l sr r =
      (u.setLift l { u.lift l with rescue := some { r with working := Working.empty } }, some sr.chainFail) := by
  have hclose := closeStep_plain (sr := sr) false h (by simp [hsr]) (by simp [hsr])
  unfold State.enterReturn
  rw [hclose]
  split
  next j rest hj => exact absurd (hstack.symm.trans hj) (List.cons_ne_nil j rest).symm
  · rfl

end

/-- An entry writes its record, with a timer in a step that waits, and then acts by its kind of step (R93). -/
theorem enterOnce_eq {s : State} {l : Lift} {r : RescueRecord} (i : Nat) (now : TimeTag)
    (h : (s.lift l).rescue = some r) (hb : r.budget < 32) {timer : Option StepTimer}
    (htimer : timer = if (s.stepRecord r.bank i).action.timed then
      some { loadedAt := now, ds := atLeastOne (s.stepRecord r.bank i).timeout } else none) :
    s.enterOnce l i now =
      (s.setLift l { s.lift l with rescue := some (entering r i timer) }).entryAction l (s.stepRecord r.bank i)
        (entering r i timer) now := by
  rw [enterOnce_of_budget i now h hb, entered_eq, htimer]

theorem stepsAreEntered : StepsAreEntered := by
  rintro s l i now r sr h rfl put timer hput htimer
  refine ⟨fun hb => enterOnce_of_spent i now h hb, fun hb => ?_⟩
  have henter : ∀ o, o = (if (s.stepRecord r.bank i).action.timed then some timer else none) →
      s.enterOnce l i now =
        (put (entering r i o)).entryAction l (s.stepRecord r.bank i) (entering r i o) now := fun o ho => by
    rw [hput]
    exact enterOnce_eq i now h hb (by rw [ho, htimer]; rfl)
  have hlift : ∀ r', (put r').lift l = { s.lift l with rescue := some r' } := fun r' => by
    rw [hput]
    exact lift_setLift_same s l _
  have hrescue : ∀ r', ((put r').lift l).rescue = some r' := fun r' => congrArg LiftContext.rescue (hlift r')
  have hagain : ∀ r' r'', (put r').setLift l { (put r').lift l with rescue := some r'' } = put r'' := fun r' r'' => by
    rw [hlift, hput, hput, setLift_setLift]
  have hslot : ∀ r', (put r').slot l = s.slot l := fun r' => by rw [hput, slot_setLift]
  refine ⟨fun hact => ?waits, fun k m hact kind hkind => ⟨fun hfree => ?posted, fun hstop hordinary => ?away⟩,
    fun k m hact hnone => ?noLanding, fun target hact => ⟨fun hroom v hv => ?call, fun hfull => ?full⟩,
    fun hact => ⟨fun j rest hstack v hv => ?pushed, fun hempty => ?empty⟩, fun hact => ?creep, fun o hact => ?finish⟩
  case waits =>
    obtain hact | ⟨k, hact⟩ := hact <;> rw [henter (some timer) (by rw [hact]; rfl), State.entryAction, hact]
  case posted =>
    rw [henter (some timer) (by rw [hact]; rfl), State.entryAction, hact]
    exact enterOrder_of_posted (hrescue _) (by rw [hlift]; exact hkind) (by rwa [hslot])
  case away =>
    rw [henter (some timer) (by rw [hact]; rfl), State.entryAction, hact]
    refine (enterOrder_of_turned_away (hrescue _) rfl hact (by rw [hlift]; exact hkind) (by rwa [hslot])
      hordinary).trans ?_
    rw [hagain]
    rfl
  case noLanding =>
    rw [henter (some timer) (by rw [hact]; rfl), State.entryAction, hact]
    exact enterOrder_of_no_order (hrescue _) rfl hact (by rw [hlift]; exact hnone)
  case call =>
    rw [henter none (by rw [hact]; rfl), State.entryAction, hact]
    exact enterCall_of_room (v := v) (hrescue (entering r i none)) hact hroom (by rw [hagain, hv]; rfl)
  case full =>
    rw [henter none (by rw [hact]; rfl), State.entryAction, hact]
    refine (enterCall_of_full (hrescue (entering r i none)) hact hfull).trans ?_
    rw [hagain]
    rfl
  case pushed =>
    rw [henter none (by rw [hact]; rfl), State.entryAction, hact]
    exact enterReturn_of_pushed (v := v) (hrescue (entering r i none)) hact hstack (by rw [hagain, hv]; rfl)
  case empty =>
    rw [henter none (by rw [hact]; rfl), State.entryAction, hact]
    refine (enterReturn_of_empty (hrescue (entering r i none)) hact hempty).trans ?_
    rw [hagain]
    rfl
  case creep => rw [henter (some timer) (by rw [hact]; rfl), State.entryAction, hact]
  case finish => rw [henter none (by rw [hact]; rfl), State.entryAction, hact]

/-! ### The order of an ORDER step (R97) -/

theorem doorLanding_eq {c : LiftContext} {p : Plan} (h : c.plan = some p) :
    c.doorLanding = if p.mode = .marker then c.lastReport.bind (·.report.marker) else p.target := by
  unfold LiftContext.doorLanding
  rw [h]

theorem stepOrdersAreFormed : StepOrdersAreFormed := by
  intro c m
  refine ⟨rfl, rfl, rfl, rfl, rfl, fun hp => ?_, fun p hp n hn => ?_⟩
  · simp [LiftContext.stepOrder, LiftContext.doorLanding, hp]
  · have hdoor : c.doorLanding = n := (doorLanding_eq hp).trans hn.symm
    refine ⟨fun h => ?_, fun i h hi => ?_, fun i d h hi => ?_⟩
    · simp [LiftContext.stepOrder, hdoor, h]
    · simp [LiftContext.stepOrder, hdoor, h, hi]
    · simp [LiftContext.stepOrder, hdoor, h, hi]

/-! ### The entries of one event (R93, log 25) -/

/-- An entry that leads to a next one has used one of the 32. -/
theorem enterOnce_uses {s u : State} {l : Lift} {i j : Nat} {now : TimeTag} (h : s.enterOnce l i now = (u, some j)) :
    ∃ b, (s.lift l).entriesUsed = some b ∧ b < 32 ∧ (u.lift l).entriesUsed = some (b + 1) := by
  cases hr : (s.lift l).rescue with
  | none =>
    rw [State.enterOnce, hr] at h
    exact absurd (congrArg Prod.snd h) (by simp)
  | some r =>
    by_cases hb : 32 ≤ r.budget
    · rw [enterOnce_of_spent i now hr hb] at h
      exact absurd (congrArg Prod.snd h) (by simp)
    · have hlt : r.budget < 32 := Nat.not_le.mp hb
      refine ⟨r.budget, by simp [LiftContext.entriesUsed, hr], hlt, ?_⟩
      obtain ⟨a, ha⟩ : ∃ a, a = s.setLift l
          { s.lift l with rescue := some (entered r i (s.stepRecord r.bank i) now) } := ⟨_, rfl⟩
      have hused : (a.lift l).entriesUsed = some (r.budget + 1) := by
        rw [ha, lift_setLift_same]
        rfl
      rw [enterOnce_of_budget i now hr hlt, ← ha] at h
      have hu : u = (a.entryAction l (s.stepRecord r.bank i) (entered r i (s.stepRecord r.bank i) now) now).1 := by
        rw [h]
      have hsome : (a.entryAction l (s.stepRecord r.bank i) (entered r i (s.stepRecord r.bank i) now) now).2 ≠ none := by
        rw [h]
        exact Option.some_ne_none j
      rw [← hused, hu]
      unfold State.entryAction at hsome ⊢
      split
      · rfl
      · rfl
      · exact (enterOrder_stepAccounts a _ _ _).entries
      · exact (enterCreep_stepAccounts a _ now).entries
      · exact (enterCall_stepAccounts a _ _ _).entries
      · exact (enterReturn_stepAccounts a _ _).entries
      next o ho =>
        rw [ho] at hsome
        exact absurd rfl hsome

/-- Any bound that covers the 32 entries and the 33rd gives the same run (log 25). -/
theorem runEntries_congr {l : Lift} {now : TimeTag} (n m : Nat) (s : State) (i : Nat) (hn : 0 < n) (hm : 0 < m)
    (h : ∀ b, (s.lift l).entriesUsed = some b → 33 ≤ n + b ∧ 33 ≤ m + b) :
    State.runEntries n s l i now = State.runEntries m s l i now := by
  induction n generalizing m s i with
  | zero => exact absurd hn (Nat.lt_irrefl 0)
  | succ n ih =>
    obtain ⟨m, rfl⟩ : ∃ m', m = m' + 1 := ⟨m - 1, by omega⟩
    unfold State.runEntries
    cases he : s.enterOnce l i now with
    | mk u next =>
      cases next with
      | none => rfl
      | some j =>
        obtain ⟨b, hs, hb, hu⟩ := enterOnce_uses he
        have hbound := h b hs
        refine ih m u j (by omega) (by omega) fun b' hb' => ?_
        obtain rfl : b + 1 = b' := Option.some.inj (hu.symm.trans hb')
        omega

theorem entriesFollowOneAnother : EntriesFollowOneAnother := by
  intro s u l i now
  refine ⟨fun h => ?_, fun j h => ?_⟩
  · rw [State.startStep, State.runEntries, h]
  · obtain ⟨b, -, hb, hu⟩ := enterOnce_uses h
    rw [State.startStep, State.runEntries, h]
    refine runEntries_congr _ _ u j (by decide) (by decide) fun b' hb' => ?_
    obtain rfl : b + 1 = b' := Option.some.inj (hu.symm.trans hb')
    exact ⟨by rw [Config.stepBudget]; omega, by rw [Config.stepBudget]; omega⟩

/-! ### The step timer (R95) -/

section
variable {s : State} {l : Lift} {r : RescueRecord} {tm : StepTimer}

theorem expireStep_of_no_timer (now : TimeTag) (h : s.stepTimer l = none) : s.expireStep l now = s := by
  unfold State.expireStep
  rw [h]

theorem stepTimer_eq (h : (s.lift l).rescue = some r) : s.stepTimer l = r.working.timer := by
  simp [State.stepTimer, h]

theorem expireStep_of_running {now : TimeTag} (h : (s.lift l).rescue = some r) (ht : r.working.timer = some tm) :
    s.expireStep l now =
      if tm.ds * 100 ≤ (now - tm.loadedAt).toNat then
        s.endStep l (decide ((s.stepRecord r.bank r.step).action = .pause)) now
      else s := by
  unfold State.expireStep
  rw [stepTimer_eq h, ht, runningStep_eq h]
  exact if_congr decide_eq_true_iff rfl rfl

end

/-- A PAUSE or WAIT that ends, and leads to a PAUSE or WAIT, leaves the lift in that one. -/
theorem endStep_to_waiting {s : State} {l : Lift} {r : RescueRecord} {sr nx : StepRecord} {i : Nat} (ok : Bool)
    (now : TimeTag) (h : (s.lift l).rescue = some r) (hsr : s.stepRecord r.bank r.step = sr) (hb : r.budget < 32)
    (hcreep : r.working.creep = none) (hact : sr.action = .pause ∨ ∃ c, sr.action = .wait c)
    (hi : i = if ok then sr.chainDone else sr.chainFail) (hnx : s.stepRecord r.bank i = nx)
    (hnact : nx.action = .pause ∨ ∃ c, nx.action = .wait c) {timer : StepTimer} {v : State}
    (htimer : timer = { loadedAt := now, ds := if nx.timeout = 0 then 1 else nx.timeout })
    (hv : v = s.setLift l { s.lift l with rescue := some (entering r i (some timer)) }) :
    s.endStep l ok now = if ok && sr.notify then raised v (l.val + 1) 2 else v := by
  obtain ⟨a, ha⟩ : ∃ a, a = s.setLift l { s.lift l with rescue := some { r with working := Working.empty } } := ⟨_, rfl⟩
  obtain ⟨ho, hc⟩ : (∀ k m, sr.action ≠ .order k m) ∧ sr.action ≠ .creep := by
    obtain hact | ⟨c, hact⟩ := hact <;> simp [hact]
  have hclose := closeStep_plain ok h hc fun ⟨k, m, hk⟩ => absurd hk (ho k m)
  rw [← ha] at hclose
  have hlift : a.lift l = { s.lift l with rescue := some { r with working := Working.empty } } := by
    rw [ha]
    exact lift_setLift_same s l _
  have hset : ∀ c, a.setLift l c = s.setLift l c := fun c => by rw [ha, setLift_setLift]
  -- STEP raised or not, the entry is that of `a`
  have henters : ∀ w : State, w.lift l = a.lift l → w.stepRecord r.bank i = nx →
      w.startStep l i now = w.setLift l { a.lift l with rescue := some (entering r i (some timer)) } := by
    intro w hw hrec
    have hwr : (w.lift l).rescue = some { r with working := Working.empty } := by rw [hw, hlift]
    have henter := ((stepsAreEntered w l i now _ nx hwr hrec _ timer (fun _ => rfl) htimer).2 hb).1 hnact
    rw [hw] at henter
    exact (entriesFollowOneAnother w _ l i now).1 henter
  unfold State.endStep
  rw [runningStep_eq h, hsr]
  dsimp only
  rw [leaveStep_entry ok h hcreep, hclose, ← hi]
  have hrec : a.stepRecord r.bank i = nx := by rw [ha]; exact hnx
  have hva : a.setLift l { a.lift l with rescue := some (entering r i (some timer)) } = v := by
    rw [hset, hlift, hv]
  split
  · rw [henters (raised a (l.val + 1) 2) rfl hrec, ← hva]
    rfl
  · rw [henters a rfl hrec, hva]

end Sys2Proof.Machine

open Sys2Proof Sys2Proof.Machine Sys2Proof.Slice0 in
/-- Settles O41: before its time the command only moves the time; at its time the running step ends, and how it ends and
what is entered next is said by the laws above, which also give the one case written out. -/
theorem stepTimerEndsTheStep : Obligations.StepTimerEndsTheStep := by
  refine ⟨fun s t l hd hserved => ?_, stepsEndByTheirRules, waitsCountReports, stepsAreEntered, stepOrdersAreFormed,
    entriesFollowOneAnother⟩
  have hexec : exec (.stepTimerExpiry t l) s = .next (((s.atTime t).expireStep l t).finish t) := rfl
  have hkept : (s.atTime t).finish t = { s with time := t } :=
    finish_of_served (s := s) (u := s.atTime t) t hd hserved rfl rfl
  refine ⟨fun hnone => ?_, fun r tm sr nx hr htm hsr => ?_⟩
  · rw [hexec, expireStep_of_no_timer (s := s.atTime t) t hnone, hkept]
  · have hexpire : (s.atTime t).expireStep l t = if tm.ds * 100 ≤ (t - tm.loadedAt).toNat then
        (s.atTime t).endStep l (decide (sr.action = .pause)) t else s.atTime t := by
      rw [← hsr]
      exact expireStep_of_running (s := s.atTime t) hr htm
    refine ⟨fun hearly => ?_, fun hdue => ?_, fun hdue hb hcreep hact hnx hnact => ?_⟩
    · rw [hexec, hexpire, if_neg (Nat.not_le.mpr hearly), hkept]
    · rw [hexec, hexpire, if_pos hdue]
    · have hend := endStep_to_waiting (s := s.atTime t) (decide (sr.action = .pause)) t hr hsr hb hcreep hact
        (by simp) hnx hnact rfl rfl
      refine ⟨_, _, ?_, rfl, rfl⟩
      rw [hexec, hexpire, if_pos hdue, hend]
      simp only [Bool.and_eq_true, decide_eq_true_eq]
      exact congrArg _ (finish_of_not_due _ t (by split <;> exact hd))
end

section
/-! The agreement of exchange, Scan Engine and ALL STOP (R113, R120, R126, R136, R164, R165): what it is read off, what
keeps that as it is, and how the scan cycle and the RESTART sequence move it. -/

namespace Sys2Proof.Machine

open Slice0

/-! ### What the agreement is read off -/

/-- The part of a state that the ring's coherence is read off. -/
structure RingView where
  restart : RestartPhase
  exchange : Option Exchange
  allStop : List (Lane × List Word)
  running : Bool
  working : Bool
  stopped : Bool

def State.ringView (s : State) : RingView :=
  { restart := s.restart, exchange := s.exchange, allStop := s.allStop, running := s.scan.running,
    working := s.scan.phase.isWorking, stopped := decide (s.scan.phase = .stopped) }

theorem ringCoherent_congr {s u : State} (h : u.ringView = s.ringView) (hs : s.RingCoherent) : u.RingCoherent := by
  simp only [State.ringView, RingView.mk.injEq, decide_eq_decide] at h
  obtain ⟨hrestart, hexchange, hallStop, hrunning, hworking, hstopped⟩ := h
  unfold State.RingCoherent
  rw [hrestart, hexchange, hallStop, hrunning, hworking, hstopped]
  exact hs

/-- The ring may begin an exchange: none is in flight and no RESTART sequence runs (R113, R165). -/
abbrev RingFree (s : State) : Prop :=
  s.ringView.restart = .idle ∧ s.ringView.allStop = [] ∧ s.ringView.exchange = none

/-- A Scan Engine that runs may take a descriptor (R126, R130). -/
abbrev RingTakes (s : State) : Prop := RingFree s ∧ s.ringView.running = true

theorem ringTakes_congr {s u : State} (h : u.ringView = s.ringView) (hs : RingTakes s) : RingTakes u := by
  unfold RingTakes RingFree
  rw [h]
  exact hs

/-- With no exchange in flight the agreement asks of a running engine that no descriptor works. -/
theorem RingTakes.coherent {s : State} (h : RingTakes s) (hp : s.scan.phase.isWorking = false) : s.RingCoherent := by
  obtain ⟨⟨hr : s.restart = .idle, ha : s.allStop = [], hx : s.exchange = none⟩, hrun : s.scan.running = true⟩ := h
  simp [State.RingCoherent, hr, ha, hx, hrun, hp]

/-- An exchange begun for a descriptor (R113, R130). -/
theorem RingTakes.begun {s : State} (h : RingTakes s) (asked : Lane) (f : Frame) (k : ReplyKind) (start : TimeTag)
    (gap : Nat) (job : Job) : ((s.beginExchange asked f k).setPhase (.working start gap job)).RingCoherent := by
  obtain ⟨⟨hr : s.restart = .idle, ha : s.allStop = [], -⟩, hrun : s.scan.running = true⟩ := h
  simp [State.RingCoherent, State.beginExchange, State.setPhase, ScanPhase.isWorking, hr, ha, hrun]

/-- In agreement, an engine in the gap of a descriptor or between two cycles may take the next descriptor. -/
theorem ringTakes_of_coherent {s : State} (h : s.RingCoherent) (hp : s.scan.phase ≠ .stopped)
    (hw : s.scan.phase.isWorking = false) : RingTakes s := by
  obtain ⟨hidle, hrestart, -, -, hrunning, hallStop⟩ := h
  have hr : s.restart = .idle := by
    by_contra hr
    exact hp (hrestart hr)
  have hx : s.exchange = none := by simpa [hw] using hidle hr
  have hrun : s.scan.running = true := by
    by_contra hrun
    exact hp (hrunning (by simpa using hrun))
  have ha : s.allStop = [] := by simpa [hr] using hallStop
  exact ⟨⟨hr, ha, hx⟩, hrun⟩

/-- In agreement, outside a RESTART sequence an engine that does not run leaves the ring free. -/
theorem ringFree_of_not_running {s : State} (h : s.RingCoherent) (hr : s.restart = .idle)
    (hrun : s.scan.running = false) : RingFree s := by
  obtain ⟨hidle, -, -, -, hrunning, hallStop⟩ := h
  have hx : s.exchange = none := by simpa [hrunning hrun, ScanPhase.isWorking] using hidle hr
  have ha : s.allStop = [] := by simpa [hr] using hallStop
  exact ⟨hr, ha, hx⟩

/-! ### What leaves it as it is -/

/-- The rescue machinery does. -/
theorem RescueFrame.ringView {s u : State} (h : RescueFrame s u) : u.ringView = s.ringView := by
  unfold State.ringView
  rw [h.restart, h.exchange, h.allStop, h.scan]

@[simp] theorem transmit_ringView (s : State) : s.transmit.ringView = s.ringView := by
  rw [transmit_link_only s]
  rfl

@[simp] theorem settle_ringView (s : State) (now : TimeTag) : (s.settle now).ringView = s.ringView :=
  (settle_rescueFrame s now).ringView

@[simp] theorem finish_ringView (s : State) (now : TimeTag) : (s.finish now).ringView = s.ringView := by
  simp [State.finish]

@[simp] theorem evaluateAdmission_ringView (s : State) (now : TimeTag) :
    (s.evaluateAdmission now).ringView = s.ringView := (evaluateAdmission_rescueFrame s now).1.ringView

@[simp] theorem setSlot_ringView (s : State) (l : Lift) (o : Option Order) : (s.setSlot l o).ringView = s.ringView := rfl

@[simp] theorem deliver_ringView (s : State) (l : Lift) (p : Poster) (ok : Bool) (now : TimeTag) :
    (s.deliver l p ok now).ringView = s.ringView := (deliver_rescueFrame s l p ok now).ringView

@[simp] theorem commandReply_ringView (s : State) (f : Frame) : (s.commandReply f).ringView = s.ringView := by
  rcases commandReply_cases s f with ⟨-, e⟩ | ⟨-, e⟩ <;> rw [e]
  rfl

@[simp] theorem makeReply_ringView (s : State) (d : BitVec 6) (st : CommandStatus) :
    (s.makeReply d st).ringView = s.ringView := commandReply_ringView s _

@[simp] theorem takeRemote_ringView (s : State) (c : RemoteCommand) : (s.takeRemote c).ringView = s.ringView := by
  rcases takeRemote_cases s c with ⟨-, e⟩ | ⟨-, e⟩ | ⟨-, e⟩ | ⟨-, e⟩ <;> rw [e]
  · exact makeReply_ringView s _ _
  · exact makeReply_ringView s _ _
  · exact makeReply_ringView s _ _
  · rfl

theorem markSent_ringView (s : State) (l : Lift) (o : Order) : (s.markSent l o).ringView = s.ringView := by
  unfold State.markSent
  dsimp only
  split <;> split <;> rfl

theorem rejudge_ringView (q : List RemoteCommand) (s : State) : (s.rejudge q).1.ringView = s.ringView := by
  induction q generalizing s with
  | nil => rfl
  | cons c cs ih =>
    unfold State.rejudge
    split
    · rw [ih, makeReply_ringView]
    · rfl

theorem offerCopy_ringView (s : State) (l : Lift) (p : List Word) (r : Report) :
    (s.offerCopy l p r).ringView = s.ringView := by
  unfold State.offerCopy
  split
  · rfl
  · split
    · rfl
    · split <;> rfl

@[simp] theorem takeReport_ringView (s : State) (l : Lift) (src : Nat) (p : List Word) (r : Report) (now : TimeTag) :
    (s.takeReport l src p r now).ringView = s.ringView := by
  rw [(takeReport_rescueFrame s l src p r now).ringView]
  split
  · rfl
  · rw [transmit_ringView, offerCopy_ringView]

@[simp] theorem takePower_ringView (s : State) (p : List Word) (now : TimeTag) :
    (s.takePower p now).ringView = s.ringView := by
  unfold State.takePower
  dsimp only
  split <;> rfl

@[simp] theorem takeHazard_ringView (s : State) (p : List Word) (now : TimeTag) :
    (s.takeHazard p now).ringView = s.ringView := (takeHazard_rescueFrame s p now).ringView

theorem useSend_ringView (s : State) (l : Lift) (o : Order) (now : TimeTag) :
    (s.useSend l o now).ringView = s.ringView := by
  unfold State.useSend
  split <;> simp

@[simp] theorem orderOutcome_ringView (s : State) (l : Lift) (tag : BitVec 4) (out : EchoOutcome) (now : TimeTag) :
    (s.orderOutcome l tag out now).ringView = s.ringView := by
  unfold State.orderOutcome
  split
  · split
    · cases out with
      | echo t refused =>
        dsimp only
        split
        · simp
        · exact useSend_ringView s l _ now
      | silent => exact useSend_ringView s l _ now
    · rfl
  · rfl

theorem liftReply_ringView (s : State) (d : Descriptor) (r : Reply) (now : TimeTag) :
    (s.liftReply d r now).1.ringView = s.ringView := by
  unfold State.liftReply
  split
  · dsimp only
    split
    · rfl
    · simp
  · rfl

/-- What a valid reply is handed to. -/
theorem jobReply_ringView (s : State) (job : Job) (r : Reply) (now : TimeTag) :
    (s.jobReply job r now).1.ringView = s.ringView := by
  unfold State.jobReply
  cases job with
  | poll d asked left =>
    dsimp only
    split
    · rw [settle_ringView]
      split <;> simp
    · rw [settle_ringView]
      split <;> simp
    · exact liftReply_ringView s d r now
  | confirm d first =>
    dsimp only
    split <;> simp
  | abandoned => rfl
  | order l tag => simp
  | command node => simp

theorem pollMissed_ringView (s : State) (d : Descriptor) (asked : Lane) (left : Nat) (now : TimeTag) :
    (s.pollMissed d asked left now).1.ringView = s.ringView := by
  unfold State.pollMissed
  split
  · rfl
  · cases left with
    | succ n => rfl
    | zero =>
      dsimp only
      split
      · rw [settle_ringView]
        exact (unansweredPoll_rescueFrame s _ now).ringView
      · rfl

/-- What an exchange without a valid reply is handed to. -/
theorem jobMissed_ringView (s : State) (job : Job) (now : TimeTag) : (s.jobMissed job now).1.ringView = s.ringView := by
  unfold State.jobMissed
  cases job with
  | poll d asked left => exact pollMissed_ringView s d asked left now
  | confirm d first =>
    dsimp only
    split <;> simp
  | abandoned => rfl
  | order l tag => simp
  | command node => simp

theorem expirePower_ringView (s : State) (now : TimeTag) : (s.expirePower now).ringView = s.ringView := by
  unfold State.expirePower
  split <;> rfl

theorem expireSilence_ringView (s : State) (now : TimeTag) : (s.expireSilence now).ringView = s.ringView := by
  unfold State.expireSilence
  split <;> rfl

/-! ### Descriptors and cycles (R129, R130, R135) -/

/-- What taking descriptors leaves: an engine that may take the next, or a descriptor that holds the cycle. -/
def TakesOn : State × Bool → Prop
  | (u, true) => RingTakes u
  | (u, false) => u.RingCoherent

theorem takeSlot_takesOn {s : State} (d : Descriptor) (now : TimeTag) (h : RingTakes s) : TakesOn (s.takeSlot d now) := by
  unfold State.takeSlot
  split
  · split
    · exact (ringTakes_congr (markSent_ringView s _ _) h).begun _ _ _ _ _ _
    · exact h
  · have hq := rejudge_ringView s.orders.passQueue s
    split
    next e =>
      rw [e] at hq
      exact ringTakes_congr hq h
    next e =>
      rw [e] at hq
      exact (ringTakes_congr hq h).begun _ _ _ _ _ _

theorem takeDescriptor_takesOn {s : State} (d : Descriptor) (now : TimeTag) (h : RingTakes s) :
    TakesOn (s.takeDescriptor d now) := by
  unfold State.takeDescriptor
  cases d.kind with
  | pause =>
    dsimp only
    split
    · exact h
    · exact RingTakes.coherent (s := s.setPhase _) h rfl
  | pollLift =>
    dsimp only
    split
    · exact h
    · exact h.begun _ _ _ _ _ _
  | pollPower => exact h.begun _ _ _ _ _ _
  | pollHazard => exact h.begun _ _ _ _ _ _
  | orderSlot => exact takeSlot_takesOn d now h

theorem takeFrom_takesOn (ds : List Descriptor) {s : State} (i : Nat) (now : TimeTag) (h : RingTakes s) :
    TakesOn (s.takeFrom ds i now) := by
  induction ds generalizing s i with
  | nil => exact h
  | cons d ds ih =>
    have ht := takeDescriptor_takesOn (s := { s with scan := { s.scan with current := some i } }) d now h
    unfold State.takeFrom
    split
    next e =>
      rw [e] at ht
      exact ih _ ht
    next e =>
      rw [e] at ht
      exact ht

/-- A cycle end leaves the engine waiting, with all else of the view as it was (R135). -/
theorem endCycle_ringView (s : State) (now : TimeTag) :
    (s.endCycle now).ringView = { s.ringView with working := false, stopped := false } := by
  unfold State.endCycle
  dsimp only
  split <;> split <;> rfl

theorem endCycle_takes {s : State} (now : TimeTag) (h : RingTakes s) : RingTakes (s.endCycle now) := by
  unfold RingTakes RingFree
  rw [endCycle_ringView]
  exact h

theorem endCycle_coherent {s : State} (now : TimeTag) (h : RingTakes s) : (s.endCycle now).RingCoherent :=
  (endCycle_takes now h).coherent (congrArg RingView.working (endCycle_ringView s now))

/-- A cycle start sets the engine running before it takes descriptor 0 (R129). -/
theorem openCycle_ringView (s : State) (now : TimeTag) :
    (s.openCycle now).ringView = { s.ringView with running := true } := by
  unfold State.openCycle
  extract_lets e a
  have hrenew : ∀ (u : State) (l : Lift), RescueFrame u (if u.inCreep l then u.renewCreep l now else u) := fun u l => by
    split
    · exact renewCreep_rescueFrame u l now
    · exact .refl u
  exact (settle_ringView _ now).trans (foldl_rescueFrame _ hrenew allLifts a.setProbes).ringView

theorem startCycle_coherent {s : State} (now : TimeTag) (h : RingFree s) : (s.startCycle now).RingCoherent := by
  have ho : RingTakes (s.openCycle now) := by
    unfold RingTakes RingFree
    rw [openCycle_ringView]
    exact ⟨h, rfl⟩
  unfold State.startCycle
  generalize s.openCycle now = a at ho ⊢
  have ht := takeFrom_takesOn (a.scan.bank a.scan.active).descriptors 0 now ho
  dsimp only
  split
  next e =>
    rw [e] at ht
    exact endCycle_coherent now ht
  next e =>
    rw [e] at ht
    exact ht

theorem advance_coherent {s : State} (i : Nat) (now : TimeTag) (h : RingTakes s) : (s.advance i now).RingCoherent := by
  have ht := takeFrom_takesOn ((s.scan.bank s.scan.active).descriptors.drop i) i now h
  unfold State.advance
  split
  next e =>
    rw [e] at ht
    dsimp only
    split
    · exact startCycle_coherent now (endCycle_takes now ht).1
    · exact endCycle_coherent now ht
  next e =>
    rw [e] at ht
    exact ht

theorem endWork_coherent {s : State} (start : TimeTag) (gap : Nat) (now : TimeTag) (h : RingTakes s) :
    (s.endWork start gap now).RingCoherent := by
  unfold State.endWork
  split
  · exact advance_coherent _ now h
  · exact RingTakes.coherent (s := s.setPhase _) h rfl

theorem goOn_coherent {s : State} (g : GoingOn) (start : TimeTag) (gap : Nat) (now : TimeTag) (h : RingTakes s) :
    (s.goOn g start gap now).RingCoherent := by
  cases g with
  | ended => exact endWork_coherent start gap now h
  | retry d asked n => exact h.begun _ _ _ _ _ _
  | confirm d first lane => exact h.begun _ _ _ _ _ _

theorem expireGap_ringCoherent {s : State} (now : TimeTag) (h : s.RingCoherent) : (s.expireGap now).RingCoherent := by
  unfold State.expireGap
  split
  next hp =>
    split
    · exact advance_coherent _ now (ringTakes_of_coherent h (by simp [hp]) (by simp [hp, ScanPhase.isWorking]))
    · exact h
  · exact h

theorem expireCycle_ringCoherent {s : State} (now : TimeTag) (h : s.RingCoherent) :
    (s.expireCycle now).RingCoherent := by
  unfold State.expireCycle
  split
  next hp =>
    split
    · exact startCycle_coherent now (ringTakes_of_coherent h (by simp [hp]) (by simp [hp, ScanPhase.isWorking])).1
    · exact h
  · exact h

/-! ### The exchange in flight (R113, R136) -/

theorem sendEnd_ringCoherent {s : State} (now : TimeTag) (h : s.RingCoherent) : (s.sendEnd now).RingCoherent := by
  unfold State.sendEnd
  split
  next x hx =>
    split
    · exact h
    · simpa [State.RingCoherent, hx] using h
  · exact h

/-- The end of an exchange takes the exchange out of flight and nothing else of the view. -/
theorem closeExchange_ringView (s : State) (x : Exchange) (valid : Bool) :
    (s.closeExchange x valid).ringView = { s.ringView with exchange := none } := by
  obtain ⟨a, b, ns, e⟩ := closeExchange_eq s x valid
  rw [e]
  rfl

/-- An exchange that ends during a RESTART sequence makes way for ALL STOP; otherwise the engine goes on (R136). -/
theorem endExchange_ringCoherent {s : State} {x : Exchange} (valid : Bool) {k : State → Job → State × GoingOn}
    (now : TimeTag) (hk : ∀ job, (k s job).1.ringView = s.ringView) (hx : s.exchange = some x) (h : s.RingCoherent) :
    (s.endExchange x valid k now).RingCoherent := by
  obtain ⟨hidle, hrestart, -, hstop, hrunning, hallStop⟩ := h
  unfold State.endExchange
  split
  next hq =>
    obtain ⟨a, b, ns, e⟩ := closeExchange_eq s x valid
    have hp : s.scan.phase = .stopped := hrestart (by simp [hq])
    rw [e]
    simp [State.RingCoherent, State.sendAllStop, hp]
  next hq =>
    have hr : s.restart = .idle := by
      cases hr : s.restart with
      | idle => rfl
      | quieting => exact absurd hr hq
      | allStop => simp [hstop hr] at hx
    have hw : s.scan.phase.isWorking = true := by simpa [hx] using (hidle hr).symm
    have hrun : s.scan.running = true := by
      by_contra hrun
      simp [hrunning (by simpa using hrun), ScanPhase.isWorking] at hw
    have ha : s.allStop = [] := by simpa [hr] using hallStop
    split
    next start gap job _ =>
      refine goOn_coherent _ start gap now ?_
      unfold RingTakes RingFree
      rw [closeExchange_ringView, hk]
      exact ⟨⟨hr, ha, rfl⟩, hrun⟩
    next hnot =>
      cases hp : s.scan.phase with
      | working start gap job => exact absurd hp (hnot start gap job)
      | _ => simp [hp, ScanPhase.isWorking] at hw

theorem ringFrame_ringCoherent {s : State} (kind : ReplyKind) (r : Reply) (now : TimeTag) (h : s.RingCoherent) :
    (s.ringFrame kind r now).RingCoherent := by
  unfold State.ringFrame
  split
  next hx =>
    split
    · exact endExchange_ringCoherent true now (fun job => jobReply_ringView s job r now) hx h
    · exact h
  · exact h

theorem closeWindow_ringCoherent {s : State} (now : TimeTag) (h : s.RingCoherent) : (s.closeWindow now).RingCoherent := by
  unfold State.closeWindow
  split
  next hx =>
    split
    · exact endExchange_ringCoherent false now (fun job => jobMissed_ringView s job now) hx h
    · exact h
  · exact h

/-! ### Writes, swaps and lift control -/

/-- A poll abandoned stays the descriptor's work (log 41). -/
theorem abandonPoll_ringView (s : State) (l : Lift) : (s.abandonPoll l).ringView = s.ringView := by
  unfold State.abandonPoll State.ringView
  dsimp only
  rcases abandon_cases s.scan.phase l with e | ⟨start, gap, job, hp, e⟩
  · rw [e]
  · rw [e, hp]
    rfl

theorem storeLift_ringView (s : State) (l : Lift) (e : LiftEntry) : (s.storeLift l e).ringView = s.ringView := by
  by_cases h : (s.lift l).state = .excluded <;> cases he : e.inService
  · rw [storeLift_stays_out s l e h he]; rfl
  · rw [storeLift_enters s l e h he]; rfl
  · rw [storeLift_leaves s l e h he, abandonPoll_ringView]; rfl
  · rw [storeLift_stays_in s l e h he, rewrite_eq]; split <;> rfl

theorem writeLift_ringView (s : State) (i : Nat) (ws : List Word) : (s.writeLift i ws).1.ringView = s.ringView := by
  unfold State.writeLift
  split
  · rfl
  · split
    · rfl
    · split
      · rfl
      · exact storeLift_ringView s _ _

theorem writeLandings_ringView (s : State) (i : Nat) (ws : List Word) :
    (s.writeLandings i ws).1.ringView = s.ringView := by
  unfold State.writeLandings
  split
  · rfl
  · split
    · rfl
    · split
      · rfl
      · unfold State.storeLandings
        dsimp only
        split <;> rfl

theorem writeFaultClass_ringView (s : State) (i : Nat) (ws : List Word) :
    (s.writeFaultClass i ws).1.ringView = s.ringView := by
  unfold State.writeFaultClass
  split
  · split <;> rfl
  · rfl

theorem setInactive_ringView (s : State) (b : ScanBank) : (s.setInactive b).ringView = s.ringView := by
  unfold State.setInactive
  cases s.scan.active <;> rfl

theorem writeScan_ringView (s : State) (i : Nat) (ws : List Word) : (s.writeScan i ws).1.ringView = s.ringView := by
  unfold State.writeScan
  dsimp only
  split
  · rfl
  · split
    · rfl
    · split
      · split
        · rfl
        · exact setInactive_ringView s _
      · split
        · rfl
        · split
          · rfl
          · exact setInactive_ringView s _

theorem writeRecipe_ringView (s : State) (i : Nat) (ws : List Word) :
    (s.writeRecipe i ws).1.ringView = s.ringView := by
  unfold State.writeRecipe
  split
  · rfl
  · split
    · rfl
    · split <;> rfl

theorem paramStored_ringCoherent {s : State} (n old new : Nat) (now : TimeTag) (h : s.RingCoherent) :
    (s.paramStored n old new now).RingCoherent := by
  unfold State.paramStored
  extract_lets a b c d
  have ha : a.ringView = s.ringView := by
    unfold a State.floorWritten
    split
    · split <;> rfl
    · rfl
  have hb : b.ringView = a.ringView := by
    unfold b
    split
    · exact expirePower_ringView a now
    · rfl
  have hc : c.ringView = b.ringView := by
    unfold c
    split
    · exact expireSilence_ringView b now
    · rfl
  have hd : d.RingCoherent :=
    ringCoherent_congr ((evaluateAdmission_ringView c now).trans (hc.trans (hb.trans ha))) h
  split
  · exact expireCycle_ringCoherent now hd
  · exact hd

theorem writeEntry_ringCoherent {s : State} (tb : Table) (i : Nat) (ws : List Word) (now : TimeTag)
    (h : s.RingCoherent) : (s.writeEntry tb i ws now).1.RingCoherent := by
  cases tb with
  | lift => exact ringCoherent_congr (writeLift_ringView s i ws) h
  | landings => exact ringCoherent_congr (writeLandings_ringView s i ws) h
  | faultClass => exact ringCoherent_congr (writeFaultClass_ringView s i ws) h
  | scan => exact ringCoherent_congr (writeScan_ringView s i ws) h
  | recipe => exact ringCoherent_congr (writeRecipe_ringView s i ws) h
  | parameters =>
    show (s.writeParameter i ws now).1.RingCoherent
    unfold State.writeParameter
    split
    · exact h
    · exact h
    · split
      · exact h
      · exact paramStored_ringCoherent _ _ _ now (ringCoherent_congr (s := s) rfl h)

/-- A swap starts a cycle where the engine does not run (R128). -/
theorem takeScanSwap_ringCoherent {s : State} (now : TimeTag) (hr : s.restart = .idle) (h : s.RingCoherent) :
    (s.takeScanSwap now).RingCoherent := by
  unfold State.takeScanSwap
  split
  next hrun =>
    have hfree : RingFree s := ringFree_of_not_running h hr (by simpa using hrun)
    exact startCycle_coherent now (s := s.swapScan) hfree
  · split
    · exact ringCoherent_congr (s := s) (u := s.swapScan) rfl h
    · exact ringCoherent_congr (s := s) rfl h

theorem requestSwap_ringCoherent {s : State} (sel : Nat) (now : TimeTag) (hr : s.restart = .idle) (h : s.RingCoherent) :
    (s.requestSwap sel now).1.RingCoherent := by
  have hrecipe : s.swapRecipe.RingCoherent := ringCoherent_congr (s := s) rfl h
  unfold State.requestSwap
  split
  · unfold State.requestSwapScan
    split
    · exact h
    · exact takeScanSwap_ringCoherent now hr h
  · exact hrecipe
  · unfold State.requestSwapBoth
    split
    · exact h
    · exact takeScanSwap_ringCoherent (s := s.swapRecipe) now hr hrecipe
  · exact h

theorem act_rescueFrame (s : State) (l : Lift) (a : Action) (now : TimeTag) : RescueFrame s (s.act l a now) := by
  cases a with
  | hold =>
    have h : RescueFrame s (s.modLift l fun c => { c with hold := true }) := modLift_rescueFrame s l _ ⟨rfl, rfl⟩
    unfold State.act State.holdLift
    dsimp only
    split
    · exact (h.trans (leaveQueue_rescueFrame _ l)).trans (enterStalled_rescueFrame _ l now)
    · exact h
  | release =>
    have h : RescueFrame s (s.modLift l fun c => { c with hold := false }) := modLift_rescueFrame s l _ ⟨rfl, rfl⟩
    unfold State.act State.releaseLift
    dsimp only
    split
    · exact h.trans (evaluateStalled_rescueFrame _ l now)
    · exact h
  | abort => exact abortExecution_rescueFrame s l now
  | forceManual => exact enterManual_rescueFrame s l _
  | clear => exact enterNormal_rescueFrame s l

theorem control_ringView (s : State) (n : Nat) (a : Action) (now : TimeTag) :
    (s.control n a now).1.ringView = s.ringView := by
  unfold State.control
  split
  · rfl
  · split
    · exact (act_rescueFrame s _ a now).ringView
    · rfl

theorem liftControl_ringView (s : State) (n : Nat) (later : List Word) (now : TimeTag) :
    (s.liftControl n later now).1.ringView = s.ringView := by
  unfold State.liftControl
  split
  · rfl
  · split
    · exact control_ringView s n _ now
    · split <;> rfl

theorem extendStep_ringView (s : State) (n : Nat) (later : List Word) :
    (s.extendStep n later).1.ringView = s.ringView := by
  unfold State.extendStep
  split
  · rfl
  · split
    · rfl
    · split
      · exact (modCreep_rescueFrame s _ _).ringView
      · rfl

/-! ### The RESTART sequence (R120, R136, R164) -/

/-- A RESTART taken stops the engine, and ALL STOP goes out or waits for the exchange in flight. -/
theorem beginRestart_ringCoherent {s : State} (hr : s.restart = .idle) (h : s.RingCoherent) :
    s.beginRestart.RingCoherent := by
  obtain ⟨-, -, -, -, -, hallStop⟩ := h
  rw [if_neg (by simp [hr])] at hallStop
  unfold State.beginRestart
  dsimp only
  split
  next hx => simpa [State.RingCoherent, State.setPhase, hallStop] using hx
  next hx => simpa [State.RingCoherent, State.setPhase, State.sendAllStop] using hx

/-- The end of the sequence starts a cycle on a free ring, or leaves the engine stopped. -/
theorem endAllStop_ringCoherent {s : State} (now : TimeTag) (h : s.RingCoherent) : (s.endAllStop now).RingCoherent := by
  unfold State.endAllStop
  split
  · cases hv : (s.restartClear.scan.bank s.restartClear.scan.active).valid
    · rw [restartCycle_of_invalid _ now hv]
      exact ⟨fun _ => rfl, fun _ => rfl, nofun, nofun, fun _ => rfl, rfl⟩
    · rw [restartCycle_of_valid _ now hv]
      exact startCycle_coherent now ⟨rfl, rfl, rfl⟩
  · exact h

/-! ### Whole commands -/

theorem serve_ringCoherent {s : State} (r : Request) (held : Option Prefix) (now : TimeTag) (hr : s.restart = .idle)
    (h : s.RingCoherent) : (s.serve r held now).1.RingCoherent := by
  unfold State.serve
  cases r with
  | identify => exact h
  | storePrefix tb i ws =>
    dsimp only
    unfold State.takePrefix
    split
    · exact h
    · exact ringCoherent_congr (s := s) rfl h
  | write tb i ws => exact writeEntry_ringCoherent tb _ _ now h
  | read tb i later => dsimp only; rwa [readEntry_state]
  | swap sel => exact requestSwap_ringCoherent _ now hr h
  | readContext l later => dsimp only; rwa [readContext_state]
  | liftControl l later => exact ringCoherent_congr (liftControl_ringView s _ later now) h
  | control l a => exact ringCoherent_congr (control_ringView s _ a now) h
  | extendStep l later => exact ringCoherent_congr (extendStep_ringView s _ later) h
  | restart => exact beginRestart_ringCoherent hr h
  | unknown c => exact h
  | empty => exact h

theorem agentTakes_ringCoherent {s : State} (r : Request) (now : TimeTag) (h : s.RingCoherent) :
    (s.agentTakes r now).RingCoherent := by
  rcases agentTakes_cases s r now with ⟨-, e⟩ | ⟨hr, e⟩ <;> rw [e]
  · exact ringCoherent_congr (s := s) rfl h
  · exact ringCoherent_congr (s := ((s.consume r).serve r s.prefixHeld now).1) rfl
      (serve_ringCoherent (s := s.consume r) r _ now hr h)

/-- The frame of every command: the time, what it does, the evaluation owed and the transmitter. -/
theorem command_ringCoherent {u : State} (t : TimeTag) (h : u.RingCoherent) : (u.finish t).RingCoherent :=
  ringCoherent_congr (finish_ringView u t) h

theorem arrive_ringCoherent {s : State} (t : TimeTag) (h : s.RingCoherent) : ((s.atTime t).arrive t).RingCoherent :=
  ringCoherent_congr (s := s) rfl h

theorem takeRequest_ringCoherent {s : State} (r : Request) (n : Nat) (t : TimeTag) (h : s.RingCoherent) :
    (s.takeRequest r n t).RingCoherent := by
  have ha := arrive_ringCoherent t h
  rcases takeRequest_cases s r n t with ⟨-, e⟩ | ⟨-, -, e⟩ | ⟨-, -, e⟩ <;> rw [e]
  · exact ringCoherent_congr (s := s) rfl h
  · exact command_ringCoherent t ha
  · exact command_ringCoherent t (agentTakes_ringCoherent r t ha)

theorem requestArrives_ringCoherent {s : State} (d : BitVec 6) (p : List Word) (t : TimeTag) (h : s.RingCoherent) :
    (s.requestArrives d p t).RingCoherent := by
  unfold State.requestArrives
  split
  · exact takeRequest_ringCoherent _ _ t h
  · split
    · exact ringCoherent_congr (s := s) rfl h
    · exact command_ringCoherent t (arrive_ringCoherent t h)

theorem remoteArrives_ringCoherent {s : State} (c : RemoteCommand) (t : TimeTag) (h : s.RingCoherent) :
    (s.remoteArrives c t).RingCoherent := by
  unfold State.remoteArrives
  split
  · exact ringCoherent_congr (s := s) rfl h
  · exact command_ringCoherent t (ringCoherent_congr (takeRemote_ringView _ c) (arrive_ringCoherent t h))

theorem routeKind_ringCoherent {s : State} (f : Frame) (now : TimeTag) (h : s.RingCoherent) :
    (s.routeKind f now).RingCoherent := by
  unfold State.routeKind
  split
  · split
    · unfold State.routeRequest
      split
      · exact h
      · exact agentTakes_ringCoherent _ now h
    · exact h
  · split
    · exact ringCoherent_congr (takeRemote_ringView s _) h
    · exact h

theorem linkWords_ringCoherent {s : State} (ws : List Word) (whole : Bool) (t : TimeTag) (h : s.RingCoherent) :
    (s.linkWords ws whole t).RingCoherent := by
  unfold State.linkWords
  split
  · exact command_ringCoherent t (routeKind_ringCoherent _ t (arrive_ringCoherent t h))
  · exact ringCoherent_congr (s := s) rfl h

theorem replyArrives_ringCoherent {s : State} (kind : ReplyKind) (r : Reply) (t : TimeTag) (h : s.RingCoherent) :
    (s.replyArrives kind r t).RingCoherent := command_ringCoherent t (ringFrame_ringCoherent (s := s.atTime t) kind r t h)

theorem ringWords_ringCoherent {s : State} (lane : Lane) (ws : List Word) (whole : Bool) (t : TimeTag)
    (h : s.RingCoherent) : (s.ringWords lane ws whole t).RingCoherent := by
  unfold State.ringWords
  split
  · split
    · exact replyArrives_ringCoherent _ _ t h
    · exact ringCoherent_congr (s := s) rfl h
  · exact ringCoherent_congr (s := s) rfl h

theorem exec_ringCoherent {c : Instr} {s u : State} (h : s.RingCoherent) (he : exec c s = .next u) : u.RingCoherent := by
  have ht : ∀ t, (s.atTime t).RingCoherent := fun t => ringCoherent_congr (s := s) rfl h
  cases c
  case powerOnReset => cases he; exact ⟨fun _ => rfl, fun _ => rfl, nofun, nofun, fun _ => rfl, rfl⟩
  case allStopSendEnd t => cases he; exact command_ringCoherent t (endAllStop_ringCoherent t (ht t))
  case managementRequestDiscard t d p => cases he; exact requestArrives_ringCoherent d p t h
  case linkFrameDiscard t ws b => cases he; exact linkWords_ringCoherent ws b t h
  case remoteCommand t d p => cases he; exact remoteArrives_ringCoherent _ t h
  case exchangeSendEnd t => cases he; exact command_ringCoherent t (sendEnd_ringCoherent t (ht t))
  case statusReport t r => cases he; exact replyArrives_ringCoherent _ r t h
  case powerReport t r => cases he; exact replyArrives_ringCoherent _ r t h
  case hazardReport t r => cases he; exact replyArrives_ringCoherent _ r t h
  case orderEcho t r => cases he; exact replyArrives_ringCoherent _ r t h
  case commandReply t r => cases he; exact replyArrives_ringCoherent _ r t h
  case replyWindowClose t => cases he; exact command_ringCoherent t (closeWindow_ringCoherent t (ht t))
  case ringFrameDiscard t lane ws b => cases he; exact ringWords_ringCoherent lane ws b t h
  case descriptorGapExpiry t => cases he; exact command_ringCoherent t (expireGap_ringCoherent t (ht t))
  case cycleStart t => cases he; exact command_ringCoherent t (expireCycle_ringCoherent t (ht t))
  case stepTimerExpiry t l =>
    cases he
    exact command_ringCoherent t (ringCoherent_congr (expireStep_rescueFrame _ l t).ringView (ht t))
  case powerStaleExpiry t => cases he; exact command_ringCoherent t (ringCoherent_congr (expirePower_ringView _ t) (ht t))
  case silenceExpiry t => cases he; exact command_ringCoherent t (ringCoherent_congr (expireSilence_ringView _ t) (ht t))
  case transmitEnd t => cases he; exact command_ringCoherent t (ringCoherent_congr (s := s) rfl h)
  all_goals cases he; exact takeRequest_ringCoherent _ _ _ h

end Sys2Proof.Machine

open Sys2Proof Sys2Proof.Machine in
/-- Settles O57: a command moves the agreement only where a descriptor is taken, an exchange ends or a RESTART sequence
moves on, and keeps it there. -/
theorem stepKeepsTheRingCoherent : Obligations.StepKeepsTheRingCoherent := by
  intro s t h he
  unfold step at he
  split at he
  · cases he
    exact h
  next c cs _ => exact exec_ringCoherent (ringCoherent_congr (s := s) (u := { s with pending := cs }) rfl h) he
end

section
/-! READ_ENTRY and READ_CONTEXT (R160, R163): the words of an entry and of each part of a lift context, and the reads that
answer them. -/

namespace Sys2Proof.Machine

open Slice0

/-! ### Entries (R159, R160) -/

theorem liftOfNumber_isSome_iff (n : Nat) : (liftOfNumber n).isSome ↔ 1 ≤ n ∧ n ≤ 24 := by
  unfold liftOfNumber
  split
  next h => simp [h]
  next h => simp [h]

/-- A place of a table of `n` entries, read by its index. -/
theorem toList_getElem_of_lt {α : Type} {n : Nat} (v : Vector α n) {i : Nat} (h : i < n) :
    v.toList[i]? = some (v.get ⟨i, h⟩) := by
  rw [List.getElem?_eq_getElem (by simpa using h)]
  rfl

theorem scanEntryWords_of_lt (b : ScanBank) {i : Nat} (h : i < 64) :
    b.entryWords i = some (b.places.get ⟨i, h⟩).words := by
  rw [ScanBank.entryWords, if_neg (by omega), toList_getElem_of_lt _ h]
  rfl

theorem scanEntryWords_isSome_iff (b : ScanBank) (i : Nat) : (b.entryWords i).isSome ↔ i ≤ 64 := by
  rcases Nat.lt_trichotomy i 64 with h | rfl | h
  · rw [scanEntryWords_of_lt b h]
    simp [h.le]
  · simp [ScanBank.entryWords]
  · rw [ScanBank.entryWords, if_neg (by omega), List.getElem?_eq_none (by simpa using h.le)]
    simpa using h

theorem entriesAreRead : EntriesAreRead := by
  intro s i b
  have hparams : s.params.values.length = 19 := rfl
  have hrecipe : s.recipes.bank (if b then .bank1 else .bank0) = if b then s.recipes.bank1 else s.recipes.bank0 := by
    cases b <;> rfl
  refine ⟨?_, ?_, ?_, scanEntryWords_isSome_iff _ i, ?_, ?_, fun l hl => ⟨?_, ?_⟩,
    fun h => ⟨?_, scanEntryWords_of_lt _ h⟩, rfl, fun h => ?_, fun v hv => ?_⟩
  · simp [State.entryWords, liftOfNumber_isSome_iff]
  · simp [State.entryWords, liftOfNumber_isSome_iff]
  · simp [State.entryWords, Nat.lt_succ_iff]
  · simp [State.entryWords, Nat.lt_succ_iff]
  · simp [State.entryWords, hparams, Nat.lt_succ_iff]
  · simp [State.entryWords, hl]
  · simp [State.entryWords, hl]
  · rw [State.entryWords, toList_getElem_of_lt _ h]
    rfl
  · rw [State.entryWords, hrecipe, toList_getElem_of_lt _ h]
    rfl
  · rw [State.entryWords, hv]
    rfl

/-! ### Parts of a lift context (R163) -/

section
variable (s : State) (l : Lift) (now : TimeTag)

theorem contextPart1_eq {rest : List Word}
    (hrest : rest = [wordOf (s.lift l).pos.anchorHeight] ++ twoWords (BitVec.ofInt 32 (s.lift l).pos.offset)
      ++ [wordOf ((s.lift l).pos.lastCount.getD 0)]) :
    ((s.lift l).lastReport = none → s.contextWords l 1 now = [0, 0, 15, 0, 0, 0, 0] ++ rest)
    ∧ ∀ r, (s.lift l).lastReport = some r → s.contextWords l 1 now =
        encodeReport r.report ++ twoWords r.arrival
          ++ [wordOf (bit r.verdict.trapping + r.verdict.cls.code * 2 + bit r.verdict.immediate * 8)] ++ rest := by
  subst hrest
  show (_ → contextPart1 (s.lift l) = _) ∧ ∀ r, _ → contextPart1 (s.lift l) = _
  unfold contextPart1
  refine ⟨fun h => ?_, fun r h => ?_⟩
  · rw [h]
    rfl
  · rw [h]
    rfl

theorem contextPart2_eq {rest : List Word} (hnone : (s.lift l).queueData = none → rest = [0, 0, 0])
    (hsome : ∀ q, (s.lift l).queueData = some q → rest = twoWords q.entryTime ++ [wordOf q.bypass]) :
    ((s.lift l).plan = none → s.contextWords l 2 now = [0, 0, 15, 0, 0, 0, 0, 0, 0, 0, 0] ++ rest)
    ∧ ∀ p, (s.lift l).plan = some p → s.contextWords l 2 now =
        [ wordOf p.mode.code, wordOf p.direction.code, wordOf (p.target.getD 15), wordOf p.distance,
          wordOf p.travelTime, wordOf p.creepCost, wordOf p.doorCost, wordOf p.totalCost, wordOf p.merit,
          wordOf (bit p.feasible), wordOf ((p.reason.map (·.code)).getD 0) ] ++ rest := by
  have hrest : optTagWords ((s.lift l).queueData.map (·.entryTime))
      ++ [wordOf (((s.lift l).queueData.map (·.bypass)).getD 0)] = rest := by
    cases hq : (s.lift l).queueData with
    | none =>
      rw [hnone hq]
      rfl
    | some q =>
      rw [hsome q hq]
      rfl
  show (_ → contextPart2 (s.lift l) = _) ∧ ∀ p, _ → contextPart2 (s.lift l) = _
  unfold contextPart2
  rw [List.append_assoc, hrest]
  refine ⟨fun h => ?_, fun p h => ?_⟩
  · rw [h]
  · rw [h]

/-- The time left on a step timer is the one number of ds that rounds its ms up. -/
theorem remaining_eq {tm : StepTimer} {left : Nat} (hlo : tm.ds * 100 - (now - tm.loadedAt).toNat ≤ left * 100)
    (hhi : left * 100 < tm.ds * 100 - (now - tm.loadedAt).toNat + 100) : tm.remaining now = left :=
  ceilDiv_eq hlo hhi

theorem contextPart3_eq {r : RescueRecord} {left first second : Nat} (hr : (s.lift l).rescue = some r)
    (hnone : r.working.timer = none → left = 0)
    (hsome : ∀ tm, r.working.timer = some tm →
      tm.ds * 100 - (now - tm.loadedAt).toNat ≤ left * 100
        ∧ left * 100 < tm.ds * 100 - (now - tm.loadedAt).toNat + 100)
    (hempty : r.stack = [] → first = 0 ∧ second = 0) (hone : ∀ i, r.stack = [i] → first = i ∧ second = 0)
    (htwo : ∀ i j, r.stack = [j, i] → first = i ∧ second = j) (hlength : r.stack.length ≤ 2) :
    s.contextWords l 3 now =
      [ wordOf r.bank.code, wordOf r.step, wordOf r.budget, wordOf r.working.repeats, wordOf left,
        wordOf ((r.working.creep.map (·.reload)).getD 0), wordOf r.stack.length, wordOf first, wordOf second,
        wordOf r.creepReservation, wordOf r.doorReservation, wordOf (bit r.creepReleased), wordOf (bit r.abortPending),
        wordOf r.originalDistance ] := by
  have hleft : (r.working.timer.map (·.remaining now)).getD 0 = left := by
    cases ht : r.working.timer with
    | none => exact (hnone ht).symm
    | some tm => exact remaining_eq now (hsome tm ht).1 (hsome tm ht).2
  have hstack : r.stack.reverse.getD 0 0 = first ∧ r.stack.reverse.getD 1 0 = second := by
    match hs : r.stack, hlength with
    | [], _ => simp [hempty hs]
    | [i], _ => simp [hone i hs]
    | [j, i], _ => simp [htwo i j hs]
  show contextPart3 (s.lift l) now = _
  unfold contextPart3
  rw [hr]
  dsimp only
  rw [hleft, hstack.1, hstack.2]

theorem contextPart4_eq {rest : List Word} (hnone : s.slot l = none → rest = [0, 0, 0, 0])
    (hsome : ∀ o, s.slot l = some o → rest =
      [ wordOf (o.kind.code * 4096 + bit o.kind.isStop),
        wordOf (match o.poster with
          | .entry n => n
          | .part => 0),
        wordOf (bit o.tag.isSome * 32768 + (o.tag.getD 0).toNat), wordOf o.sends ]) :
    s.contextWords l 4 now =
      twoWords ((s.lift l).offMarkerSince.getD 0) ++ twoWords ((s.lift l).stallSince.getD 0) ++ rest := by
  have hrest : slotWords (s.slot l) = rest := by
    cases ho : s.slot l with
    | none =>
      rw [hnone ho]
      rfl
    | some o =>
      rw [hsome o ho]
      cases hp : o.poster <;> simp [slotWords, hp, Poster.code]
  show _ ++ slotWords (s.slot l) = _
  rw [hrest]
  rfl

/-- No part of a lift context has more than 15 words. -/
theorem contextWords_length (part : Nat) : (s.contextWords l part now).length ≤ 15 := by
  unfold State.contextWords
  split
  · simp [contextPart0]
  · unfold contextPart1
    split <;> simp [encodeReport, tagWords]
  · unfold contextPart2
    split <;> simp [optTagWords, tagWords]
  · unfold contextPart3
    split <;> simp
  · unfold slotWords
    split <;> simp [optTagWords, tagWords]

end

theorem contextsAreRead : ContextsAreRead := by
  rintro s l t c rfl
  exact ⟨rfl, fun rest hrest => contextPart1_eq s l t hrest, fun rest hnone hsome => contextPart2_eq s l t hnone hsome,
    ⟨fun h => by show contextPart3 (s.lift l) t = _; rw [contextPart3, h]; rfl,
      fun r left first second hr hnone hsome hempty hone htwo hlength =>
        contextPart3_eq s l t hr hnone hsome hempty hone htwo hlength⟩,
    fun rest hnone hsome => contextPart4_eq s l t hnone hsome⟩

/-! ### The two reads (R156, R160, R163) -/

theorem entryWords_taken (s : State) (t : TimeTag) (tb : Table) (i : Nat) (b : Bool) :
    (taken s t).entryWords tb i b = s.entryWords tb i b := by
  cases tb <;> rfl

theorem contextWords_taken (s : State) (t : TimeTag) (l : Lift) (part : Nat) (now : TimeTag) :
    (taken s t).contextWords l part now = s.contextWords l part now := rfl

theorem partOf_field (ws : List Word) (v : Word) :
    partOf ws (field v 0 1 == 1) = if v.toNat % 2 = 0 then ws.take 15 else (ws.drop 15).take 15 := by
  have hf : field v 0 1 = v.toNat % 2 := by simp [field]
  rw [hf, partOf]
  rcases Nat.mod_two_eq_zero_or_one v.toNat with h | h <;> simp [h]

section
variable {s : State} {i : Nat} {v : Word} (rest : List Word)

theorem readEntry_of_words {tb : Table} {ws : List Word} (h : s.entryWords tb i (v.toNat / 2 % 2 == 1) = some ws) :
    s.readEntry tb i (v :: rest) =
      (s, ⟨.done, if v.toNat % 2 = 0 then ws.take 15 else (ws.drop 15).take 15⟩) := by
  have h' : s.entryWords tb i (field v 1 1 == 1) = some ws := h
  rw [← partOf_field, State.readEntry]
  rw [h']

theorem readEntry_of_none {tb : Table} (h : s.entryWords tb i (v.toNat / 2 % 2 == 1) = none) :
    s.readEntry tb i (v :: rest) = s.refuse .range := by
  have h' : s.entryWords tb i (field v 1 1 == 1) = none := h
  rw [State.readEntry]
  rw [h']

theorem readContext_of_part_above (now : TimeTag) (h : 4 < v.toNat) :
    s.readContext i (v :: rest) now = s.refuse .invalid := if_pos h

theorem readContext_of_no_lift (now : TimeTag) (hv : v.toNat ≤ 4) (h : liftOfNumber i = none) :
    s.readContext i (v :: rest) now = s.refuse .range := by
  rw [State.readContext]
  rw [if_neg (Nat.not_lt.mpr hv), h]

theorem readContext_of_lift {l : Lift} (now : TimeTag) (hv : v.toNat ≤ 4) (h : liftOfNumber i = some l) :
    s.readContext i (v :: rest) now = (s, ⟨.done, s.contextWords l v.toNat now⟩) := by
  rw [State.readContext]
  rw [if_neg (Nat.not_lt.mpr hv), h]

end

end Sys2Proof.Machine

open Sys2Proof Sys2Proof.Machine Sys2Proof.Slice0 in
/-- Settles O15: both reads hand on the state as the arrival left it, and answer words that the arrival does not move. -/
theorem readsChangeNothing : Obligations.ReadsChangeNothing := by
  refine ⟨fun s t i tb later hs hlen => ?_, entriesAreRead, contextsAreRead⟩
  have hn : later.length + 1 ≤ 16 := Nat.succ_le_succ hlen
  refine ⟨?_, ?_⟩
  · rintro rfl
    exact ⟨exec_refuses (r := .read tb i []) (st := .invalid) rfl hs hn (by simp) rfl rfl,
      exec_refuses (r := .readContext i []) (st := .invalid) rfl hs hn (by simp) rfl rfl⟩
  · rintro v rest rfl
    refine ⟨fun ws h => ?_, fun h => ?_, fun h => ?_, fun hv h => ?_, fun l hv h => ⟨contextWords_length s l t _, ?_⟩⟩
    · rw [← entryWords_taken s t] at h
      exact exec_answers (r := .read tb i (v :: rest)) (st := .done) rfl hs hn (by simp)
        (readEntry_of_words rest h) hs.2.2 rfl
    · rw [← entryWords_taken s t] at h
      exact exec_refuses (r := .read tb i (v :: rest)) (st := .range) rfl hs hn (by simp) (readEntry_of_none rest h) rfl
    · exact exec_refuses (r := .readContext i (v :: rest)) (st := .invalid) rfl hs hn (by simp)
        (readContext_of_part_above rest t h) rfl
    · exact exec_refuses (r := .readContext i (v :: rest)) (st := .range) rfl hs hn (by simp)
        (readContext_of_no_lift rest t hv h) rfl
    · rw [← contextWords_taken s t]
      exact exec_answers (r := .readContext i (v :: rest)) (st := .done) rfl hs hn (by simp)
        (readContext_of_lift rest t hv h) hs.2.2 rfl
end

section
/-! The notice list (R154), the content of a notice (R155) and the end of an upward frame's transmission (R152). -/

namespace Sys2Proof.Machine

open Slice0

/-! ### The notice pending list (R154) -/

theorem raiseIn_new {n : Nat} {es : List NoticeEntry} (m : Word) (h : ∀ e ∈ es, e.number ≠ n) :
    raiseIn n m es = es ++ [⟨n, m⟩] := by
  induction es with
  | nil => rfl
  | cons e es ih =>
    rw [raiseIn, if_neg (h e (by simp)), ih fun x hx => h x (by simp [hx])]
    rfl

theorem raiseIn_joins {n : Nat} (m : Word) {as bs : List NoticeEntry} {e : NoticeEntry} (he : e.number = n)
    (h : ∀ a ∈ as, a.number ≠ n) : raiseIn n m (as ++ e :: bs) = as ++ { e with reasons := e.reasons ||| m } :: bs := by
  induction as with
  | nil => exact if_pos he
  | cons a as ih =>
    show (if a.number = n then _ else a :: raiseIn n m (as ++ e :: bs)) = _
    rw [if_neg (h a (by simp)), ih fun x hx => h x (by simp [hx])]
    rfl

/-- The numbers of the list: a number new to it comes to its tail. -/
theorem raiseIn_numbers (n : Nat) (m : Word) (es : List NoticeEntry) :
    (raiseIn n m es).map (·.number) =
      if n ∈ es.map (·.number) then es.map (·.number) else es.map (·.number) ++ [n] := by
  by_cases h : ∀ e ∈ es, e.number ≠ n
  · rw [raiseIn_new m h, if_neg (by simpa using h)]
    simp
  · induction es with
    | nil => simp at h
    | cons e es ih =>
      unfold raiseIn
      by_cases he : e.number = n
      · simp [he]
      · have hes : ¬ ∀ x ∈ es, x.number ≠ n := fun hes => h (by simpa [he] using hes)
        rw [if_neg he, List.map_cons, ih hes, if_pos (by simpa using hes), if_pos (by simpa [Ne.symm he] using hes)]
        rfl

theorem raiseIn_nodup {n : Nat} (m : Word) {es : List NoticeEntry} (h : (es.map (·.number)).Nodup) :
    ((raiseIn n m es).map (·.number)).Nodup := by
  rw [raiseIn_numbers]
  split
  · exact h
  next hn => simpa using h.concat hn

/-! ### The content of a notice (R155) -/

theorem liftOfNumber_liftNumber (l : Lift) : liftOfNumber (l.val + 1) = some l := by
  have hl := l.isLt
  rw [liftOfNumber, dif_pos (by omega)]
  rfl

theorem buildNotice_of_lift (s : State) (l : Lift) (m : Word) :
    s.buildNotice ⟨l.val + 1, m⟩ = noticeFrame (liftNotice (l.val + 1) (s.lift l) m s.time) := by
  rw [State.buildNotice, liftOfNumber_liftNumber]

/-- A lift notice by what its four fields that may be absent read as. -/
theorem liftNotice_eq {c : LiftContext} {n reason occupancy target merit : Nat} {m : Word} {now : TimeTag}
    (hreason : (c.manualReason.map (·.code)).getD 0 = reason) (hoccupancy : c.occupancy.getD 63 = occupancy)
    (htarget : (c.plan.bind (·.target)).getD 15 = target) (hmerit : (c.plan.map (·.merit)).getD 0 = merit) :
    liftNotice n c m now =
      [ BitVec.ofNat 16 (n * 256 + c.state.code), m, BitVec.ofNat 16 (reason * 256 + occupancy),
        BitVec.ofNat 16 (target * 256 + c.trappedMinutes), BitVec.ofNat 16 c.pos.position, BitVec.ofNat 16 merit,
        BitVec.ofNat 16 (now.toNat / 65536), BitVec.ofNat 16 now.toNat ] := by
  subst hreason hoccupancy htarget hmerit
  rfl

theorem noticesAreBuilt : NoticesAreBuilt := by
  refine fun s m => ⟨fun l => ?_, ?_⟩
  · rw [buildNotice_of_lift]
    refine congrArg noticeFrame (liftNotice_eq ?_ ?_ ?_ ?_)
    · cases (s.lift l).manualReason <;> rfl
    · cases (s.lift l).occupancy <;> rfl
    · cases (s.lift l).plan.bind (·.target) <;> rfl
    · cases (s.lift l).plan <;> rfl
  · rw [State.buildNotice]
    rfl

end Sys2Proof.Machine

open Sys2Proof Sys2Proof.Machine Sys2Proof.Slice0 in
/-- Settles O29: the notice list by where the number stands in it, the choice by the first source that has a frame. -/
theorem transmitEndChoosesTheNextFrame : Obligations.TransmitEndChoosesTheNextFrame := by
  refine ⟨fun n m es => ⟨raiseIn_new m, fun as e bs hes he has => hes ▸ raiseIn_joins m he has, raiseIn_nodup m⟩,
    fun s t hs => ?_, noticesAreBuilt⟩
  show Host.Outcome.next ((s.atTime t).endTransmission.finish t) = _
  rw [finish_of_not_due (s.atTime t).endTransmission t hs]
  refine congrArg _ ?_
  show State.transmit { s with time := t, link := { s.link with transmitting := none } } = _
  unfold State.transmit State.nextUpward
  dsimp only
  cases s.link.mgmtReplies with
  | cons f fs => rfl
  | nil =>
    cases s.link.cmdReplies with
    | cons f fs => rfl
    | nil =>
      cases (if s.link.isolated then [] else s.link.notices) with
      | cons e es => rfl
      | nil => cases s.link.copies <;> rfl
end

section
/-! The lane records at the end of an exchange (R115, R116, R118), and the lane of the next (R117). -/

namespace Sys2Proof.Machine

open Slice0

/-! ### A lane record after an exchange on the lane (R115, R118) -/

theorem after_valid (r : LaneRecord) : (r.after true).status = .good ∧ (r.after true).missCount = 0 := by
  obtain ⟨status, misses, probe⟩ := r
  cases status <;> exact ⟨rfl, rfl⟩

theorem after_miss_below {r : LaneRecord} (hs : r.status = .good) (h : r.missCount < 7) :
    r.after false = { r with missCount := r.missCount + 1 } := by
  obtain ⟨status, misses, probe⟩ := r
  cases hs
  exact if_neg (by unfold Config.missLimit; omega)

theorem after_miss_limit {r : LaneRecord} (hs : r.status = .good) (h : 7 ≤ r.missCount) :
    r.after false = { r with status := .degraded, missCount := 8 } := by
  obtain ⟨status, misses, probe⟩ := r
  cases hs
  exact if_pos (by unfold Config.missLimit; omega)

theorem after_miss_degraded {r : LaneRecord} (hs : r.status = .degraded) : r.after false = { r with missCount := 8 } := by
  obtain ⟨status, misses, probe⟩ := r
  cases hs
  rfl

/-! ### The end of an exchange (R115, R116) -/

/-- The notice of a lane that has come into a status (R115, R118). -/
def laneNews (l : Lane) : LaneStatus → StationReason
  | .degraded => .laneDegraded l
  | .good => .laneRestored l

/-- The notice is raised exactly when the status changes. -/
theorem updateLane_eq (s : State) (l : Lane) (valid : Bool) {v : State} {before after : LaneRecord}
    (hbefore : before = s.laneRecord l) (hafter : after = before.after valid) (hv : v = s.setLaneRecord l after) :
    s.updateLane l valid = if before.status = after.status then v else v.raiseStation (laneNews l after.status) := by
  unfold State.updateLane
  dsimp only
  rw [← hbefore, ← hafter, ← hv]
  cases before.status <;> cases after.status <;> rfl

theorem laneRecord_setLaneRecord (s : State) (l : Lane) (r : LaneRecord) :
    (s.setLaneRecord l r).laneRecord l = r ∧ (s.setLaneRecord l r).laneRecord (otherLane l) = s.laneRecord (otherLane l) := by
  cases l <;> exact ⟨rfl, rfl⟩

theorem laneRecord_probesIdle (s : State) (l : Lane) :
    s.probesIdle.laneRecord l = { s.laneRecord l with probe := .idle } := by
  cases l <;> rfl

theorem laneRecord_updateLane (s : State) (l k : Lane) (valid : Bool) :
    (s.updateLane l valid).laneRecord k = (s.setLaneRecord l ((s.laneRecord l).after valid)).laneRecord k := by
  rw [updateLane_eq s l valid rfl rfl rfl]
  split
  · rfl
  · cases k <;> rfl

theorem laneRecord_closeExchange (s : State) (x : Exchange) (valid : Bool) (k : Lane) :
    (s.closeExchange x valid).laneRecord k =
      { (s.setLaneRecord x.lane ((s.laneRecord x.lane).after valid)).laneRecord k with probe := .idle } := by
  rw [← laneRecord_updateLane]
  exact (laneRecord_probesIdle (s.updateLane x.lane valid) k)

theorem laneRecord_closeExchange_same (s : State) (x : Exchange) (valid : Bool) :
    (s.closeExchange x valid).laneRecord x.lane = { (s.laneRecord x.lane).after valid with probe := .idle } := by
  rw [laneRecord_closeExchange, (laneRecord_setLaneRecord s _ _).1]

theorem laneRecord_closeExchange_other (s : State) (x : Exchange) (valid : Bool) :
    (s.closeExchange x valid).laneRecord (otherLane x.lane) =
      { s.laneRecord (otherLane x.lane) with probe := .idle } := by
  rw [laneRecord_closeExchange, (laneRecord_setLaneRecord s _ _).2]

theorem closeExchange_link (s : State) (x : Exchange) (valid : Bool) {before after : LaneRecord}
    (hbefore : before = s.laneRecord x.lane) (hafter : after = before.after valid) :
    (s.closeExchange x valid).link =
      if before.status = after.status then s.link
      else (raised s 0 (laneNews x.lane after.status).mask).link := by
  have hset : (s.setLaneRecord x.lane after).link = s.link := by cases x.lane <;> rfl
  show (s.updateLane x.lane valid).link = _
  rw [updateLane_eq s x.lane valid hbefore hafter rfl]
  split
  · exact hset
  · unfold State.raiseStation raised State.raise
    dsimp only
    rw [hset]

/-! ### The lane of an exchange (R117) -/

section
variable {s : State} (asked : Lane)

theorem chooseLane_of_probe_a (h : s.laneA.probe = .due) : s.chooseLane asked = .a := if_pos h

theorem chooseLane_of_probe_b (ha : s.laneA.probe = .idle) (hb : s.laneB.probe = .due) : s.chooseLane asked = .b := by
  rw [State.chooseLane, if_neg (by simp [ha]), if_pos hb]

theorem chooseLane_of_no_probe (ha : s.laneA.probe = .idle) (hb : s.laneB.probe = .idle) :
    s.chooseLane asked =
      if (s.laneRecord asked).status = .degraded ∧ (s.laneRecord (otherLane asked)).status = .good then otherLane asked
      else asked := by
  rw [State.chooseLane, if_neg (by simp [ha]), if_neg (by simp [hb])]

end

end Sys2Proof.Machine

open Sys2Proof Sys2Proof.Machine Sys2Proof.Slice0 in
/-- Settles O37: the record of the lane by its status and miss count, the lane by the probes and then the two statuses. -/
theorem lanesAreKeptAndChosen : Obligations.LanesAreKeptAndChosen := by
  refine ⟨?_, fun s asked => ⟨chooseLane_of_probe_a asked, chooseLane_of_probe_b asked, fun ha hb => ?_⟩⟩
  · rintro s x valid u rfl before after other otherAfter hbefore hafter rfl rfl
    rw [laneRecord_closeExchange_same, ← hbefore] at hafter
    have hlink := closeExchange_link s x valid hbefore rfl
    obtain ⟨a, b, ns, he⟩ := closeExchange_eq s x valid
    refine ⟨rfl, by rw [hafter], laneRecord_closeExchange_other s x valid, ?_, fun hv hs hm => ?_, fun hv hs hm => ?_,
      fun hv hs => ?_, ?_, by rw [he], by rw [he], by rw [he], by rw [he]⟩
    · rintro rfl
      rw [hafter]
      exact after_valid before
    · rw [hafter, hv, after_miss_below hs hm]
      exact ⟨hs, rfl⟩
    · rw [hafter, hv, after_miss_limit hs hm]
      exact ⟨rfl, rfl⟩
    · rw [hafter, hv, after_miss_degraded hs]
      exact ⟨hs, rfl⟩
    · rw [hlink, hafter]
      dsimp only
      cases x.lane <;> cases (before.after valid).status <;> rfl
  · rw [chooseLane_of_no_probe asked ha hb]
    exact ⟨fun hg => if_neg (by simp [hg]), fun hd hg => if_pos ⟨hd, hg⟩, fun _ hd => if_neg (by simp [hd])⟩
end

section
/-! RESTART on the ring (R120, R136, R164): the engine stopped, and ALL STOP once no exchange is in flight. -/

namespace Sys2Proof.Machine

open Slice0

theorem beginRestart_eq (s : State) :
    s.beginRestart =
      { s with scan := { s.scan with phase := .stopped },
               restart := if s.exchange.isSome then .quieting else .allStop,
               allStop := if s.exchange.isSome then s.allStop else allStopSends } := by
  have hx : (s.setPhase .stopped).exchange = s.exchange := rfl
  unfold State.beginRestart
  dsimp only
  rw [hx]
  split
  · rfl
  · rfl

/-- The exchange in flight when RESTART was taken ends: the lane is brought up to date, the outcome dropped, no evaluation
called. -/
theorem finish_endExchange_of_quieting {s : State} (x : Exchange) (valid : Bool) (k : State → Job → State × GoingOn)
    (now : TimeTag) (hr : s.restart = .quieting) (hs : s.Settled) :
    (s.endExchange x valid k now).finish now =
      ({ s.closeExchange x valid with restart := .allStop, allStop := allStopSends } : State).transmit := by
  have hend : s.endExchange x valid k now =
      { s.closeExchange x valid with restart := .allStop, allStop := allStopSends } := if_pos hr
  have hdue : (s.closeExchange x valid).admissionDue = false := by
    obtain ⟨a, b, ns, e⟩ := closeExchange_eq s x valid
    rw [e]
    exact hs
  rw [hend]
  exact finish_of_not_due _ now hdue

theorem windowClosed_of_passed {x : Exchange} {sent now : TimeTag} {window : Nat} (hw : x.waiting = some (sent, window))
    (h : window ≤ (now - sent).toNat) : windowClosed x now = true := by
  rw [windowClosed, hw]
  exact decide_eq_true h

end Sys2Proof.Machine

open Sys2Proof Sys2Proof.Machine Sys2Proof.Slice0 in
/-- Settles O24: RESTART as one equation, and the end of the exchange it waits for by its reply or its window. -/
theorem restartStopsTheScan : Obligations.RestartStopsTheScan := by
  refine ⟨fun s t hs => ?_, fun s t x hs hr hx ended hended => ?_⟩
  · refine exec_answers (r := .restart) (st := .done) rfl hs (by decide) (by simp) ?_ hs.2.2 rfl
    show (taken s t).beginRestart.done = _
    rw [beginRestart_eq]
    rfl
  · have hx' : (s.atTime t).exchange = some x := hx
    refine ⟨fun k r hm => ?_, fun sent window hw hpassed => ?_⟩
    · have hexec : exec (replyOf k t r) s = .next (s.replyArrives k r t) := by cases k <;> rfl
      rw [hexec, hended, State.replyArrives, State.ringFrame, hx']
      dsimp only
      rw [if_pos (validReply_of_meets hm), finish_endExchange_of_quieting (s := s.atTime t) x true _ t hr hs]
    · show Host.Outcome.next (((s.atTime t).closeWindow t).finish t) = _
      rw [hended, State.closeWindow, hx']
      dsimp only
      rw [if_pos (windowClosed_of_passed hw hpassed),
        finish_endExchange_of_quieting (s := s.atTime t) x false _ t hr hs]
end

section
/-! The send end of an exchange (R113), and the frames on the ring that end none (R113, R114). -/

namespace Sys2Proof.Machine

open Slice0

theorem sendEnd_of_exchange {s : State} {x : Exchange} (now : TimeTag) (h : s.exchange = some x) :
    s.sendEnd now =
      { s with exchange := some { x with waiting := if x.waiting.isSome then x.waiting
                                                    else some (now, s.params.replyWindow) } } := by
  rw [State.sendEnd, h]
  dsimp only
  split
  · rw [← h]
  · rfl

theorem ofFrameKind_eq_some {k : BitVec 4} {r : ReplyKind} (h : ReplyKind.ofFrameKind k = some r) : r.frameKind = k := by
  revert h
  cases r <;> revert k <;> decide

/-- A frame that cannot answer the exchange in flight: it comes in on the other lane or before the send end, it is of
another kind, or from another node (R113, R114). -/
abbrev CannotAnswer (x : Exchange) (kind : ReplyKind) (r : Reply) : Prop :=
  x.lane ≠ r.lane ∨ x.waiting = none ∨ kind ≠ x.expects ∨ r.source.toNat ≠ x.dest

theorem validReply_of_cannotAnswer {x : Exchange} {kind : ReplyKind} {r : Reply} (now : TimeTag)
    (h : CannotAnswer x kind r) : validReply x kind r now = false := by
  unfold validReply
  rcases h with h | h | h | h
  · simp [Ne.symm h]
  · simp [h]
  · simp [h]
  · simp [h]

theorem ringFrame_of_no_answer {s : State} {kind : ReplyKind} {r : Reply} (now : TimeTag)
    (h : s.exchange = none ∨ ∃ x, s.exchange = some x ∧ CannotAnswer x kind r) : s.ringFrame kind r now = s := by
  unfold State.ringFrame
  rcases h with hx | ⟨x, hx, h⟩
  · rw [hx]
  · rw [hx]
    dsimp only
    rw [validReply_of_cannotAnswer now h]
    rfl

end Sys2Proof.Machine

open Sys2Proof Sys2Proof.Machine Sys2Proof.Slice0 in
/-- Settles O31: the window is fixed once, and the port is left as it was. -/
theorem sendEndOpensTheWindow : Obligations.SendEndOpensTheWindow := by
  intro s t x hs hserved hx
  show Host.Outcome.next (((s.atTime t).sendEnd t).finish t) = _
  rw [sendEnd_of_exchange (s := s.atTime t) t hx]
  exact congrArg Host.Outcome.next (finish_of_served (s := s) t hs hserved rfl rfl)

open Sys2Proof Sys2Proof.Machine Sys2Proof.Slice0 in
/-- Settles O39: no frame, a frame of no reply kind, or a reply that cannot answer what is in flight. -/
theorem discardedRingFrames : Obligations.DiscardedRingFrames := by
  intro s t lane ws whole hs hserved h
  show Host.Outcome.next (s.ringWords lane ws whole t) = _
  refine congrArg Host.Outcome.next ?_
  show _ = s.atTime t
  unfold State.ringWords
  split
  next f hf =>
    split
    next k hk =>
      have hno : s.exchange = none ∨ ∃ x, s.exchange = some x
          ∧ CannotAnswer x k { lane := lane, dest := f.dest, source := f.source, tag := f.tag, payload := f.payload } := by
        rcases h with hx | hnone | ⟨x, hx, hlane | hwaiting | hother⟩
        · exact .inl hx
        · rw [hf] at hnone
          cases hnone
        · exact .inr ⟨x, hx, .inl hlane⟩
        · exact .inr ⟨x, hx, .inr (.inl hwaiting)⟩
        · rcases hother f hf with hkind | hsource
          · exact .inr ⟨x, hx, .inr (.inr (.inl fun he => hkind (by rw [← he, ofFrameKind_eq_some hk])))⟩
          · exact .inr ⟨x, hx, .inr (.inr (.inr hsource))⟩
      rw [State.replyArrives, ringFrame_of_no_answer (s := s.atTime t) t hno]
      exact finish_of_served (s := s) t hs hserved rfl rfl
    · rfl
  · rfl
end

section
/-! Writes of the inactive scan bank (R125, R127, R159). -/

namespace Sys2Proof.Machine

open Slice0

/-! ### A bank replaced -/

@[simp] theorem ScanEngine.setBank_active (e : ScanEngine) (i : ScanBankId) (b : ScanBank) :
    (e.setBank i b).active = e.active := by cases i <;> rfl

@[simp] theorem ScanEngine.bank_setBank_same (e : ScanEngine) (i : ScanBankId) (b : ScanBank) :
    (e.setBank i b).bank i = b := by cases i <;> rfl

@[simp] theorem ScanEngine.bank_setBank_other (e : ScanEngine) (i : ScanBankId) (b : ScanBank) :
    (e.setBank i.other b).bank i = e.bank i := by cases i <;> rfl

theorem ScanEngine.setBank_banks (e : ScanEngine) (i : ScanBankId) (b : ScanBank) :
    e.setBank i b = { e with bankA := (e.setBank i b).bankA, bankB := (e.setBank i b).bankB } := by cases i <;> rfl

theorem setInactive_inactive (s : State) (b : ScanBank) :
    (s.setInactive b).scan.bank (s.setInactive b).scan.active.other = b := by simp [State.setInactive]

theorem setInactive_active (s : State) (b : ScanBank) :
    (s.setInactive b).scan.bank (s.setInactive b).scan.active = s.scan.bank s.scan.active := by simp [State.setInactive]

/-! ### The descriptor that words write -/

theorem DescriptorKind.ofCode_of_gt {n : Nat} (h : 4 < n) : DescriptorKind.ofCode n = none := by
  match n with
  | _ + 5 => rfl

theorem DescriptorKind.exists_ofCode {n : Nat} (h : n ≤ 4) :
    ∃ k : DescriptorKind, DescriptorKind.ofCode n = some k ∧ k.code = n := by
  interval_cases n <;> exact ⟨_, rfl, rfl⟩

theorem LaneChoice.exists_ofCode {n : Nat} (h : n < 3) :
    ∃ l : LaneChoice, LaneChoice.ofCode n = some l ∧ l.code = n := by
  interval_cases n <;> exact ⟨_, rfl, rfl⟩

theorem bit_field_beq_one (v : Word) (lo : Nat) : bit (field v lo 1 == 1) = field v lo 1 := by
  have hbit : field v lo 1 < 2 := Nat.mod_lt _ (by decide)
  interval_cases field v lo 1 <;> rfl

theorem CareMask.code_ofWord (v : Word) : (CareMask.ofWord v).code = v.toNat % 16 := by
  simp only [CareMask.code, CareMask.ofWord, bit_field_beq_one]
  unfold field
  omega

theorem field_kind (v : Word) : field v 13 3 = v.toNat / 8192 := by
  have := v.isLt
  unfold field
  omega

theorem field_low_byte (v : Word) : field v 0 8 = v.toNat % 256 := by
  unfold field
  omega

/-- The descriptor of a kind and a lane, its other fields those of the words with the retry limit clamped (R125, R127). -/
def descriptorWritten (kind : DescriptorKind) (lane : LaneChoice) (ws : List Word) : Descriptor :=
  { kind := kind, lift := w ws 1 / 256, lane := lane, retry := near 0 3 (w ws 0 / 256 % 8),
    switch := w ws 0 / 128 % 2 == 1, care := CareMask.ofWord (wordAt ws 0), gap := w ws 1 % 256 }

theorem decodeDescriptor_short {ws : List Word} (h : ws.length < 2) : decodeDescriptor ws = none := by
  match ws with
  | [] => rfl
  | [_] => rfl
  | _ :: _ :: _ => simp at h

theorem decodeDescriptor_eq {ws : List Word} (h : 2 ≤ ws.length) :
    decodeDescriptor ws =
      (DescriptorKind.ofCode (w ws 0 / 8192)).bind fun kind =>
        (LaneChoice.ofCode (w ws 0 / 2048 % 4)).map fun lane => descriptorWritten kind lane ws := by
  match ws with
  | v :: x :: rest =>
    have hretry : min 3 (field v 8 3) = near 0 3 (field v 8 3) := by
      rw [← clampScalar_eq_near _ (by decide), clampScalar, Nat.zero_max]
    have hlane : field v 11 2 = v.toNat / 2048 % 4 := rfl
    have h0 : w (v :: x :: rest) 0 = v.toNat := rfl
    rw [decodeDescriptor, h0, field_kind, hlane, hretry, field_high, field_low_byte]
    cases DescriptorKind.ofCode (v.toNat / 8192) <;> cases LaneChoice.ofCode (v.toNat / 2048 % 4) <;> rfl

theorem decodeDescriptor_invalid {ws : List Word}
    (h : ws.length < 2 ∨ 4 < w ws 0 / 8192 ∨ w ws 0 / 2048 % 4 = 3) : decodeDescriptor ws = none := by
  rcases Nat.lt_or_ge ws.length 2 with hshort | hlong
  · exact decodeDescriptor_short hshort
  rw [decodeDescriptor_eq hlong]
  rcases h.resolve_left (Nat.not_lt.mpr hlong) with hkind | hlane
  · rw [DescriptorKind.ofCode_of_gt hkind]
    rfl
  · rw [hlane]
    simp only [LaneChoice.ofCode, Option.map_none, Option.bind_fun_none]

theorem decodeDescriptor_valid {ws : List Word} (hlen : 2 ≤ ws.length) (hkind : w ws 0 / 8192 ≤ 4)
    (hlane : w ws 0 / 2048 % 4 ≠ 3) :
    ∃ kind lane, decodeDescriptor ws = some (descriptorWritten kind lane ws) ∧ kind.code = w ws 0 / 8192
      ∧ lane.code = w ws 0 / 2048 % 4 := by
  obtain ⟨kind, hk, hkcode⟩ := DescriptorKind.exists_ofCode hkind
  obtain ⟨lane, hl, hlcode⟩ := LaneChoice.exists_ofCode (n := w ws 0 / 2048 % 4) (by omega)
  refine ⟨kind, lane, ?_, hkcode, hlcode⟩
  rw [decodeDescriptor_eq hlen, hk, hl]
  rfl

/-! ### The checks of the write -/

section
variable {s : State} {i : Nat}

theorem writeScan_range (ws : List Word) (h : 64 < i) : s.writeScan i ws = s.refuse .range := if_pos h

theorem writeScan_busy (ws : List Word) (h : i ≤ 64) (hp : s.scan.swapPending = true) :
    s.writeScan i ws = s.refuse .busy :=
  (if_neg (Nat.not_lt.mpr h)).trans (if_pos hp)

theorem writeScan_place (ws : List Word) (h : i < 64) (hp : s.scan.swapPending = false) :
    s.writeScan i ws =
      match decodeDescriptor ws with
      | none => s.refuse .invalid
      | some d =>
        (s.setInactive { s.scan.bank s.scan.active.other with
            places := (s.scan.bank s.scan.active.other).places.set i d h },
          doneOr (decide (3 < w ws 0 / 256 % 8))) :=
  (if_neg (by omega)).trans ((if_neg (by simp [hp])).trans (dif_pos h))

theorem writeScan_length (ws : List Word) (h : i = 64) (hp : s.scan.swapPending = false) :
    s.writeScan i ws =
      if ws = [] ∨ 64 < w ws 0 then s.refuse .invalid
      else (s.setInactive { s.scan.bank s.scan.active.other with length := w ws 0 }, doneOr false) := by
  refine ((if_neg (by omega)).trans ((if_neg (by simp [hp])).trans (dif_neg (by omega)))).trans ?_
  cases ws with
  | nil => rfl
  | cons v rest =>
    have hcond : (v :: rest = [] ∨ 64 < w (v :: rest) 0) ↔ 64 < v.toNat := or_iff_right (List.cons_ne_nil _ _)
    rw [if_congr hcond rfl rfl]
    rfl

end

theorem doneOr_code (b : Bool) : (doneOr b).status.code = if b then 1 else 0 := by cases b <;> rfl

/-- The command refused by the rule of its table (R156). -/
theorem exec_writeEntryScan_refuses {s : State} {t : TimeTag} {i : Byte} {ws : List Word} (st : ReplyStatus)
    (hs : Serves s) (hlen : ws.length ≤ 15)
    (h : (taken s t).writeScan i.toNat (data s .scan i ws) = (taken s t).refuse st) :
    exec (.writeEntryScan t i ws) s = .next (answered (taken s t) (reply st.code 0x23 [])) :=
  exec_refuses (r := .write .scan i ws) (n := ws.length + 1) rfl hs (by omega) (by simp)
    ((serve_write s t .scan i ws).trans h) rfl

/-- The command accepted by the rule of its table: the inactive bank replaced, and DONE or DONE-CLAMPED (R127). -/
theorem exec_writeEntryScan_stores {s : State} {t : TimeTag} {i : Byte} {ws : List Word} {b : ScanBank} {clamped : Bool}
    (hs : Serves s) (hlen : ws.length ≤ 15)
    (h : (taken s t).writeScan i.toNat (data s .scan i ws) = ((taken s t).setInactive b, doneOr clamped)) :
    exec (.writeEntryScan t i ws) s =
      .next (answered ((taken s t).setInactive b) (reply (if clamped then 1 else 0) 0x23 [])) := by
  rw [← doneOr_code]
  exact exec_answers (r := .write .scan i ws) (n := ws.length + 1) rfl hs (by omega) (by simp)
    ((serve_write s t .scan i ws).trans h) hs.2.2 rfl

end Sys2Proof.Machine

open Sys2Proof Sys2Proof.Machine Sys2Proof.Slice0 in
/-- Settles O12: each check decides the write before the next one is made, and an accepted write replaces the bank that is
not active. -/
theorem scanWriteIsDecided : Obligations.ScanWriteIsDecided := by
  intro s t i ws hs hlen
  refine ⟨fun hi => exec_writeEntryScan_refuses .range hs hlen (writeScan_range _ hi),
    fun hi hp => exec_writeEntryScan_refuses .busy hs hlen (writeScan_busy _ hi hp), fun hi hp => ?_, fun hi hp => ?_⟩
  · have hwrite := writeScan_length (s := taken s t) (data s .scan i ws) hi hp
    refine ⟨fun hbad => exec_writeEntryScan_refuses .invalid hs hlen (hwrite.trans (if_pos hbad)), fun hnil hle => ?_⟩
    rw [if_neg (not_or.mpr ⟨hnil, Nat.not_lt.mpr hle⟩)] at hwrite
    have hexec := exec_writeEntryScan_stores hs hlen hwrite
    exact ⟨_, hexec, rfl, congrArg ScanBank.length (setInactive_inactive _ _),
      (congrArg ScanBank.places (setInactive_inactive _ _)).trans rfl, setInactive_active _ _,
      ScanEngine.setBank_banks _ _ _⟩
  · have hwrite := writeScan_place (s := taken s t) (data s .scan i ws) hi hp
    refine ⟨fun hbad => exec_writeEntryScan_refuses .invalid hs hlen ?_, fun hlong hkind hlane => ?_⟩
    · rw [hwrite, decodeDescriptor_invalid hbad]
    · obtain ⟨kind, lane, hdecode, hkcode, hlcode⟩ := decodeDescriptor_valid hlong hkind hlane
      rw [hdecode] at hwrite
      have hexec := exec_writeEntryScan_stores hs hlen hwrite
      simp only [decide_eq_true_eq] at hexec
      exact ⟨_, descriptorWritten kind lane (data s .scan i ws), hexec, rfl,
        congrArg ScanBank.places (setInactive_inactive _ _), hkcode, hlcode, rfl, rfl, CareMask.code_ofWord _, rfl, rfl,
        (congrArg ScanBank.length (setInactive_inactive _ _)).trans rfl, setInactive_active _ _,
        ScanEngine.setBank_banks _ _ _⟩
end

section
/-! The queues of the station link and the pass-through queue (R146, R152, R154): what their bounds and the notice list
are read off, and that the lift contexts' own machinery, which raises notices only, keeps them. -/

namespace Sys2Proof.Machine

open Slice0

/-! ### What the bounds are read off -/

/-- The part of a state that the bounds and the notice list are read off. -/
structure Queues where
  mgmtReplies : List Frame
  cmdReplies  : List Frame
  copies      : List Frame
  notices     : List NoticeEntry
  passQueue   : List RemoteCommand

def State.queues (s : State) : Queues :=
  { mgmtReplies := s.link.mgmtReplies, cmdReplies := s.link.cmdReplies, copies := s.link.copies,
    notices := s.link.notices, passQueue := s.orders.passQueue }

/-- The bounds of R146 and R152. -/
def Queues.Bounded (q : Queues) : Prop :=
  q.mgmtReplies.length ≤ Config.replyFifoSize ∧ q.cmdReplies.length ≤ Config.replyFifoSize
    ∧ q.copies.length ≤ Config.copyFifoSize ∧ q.passQueue.length ≤ Config.passQueueSize

/-- One entry for each number of the notice list, lift or station (R154). -/
def Queues.Listed (q : Queues) : Prop := (q.notices.map (·.number)).Nodup ∧ ∀ e ∈ q.notices, e.number ≤ 24

theorem queuesBounded_iff (s : State) : s.QueuesBounded ↔ s.queues.Bounded := .rfl

theorem noticesListed_iff (s : State) : s.NoticesListed ↔ s.queues.Listed := .rfl

/-- `q` comes from `p` by what the part does beside answering requests: no management reply is added, and each other
queue keeps its bound. -/
structure QueuesKept (p q : Queues) : Prop where
  mgmtReplies : q.mgmtReplies.length ≤ p.mgmtReplies.length
  cmdReplies : p.cmdReplies.length ≤ Config.replyFifoSize → q.cmdReplies.length ≤ Config.replyFifoSize
  copies : p.copies.length ≤ Config.copyFifoSize → q.copies.length ≤ Config.copyFifoSize
  passQueue : p.passQueue.length ≤ Config.passQueueSize → q.passQueue.length ≤ Config.passQueueSize
  listed : p.Listed → q.Listed

namespace QueuesKept

theorem refl (p : Queues) : QueuesKept p p := ⟨le_rfl, id, id, id, id⟩

theorem trans {p q r : Queues} (h : QueuesKept p q) (k : QueuesKept q r) : QueuesKept p r :=
  ⟨k.mgmtReplies.trans h.mgmtReplies, k.cmdReplies ∘ h.cmdReplies, k.copies ∘ h.copies, k.passQueue ∘ h.passQueue,
    k.listed ∘ h.listed⟩

theorem bounded {p q : Queues} (h : QueuesKept p q) (hp : p.Bounded) : q.Bounded := by
  obtain ⟨hmgmt, hcmd, hcopies, hpass⟩ := hp
  exact ⟨h.mgmtReplies.trans hmgmt, h.cmdReplies hcmd, h.copies hcopies, h.passQueue hpass⟩

end QueuesKept

variable {p : Queues} {s : State}

/-! ### Notices (R154) -/

theorem number_le_of_mem_raiseIn {n : Nat} {m : Word} {es : List NoticeEntry} (hn : n ≤ 24)
    (h : ∀ e ∈ es, e.number ≤ 24) : ∀ e ∈ raiseIn n m es, e.number ≤ 24 := by
  intro e he
  have hnumber : e.number ∈ (raiseIn n m es).map (·.number) := List.mem_map_of_mem he
  have hold : ∀ k ∈ es.map (·.number), k ≤ 24 := by simpa using h
  rw [raiseIn_numbers] at hnumber
  split at hnumber
  · exact hold _ hnumber
  · rcases List.mem_append.mp hnumber with hmem | hmem
    · exact hold _ hmem
    · exact (List.mem_singleton.mp hmem).trans_le hn

theorem raise_queuesKept {n : Nat} (m : Word) (hn : n ≤ 24) (h : QueuesKept p s.queues) :
    QueuesKept p (s.raise n m).queues :=
  { h with listed := fun hp =>
      have ⟨hnodup, hnumbers⟩ := h.listed hp
      ⟨raiseIn_nodup m hnodup, number_le_of_mem_raiseIn hn hnumbers⟩ }

theorem raiseLift_queuesKept (l : Lift) (r : LiftReason) (h : QueuesKept p s.queues) :
    QueuesKept p (s.raiseLift l r).queues := raise_queuesKept r.mask l.isLt h

theorem raiseStation_queuesKept (r : StationReason) (h : QueuesKept p s.queues) :
    QueuesKept p (s.raiseStation r).queues := raise_queuesKept r.mask (Nat.zero_le _) h

/-! ### Rescue states, queue, plans -/

@[simp] theorem leaveQueue_queues (s : State) (l : Lift) : (s.leaveQueue l).queues = s.queues := by
  unfold State.leaveQueue
  split <;> rfl

theorem enter_queuesKept (l : Lift) (st : RescueState) (h : QueuesKept p s.queues) :
    QueuesKept p (s.enter l st).queues := by
  unfold State.enter
  split
  · exact h
  · exact raiseLift_queuesKept l _ h

theorem writePlan_queuesKept (l : Lift) (now : TimeTag) (plan : Plan) (h : QueuesKept p s.queues) :
    QueuesKept p (s.writePlan l now plan).queues := by
  obtain ⟨u, rfl, e | e⟩ := writePlan_cases s l now plan <;> rw [e]
  · exact h
  · exact raiseLift_queuesKept l _ h

theorem runPlanner_queuesKept (l : Lift) (now : TimeTag) (h : QueuesKept p s.queues) :
    QueuesKept p (s.runPlanner l now).queues := writePlan_queuesKept l now _ h

theorem enterNormal_queuesKept (l : Lift) (h : QueuesKept p s.queues) : QueuesKept p (s.enterNormal l).queues :=
  enter_queuesKept l _ ((leaveQueue_queues s l).symm ▸ h)

theorem enterManual_queuesKept (l : Lift) (why : ManualReason) (h : QueuesKept p s.queues) :
    QueuesKept p (s.enterManual l why).queues :=
  enter_queuesKept l _ ((leaveQueue_queues s l).symm ▸ h)

theorem enterQueued_queuesKept (l : Lift) (now : TimeTag) (h : QueuesKept p s.queues) :
    QueuesKept p (s.enterQueued l now).queues :=
  enter_queuesKept (s := s.modLift l _) l .queued h

theorem planStalled_queuesKept (l : Lift) (now : TimeTag) (h : QueuesKept p s.queues) :
    QueuesKept p (s.planStalled l now).queues := by
  have hp := runPlanner_queuesKept l now h
  unfold State.planStalled
  dsimp only
  split
  · exact hp
  · split
    · exact enterQueued_queuesKept l now hp
    · exact enterManual_queuesKept l _ hp

theorem evaluateStalled_queuesKept (l : Lift) (now : TimeTag) (h : QueuesKept p s.queues) :
    QueuesKept p (s.evaluateStalled l now).queues := by
  unfold State.evaluateStalled
  split
  · split
    · exact enterNormal_queuesKept l h
    · split
      · exact enterManual_queuesKept l _ h
      · exact planStalled_queuesKept l now h
  · exact planStalled_queuesKept l now h

theorem enterStalled_queuesKept (l : Lift) (now : TimeTag) (h : QueuesKept p s.queues) :
    QueuesKept p (s.enterStalled l now).queues := evaluateStalled_queuesKept l now (enter_queuesKept l _ h)

theorem replanQueued_queuesKept (l : Lift) (now : TimeTag) (h : QueuesKept p s.queues) :
    QueuesKept p (s.replanQueued l now).queues := by
  have hp := runPlanner_queuesKept l now h
  unfold State.replanQueued
  dsimp only
  split
  · exact enterManual_queuesKept l _ hp
  · split
    · exact hp
    · exact hp

theorem enterReleased_queuesKept (l : Lift) (h : QueuesKept p s.queues) : QueuesKept p (s.enterReleased l).queues := by
  have he : QueuesKept p ((s.modLift l fun c => { c with rescue := none }).enter l .released).queues :=
    enter_queuesKept l _ h
  unfold State.enterReleased
  dsimp only
  split
  · exact raiseLift_queuesKept l _ he
  · exact he

/-! ### Executions -/

@[simp] theorem post_queues (s : State) (l : Lift) (k : OrderKind) (poster : Poster) (n : Nat) :
    (s.post l k poster n).1.queues = s.queues := by
  unfold State.post
  split
  · split <;> rfl
  · rfl

theorem post_queuesKept (l : Lift) (k : OrderKind) (poster : Poster) (n : Nat) (h : QueuesKept p s.queues) :
    QueuesKept p (s.post l k poster n).1.queues := (post_queues s l k poster n).symm ▸ h

@[simp] theorem releaseCreep_queues (s : State) (l : Lift) : (s.releaseCreep l).queues = s.queues := by
  unfold State.releaseCreep
  split
  · split <;> rfl
  · rfl

@[simp] theorem dropExecution_queues (s : State) (l : Lift) : (s.dropExecution l).queues = s.queues := by
  unfold State.dropExecution
  split
  · dsimp only
    split <;> rfl
  · rfl

@[simp] theorem withdrawOwn_queues (s : State) (l : Lift) : (s.withdrawOwn l).queues = s.queues := by
  rcases withdrawOwn_cases s l with e | e <;> rw [e]
  rfl

theorem endRetry_queuesKept (l : Lift) (now : TimeTag) (h : QueuesKept p s.queues) :
    QueuesKept p (s.endRetry l now).queues := by
  unfold State.endRetry
  split
  · exact enterStalled_queuesKept l now h
  · exact enterManual_queuesKept l _ h

theorem endAs_queuesKept (l : Lift) (why : Ending) (aborted : Bool) (now : TimeTag) (h : QueuesKept p s.queues) :
    QueuesKept p (s.endAs l why aborted now).queues := by
  unfold State.endAs
  cases why with
  | reached outcome =>
    cases aborted
    · cases outcome
      · exact enterReleased_queuesKept l h
      · exact endRetry_queuesKept l now h
      · exact enterManual_queuesKept l _ h
    · exact enterManual_queuesKept l _ h
  | stepLimit => exact enterManual_queuesKept l _ h
  | safety => exact enterManual_queuesKept (s := s.postPartStop l) l _ h
  | lostContact => exact enterManual_queuesKept (s := s.setSlot l none) l _ h

theorem endExecution_queuesKept (l : Lift) (why : Ending) (now : TimeTag) (h : QueuesKept p s.queues) :
    QueuesKept p (s.endExecution l why now).queues := by
  rw [endExecution_eq]
  exact endAs_queuesKept (s := s.dropExecution l) l why _ now (by rwa [dropExecution_queues])

theorem closeStep_queuesKept (l : Lift) (sr : StepRecord) (ok : Bool) (h : QueuesKept p s.queues) :
    QueuesKept p (s.closeStep l sr ok).queues := by
  unfold State.closeStep
  extract_lets a b c
  have ha : a.queues = s.queues := by
    unfold a
    split
    · exact withdrawOwn_queues s l
    · rfl
  have hb : b.queues = a.queues := by
    unfold b
    split
    · exact releaseCreep_queues a l
    · rfl
  have hs : QueuesKept p b.queues := by rwa [hb, ha]
  show QueuesKept p c.queues
  unfold c
  split
  · exact raiseLift_queuesKept l _ hs
  · exact hs

theorem leaveStep_queuesKept (l : Lift) (sr : StepRecord) (ok : Bool) (h : QueuesKept p s.queues) :
    QueuesKept p (s.leaveStep l sr ok).1.queues := by
  have hc := closeStep_queuesKept l sr ok h
  unfold State.leaveStep
  extract_lets deferred u
  split
  · exact hc
  · exact hc

theorem enterOrder_queuesKept (l : Lift) (sr : StepRecord) (k : StepOrder) (m : Nat) (h : QueuesKept p s.queues) :
    QueuesKept p (s.enterOrder l sr k m).1.queues := by
  unfold State.enterOrder
  split
  · exact leaveStep_queuesKept l sr false h
  · dsimp only
    split
    · exact post_queuesKept l _ _ _ h
    · exact leaveStep_queuesKept l sr false (post_queuesKept l _ _ _ h)

theorem startCreep_queuesKept (l : Lift) (sr : StepRecord) (start : CreepStart) (h : QueuesKept p s.queues) :
    QueuesKept p (s.startCreep l sr start).1.queues := by
  have hleave : ∀ {u : State} ok, QueuesKept p u.queues → QueuesKept p (u.leavesEntry l sr ok).1.queues :=
    fun ok hu => leaveStep_queuesKept l sr ok hu
  unfold State.startCreep
  cases start with
  | fail => exact hleave _ h
  | done => exact hleave _ h
  | go dir landing =>
    dsimp only
    split
    · exact post_queuesKept l _ _ _ h
    · exact hleave _ (post_queuesKept l _ _ _ h)

theorem enterCreep_queuesKept (l : Lift) (sr : StepRecord) (now : TimeTag) (h : QueuesKept p s.queues) :
    QueuesKept p (s.enterCreep l sr now).1.queues := by
  rw [enterCreep_eq]
  exact startCreep_queuesKept l sr _ (runPlanner_queuesKept (s := { s with scan := _ }) l now h)

theorem enterCall_queuesKept (l : Lift) (sr : StepRecord) (r : RescueRecord) (t : Nat) (h : QueuesKept p s.queues) :
    QueuesKept p (s.enterCall l sr r t).1.queues := by
  unfold State.enterCall
  split
  · exact closeStep_queuesKept (s := s.modRescue l _) l sr true h
  · exact closeStep_queuesKept l sr false h

theorem enterReturn_queuesKept (l : Lift) (sr : StepRecord) (r : RescueRecord) (h : QueuesKept p s.queues) :
    QueuesKept p (s.enterReturn l sr r).1.queues := by
  unfold State.enterReturn
  split
  · exact closeStep_queuesKept (s := s.modRescue l _) l sr true h
  · exact closeStep_queuesKept l sr false h

theorem enterOnce_queuesKept (l : Lift) (i : Nat) (now : TimeTag) (h : QueuesKept p s.queues) :
    QueuesKept p (s.enterOnce l i now).1.queues := by
  unfold State.enterOnce
  split
  · exact h
  · split
    · exact endExecution_queuesKept l .stepLimit now h
    · extract_lets sr r' a
      have ha : QueuesKept p a.queues := h
      clear_value a
      split
      · exact ha
      · exact ha
      · exact enterOrder_queuesKept l sr _ _ ha
      · exact enterCreep_queuesKept l sr now ha
      · exact enterCall_queuesKept l sr r' _ ha
      · exact enterReturn_queuesKept l sr r' ha
      · exact endExecution_queuesKept l (.reached _) now ha

theorem runEntries_queuesKept (n : Nat) (l : Lift) (i : Nat) (now : TimeTag) (h : QueuesKept p s.queues) :
    QueuesKept p (State.runEntries n s l i now).queues := by
  induction n generalizing s i with
  | zero => exact h
  | succ n ih =>
    have he := enterOnce_queuesKept l i now h
    unfold State.runEntries
    split
    next e =>
      rw [e] at he
      exact he
    next e =>
      rw [e] at he
      exact ih _ he

theorem startStep_queuesKept (l : Lift) (i : Nat) (now : TimeTag) (h : QueuesKept p s.queues) :
    QueuesKept p (s.startStep l i now).queues := runEntries_queuesKept _ l i now h

theorem endStep_queuesKept (l : Lift) (ok : Bool) (now : TimeTag) (h : QueuesKept p s.queues) :
    QueuesKept p (s.endStep l ok now).queues := by
  unfold State.endStep
  split
  · exact startStep_queuesKept l _ now (leaveStep_queuesKept l _ ok h)
  · exact h

theorem renewCreep_queuesKept (l : Lift) (now : TimeTag) (h : QueuesKept p s.queues) :
    QueuesKept p (s.renewCreep l now).queues := by
  unfold State.renewCreep
  split
  · dsimp only
    split
    · exact post_queuesKept l _ _ _ h
    · exact endStep_queuesKept l false now (post_queuesKept l _ _ _ h)
  · exact h

theorem orderLanding_queuesKept (l : Lift) (i : Nat) (now : TimeTag) (h : QueuesKept p s.queues) :
    QueuesKept p (s.orderLanding l i now).queues := renewCreep_queuesKept (s := s.modCreep l _) l now h

theorem creepReport_queuesKept (l : Lift) (r : Report) (now : TimeTag) (h : QueuesKept p s.queues) :
    QueuesKept p (s.creepReport l r now).queues := by
  unfold State.creepReport
  split
  · exact h
  · split
    · exact endStep_queuesKept l _ now h
    · extract_lets progress a inMarker
      have ha : QueuesKept p a.queues := h
      clear_value a inMarker
      split
      · split
        · exact orderLanding_queuesKept l _ now ha
        · exact ha
      · exact ha

theorem stepReport_queuesKept (l : Lift) (r : Report) (now : TimeTag) (h : QueuesKept p s.queues) :
    QueuesKept p (s.stepReport l r now).queues := by
  unfold State.stepReport
  split
  · exact h
  · split
    · extract_lets repeats a
      have ha : QueuesKept p a.queues := h
      clear_value a
      split
      · exact endStep_queuesKept l true now ha
      · exact ha
    · exact creepReport_queuesKept l r now h
    · exact h

theorem replanRescuing_queuesKept (l : Lift) (now : TimeTag) (h : QueuesKept p s.queues) :
    QueuesKept p (s.replanRescuing l now).queues := by
  unfold State.replanRescuing
  split
  next plan rr _ _ _ =>
    extract_lets targetUsable a within
    have ha : QueuesKept p a.queues := writePlan_queuesKept l now _ h
    clear_value a within
    split
    · exact h
    · split
      · exact orderLanding_queuesKept l _ now ha
      · split
        · exact orderLanding_queuesKept l _ now ha
        · exact endStep_queuesKept l false now ha
  · exact h

theorem deliver_queuesKept (l : Lift) (poster : Poster) (ok : Bool) (now : TimeTag) (h : QueuesKept p s.queues) :
    QueuesKept p (s.deliver l poster ok now).queues := by
  unfold State.deliver
  split
  · exact h
  · split
    · split
      · exact endStep_queuesKept l ok now h
      · split
        · exact h
        · exact endStep_queuesKept l false now h
      · exact h
    · exact h

theorem expireStep_queuesKept (l : Lift) (now : TimeTag) (h : QueuesKept p s.queues) :
    QueuesKept p (s.expireStep l now).queues := by
  unfold State.expireStep
  split
  · split
    · exact endStep_queuesKept l _ now h
    · exact h
  · exact h

theorem abortNow_queuesKept (l : Lift) (now : TimeTag) (h : QueuesKept p s.queues) :
    QueuesKept p (s.abortNow l now).queues := by
  unfold State.abortNow
  extract_lets a b c
  have hb : QueuesKept p b.queues := by
    unfold b
    split
    · exact (releaseCreep_queues a l).symm ▸ h
    · exact h
  exact startStep_queuesKept (s := c) l _ now hb

theorem abortExecution_queuesKept (l : Lift) (now : TimeTag) (h : QueuesKept p s.queues) :
    QueuesKept p (s.abortExecution l now).queues := by
  unfold State.abortExecution
  split
  · exact h
  · split
    · exact h
    · split
      · split
        · exact orderLanding_queuesKept (s := (s.modRescue l _).modCreep l _) l _ now h
        · exact abortNow_queuesKept l now h
      · exact abortNow_queuesKept l now h

/-! ### Admission -/

@[simp] theorem foldl_raiseBypass_queues (passed : List Lift) (s : State) :
    (passed.foldl State.raiseBypass s).queues = s.queues := by
  induction passed generalizing s with
  | nil => rfl
  | cons l ls ih => exact ih (s.raiseBypass l)

theorem beginRescue_queuesKept (l : Lift) (passed : List Lift) (h : QueuesKept p s.queues) :
    QueuesKept p (s.beginRescue l passed).queues :=
  enter_queuesKept (s := { State.modLift _ l _ with outstanding := _ }) l .rescuing
    ((foldl_raiseBypass_queues passed (s.dequeue l)).symm ▸ h)

theorem walks_queuesKept (n : Nat) (now : TimeTag) (h : QueuesKept p s.queues) :
    QueuesKept p (State.walks n s now).queues := by
  induction n generalizing s with
  | zero => exact h
  | succ n ih =>
    unfold State.walks
    split
    · split
      · exact ih (startStep_queuesKept _ _ now (beginRescue_queuesKept _ _ h))
      · exact h
    · exact h

theorem evaluateAdmission_queuesKept (now : TimeTag) (h : QueuesKept p s.queues) :
    QueuesKept p (s.evaluateAdmission now).queues := walks_queuesKept _ now h

theorem settle_queuesKept (now : TimeTag) (h : QueuesKept p s.queues) : QueuesKept p (s.settle now).queues := by
  unfold State.settle
  split
  · exact evaluateAdmission_queuesKept now h
  · exact h

/-! ### Reports, unanswered polls, hazards -/

theorem debounce_queuesKept (l : Lift) (n : Nat) (now : TimeTag) (h : QueuesKept p s.queues) :
    QueuesKept p (s.debounce l n now).queues := by
  unfold State.debounce
  dsimp only
  split
  · exact enterStalled_queuesKept (s := (s.modLift l _).modLift l _) l now h
  · exact enter_queuesKept (s := s.modLift l _) l .suspect h

theorem reportNormal_queuesKept (l : Lift) (v : Verdict) (now : TimeTag) (h : QueuesKept p s.queues) :
    QueuesKept p (s.reportNormal l v now).queues := by
  unfold State.reportNormal
  split
  · exact debounce_queuesKept l _ now h
  · exact h

theorem reportSuspect_queuesKept (l : Lift) (v : Verdict) (now : TimeTag) (h : QueuesKept p s.queues) :
    QueuesKept p (s.reportSuspect l v now).queues := by
  unfold State.reportSuspect
  split
  · exact debounce_queuesKept l _ now h
  · exact enterNormal_queuesKept l h

theorem reportQueued_queuesKept (l : Lift) (v : Verdict) (now : TimeTag) (h : QueuesKept p s.queues) :
    QueuesKept p (s.reportQueued l v now).queues := by
  unfold State.reportQueued
  split
  · exact enterNormal_queuesKept l h
  · split
    · exact enterManual_queuesKept l _ h
    · exact replanQueued_queuesKept l now h

theorem reportRescuing_queuesKept (l : Lift) (v : Verdict) (r : Report) (now : TimeTag) (h : QueuesKept p s.queues) :
    QueuesKept p (s.reportRescuing l v r now).queues := by
  unfold State.reportRescuing
  split
  · exact endExecution_queuesKept l .safety now h
  · exact stepReport_queuesKept l r now h

theorem reportReleased_queuesKept (l : Lift) (v : Verdict) (r : Report) (before : Option Nat)
    (h : QueuesKept p s.queues) : QueuesKept p (s.reportReleased l v r before).queues := by
  unfold State.reportReleased
  extract_lets a
  have ha : QueuesKept p a.queues := by
    unfold a
    split
    · exact raiseLift_queuesKept l _ h
    · exact h
  split
  · exact enterNormal_queuesKept l ha
  · exact ha

theorem reportManual_queuesKept (l : Lift) (v : Verdict) (r : Report) (h : QueuesKept p s.queues) :
    QueuesKept p (s.reportManual l v r).queues := by
  unfold State.reportManual
  split
  · exact enterNormal_queuesKept l h
  · exact h

theorem reportOffline_queuesKept (l : Lift) (v : Verdict) (r : Report) (before : Option Nat) (now : TimeTag)
    (h : QueuesKept p s.queues) : QueuesKept p (s.reportOffline l v r before now).queues := by
  unfold State.reportOffline
  extract_lets was a
  have ha : QueuesKept p a.queues := h
  have hnormal := reportNormal_queuesKept l v now (enterNormal_queuesKept l ha)
  have hstalled := enterStalled_queuesKept l now ha
  clear_value was a
  split
  · exact reportManual_queuesKept l v r (enter_queuesKept l _ ha)
  · exact reportReleased_queuesKept l v r before (enter_queuesKept l _ ha)
  · split
    · exact hstalled
    · exact hnormal
  · split
    · exact hstalled
    · exact hnormal
  · exact hnormal

theorem reportByState_queuesKept (l : Lift) (v : Verdict) (r : Report) (before : Option Nat) (now : TimeTag)
    (h : QueuesKept p s.queues) : QueuesKept p (s.reportByState l v r before now).queues := by
  unfold State.reportByState
  split
  · exact h
  · exact reportNormal_queuesKept l v now h
  · exact reportSuspect_queuesKept l v now h
  · exact evaluateStalled_queuesKept l now h
  · exact reportQueued_queuesKept l v now h
  · exact reportRescuing_queuesKept l v r now h
  · exact reportReleased_queuesKept l v r before h
  · exact reportManual_queuesKept l v r h
  · exact reportOffline_queuesKept l v r before now h

theorem unansweredPoll_queuesKept (l : Lift) (now : TimeTag) (h : QueuesKept p s.queues) :
    QueuesKept p (s.unansweredPoll l now).queues := by
  unfold State.unansweredPoll
  split
  · exact h
  · extract_lets a
    have ha : QueuesKept p a.queues := h
    split
    · exact ha
    · split
      · exact endExecution_queuesKept l .lostContact now ha
      · exact ha
      · exact ha
      · exact enter_queuesKept (s := (a.leaveQueue l).modLift l _) l .offline ((leaveQueue_queues a l).symm ▸ ha)

theorem hazardReplan_queuesKept (changed : BitVec 32) (now : TimeTag) (l : Lift) (h : QueuesKept p s.queues) :
    QueuesKept p (s.hazardReplan changed now l).queues := by
  unfold State.hazardReplan
  split
  · split
    · exact evaluateStalled_queuesKept l now h
    · exact replanQueued_queuesKept l now h
    · exact replanRescuing_queuesKept l now h
    · exact h
  · exact h

/-- A fold of operations that keep the queues keeps them. -/
theorem foldl_queuesKept {α : Type} {f : State → α → State}
    (hf : ∀ {s : State} a, QueuesKept p s.queues → QueuesKept p (f s a).queues) (xs : List α)
    (h : QueuesKept p s.queues) : QueuesKept p (xs.foldl f s).queues := by
  induction xs generalizing s with
  | nil => exact h
  | cons x xs ih => exact ih (hf x h)

theorem takeHazard_queuesKept (payload : List Word) (now : TimeTag) (h : QueuesKept p s.queues) :
    QueuesKept p (s.takeHazard payload now).queues := by
  unfold State.takeHazard
  extract_lets zones changed a b
  have ha : QueuesKept p a.queues := h
  have hb : QueuesKept p b.queues :=
    foldl_queuesKept (f := fun s l => s.hazardReplan changed now l) (hazardReplan_queuesKept changed now) allLifts ha
  clear_value b
  split
  · exact hb
  · exact hb

end Sys2Proof.Machine
end

section
/-! The queues of the station link and the pass-through queue under arrivals, transmissions and report copies, and under
what the ring brings (R113, R129, R130, R146, R152, R153). -/

namespace Sys2Proof.Machine

open Slice0

variable {p : Queues} {s : State}

/-! ### The station link (R146, R152, R153) -/

/-- A list whose first element is taken off. -/
theorem listed_tail {q : Queues} {e : NoticeEntry} {es : List NoticeEntry} (hq : q.notices = e :: es) (h : q.Listed) :
    { q with notices := es }.Listed := by
  obtain ⟨hnodup, hnumbers⟩ := h
  rw [hq] at hnodup hnumbers
  exact ⟨(List.nodup_cons.mp hnodup).2, fun x hx => hnumbers x (List.mem_cons_of_mem e hx)⟩

/-- A frame that goes out leaves its source one shorter. -/
theorem transmit_queuesKept (h : QueuesKept p s.queues) : QueuesKept p s.transmit.queues := by
  refine h.trans ?_
  rcases transmit_cases s with ⟨-, e⟩ | ⟨-, -, e⟩ | ⟨f, port, -, hport, e⟩ <;> rw [e]
  · exact .refl _
  · exact .refl _
  · rcases nextUpward_cases s with ⟨g, gs, hq, hn⟩ | ⟨g, gs, -, hq, hn⟩ | ⟨g, gs, -, -, -, hq, hn⟩
      | ⟨g, gs, -, -, -, hq, hn⟩ | ⟨-, -, -, -, hn⟩ <;> rw [hport] at hn <;> cases hn
    · exact { QueuesKept.refl s.queues with mgmtReplies := by simp [State.queues, hq] }
    · exact { QueuesKept.refl s.queues with
        cmdReplies := fun hp => by simp only [State.queues, hq, List.length_cons] at hp ⊢; omega }
    · exact { QueuesKept.refl s.queues with listed := listed_tail hq }
    · exact { QueuesKept.refl s.queues with
        copies := fun hp => by simp only [State.queues, hq, List.length_cons] at hp ⊢; omega }

theorem finish_queuesKept (now : TimeTag) (h : QueuesKept p s.queues) : QueuesKept p (s.finish now).queues :=
  transmit_queuesKept (settle_queuesKept now h)

theorem commandReply_queuesKept (f : Frame) (h : QueuesKept p s.queues) : QueuesKept p (s.commandReply f).queues := by
  rcases commandReply_cases s f with ⟨hroom, e⟩ | ⟨-, e⟩ <;> rw [e]
  · exact { h with cmdReplies := fun _ => by simpa [State.queues] using hroom }
  · exact h

theorem makeReply_queuesKept (d : BitVec 6) (st : CommandStatus) (h : QueuesKept p s.queues) :
    QueuesKept p (s.makeReply d st).queues := commandReply_queuesKept _ h

theorem takeRemote_queuesKept (c : RemoteCommand) (h : QueuesKept p s.queues) :
    QueuesKept p (s.takeRemote c).queues := by
  rcases takeRemote_cases s c with ⟨-, e⟩ | ⟨-, e⟩ | ⟨-, e⟩ | ⟨hroom, e⟩ <;> rw [e]
  · exact makeReply_queuesKept _ _ h
  · exact makeReply_queuesKept _ _ h
  · exact makeReply_queuesKept _ _ h
  · exact { h with passQueue := fun _ => by simpa [State.queues] using hroom }

theorem offerCopy_queuesKept (l : Lift) (payload : List Word) (r : Report) (h : QueuesKept p s.queues) :
    QueuesKept p (s.offerCopy l payload r).queues := by
  unfold State.offerCopy
  split
  · exact h
  · split
    · exact h
    · split
      next hroom => exact { h with copies := fun _ => by simpa [State.queues, State.setLastCopy] using hroom }
      · exact h

theorem expireSilence_queuesKept (now : TimeTag) (h : QueuesKept p s.queues) :
    QueuesKept p (s.expireSilence now).queues := by
  unfold State.expireSilence
  split
  · exact { h with copies := fun _ => Nat.zero_le _ }
  · exact h

theorem takeReport_queuesKept (l : Lift) (src : Nat) (payload : List Word) (r : Report) (now : TimeTag)
    (h : QueuesKept p s.queues) : QueuesKept p (s.takeReport l src payload r now).queues := by
  unfold State.takeReport
  split
  · exact h
  · exact settle_queuesKept now (reportByState_queuesKept (s := State.storeReport _ l r now) l _ r _ now
      (transmit_queuesKept (offerCopy_queuesKept l payload r h)))

/-! ### Descriptors (R130, R142, R147) -/

/-- What is left of a queue judged again is a part of it. -/
theorem rejudge_queuesKept {q : List RemoteCommand} (hq : q.length ≤ s.orders.passQueue.length)
    (h : QueuesKept p s.queues) : QueuesKept p (s.rejudge q).1.queues := by
  induction q generalizing s with
  | nil => exact { h with passQueue := fun _ => Nat.zero_le _ }
  | cons c cs ih =>
    have hcs : cs.length ≤ s.orders.passQueue.length := (Nat.le_succ _).trans hq
    unfold State.rejudge
    split
    · refine ih ?_ (makeReply_queuesKept _ _ h)
      unfold State.makeReply State.commandReply
      split <;> exact hcs
    · exact { h with passQueue := fun hp => hcs.trans (h.passQueue hp) }

@[simp] theorem markSent_queues (s : State) (l : Lift) (o : Order) : (s.markSent l o).queues = s.queues := by
  unfold State.markSent
  dsimp only
  split <;> split <;> rfl

theorem takeSlot_queuesKept (d : Descriptor) (now : TimeTag) (h : QueuesKept p s.queues) :
    QueuesKept p (s.takeSlot d now).1.queues := by
  unfold State.takeSlot
  split
  · split
    · show QueuesKept p (s.markSent _ _).queues
      rwa [markSent_queues]
    · exact h
  · have hq := rejudge_queuesKept (q := s.orders.passQueue) le_rfl h
    split
    next e =>
      rw [e] at hq
      exact hq
    next e =>
      rw [e] at hq
      exact hq

theorem takeDescriptor_queuesKept (d : Descriptor) (now : TimeTag) (h : QueuesKept p s.queues) :
    QueuesKept p (s.takeDescriptor d now).1.queues := by
  unfold State.takeDescriptor
  cases d.kind with
  | pause =>
    dsimp only
    split
    · exact h
    · exact h
  | pollLift =>
    dsimp only
    split
    · exact h
    · exact h
  | pollPower => exact h
  | pollHazard => exact h
  | orderSlot => exact takeSlot_queuesKept d now h

theorem takeFrom_queuesKept (ds : List Descriptor) (i : Nat) (now : TimeTag) (h : QueuesKept p s.queues) :
    QueuesKept p (s.takeFrom ds i now).1.queues := by
  induction ds generalizing s i with
  | nil => exact h
  | cons d ds ih =>
    have hd := takeDescriptor_queuesKept (s := { s with scan := { s.scan with current := some i } }) d now h
    unfold State.takeFrom
    split
    next e =>
      rw [e] at hd
      exact ih _ hd
    next e =>
      rw [e] at hd
      exact hd

/-! ### The scan cycle (R129, R130, R135) -/

theorem swapScan_queuesKept (h : QueuesKept p s.queues) : QueuesKept p s.swapScan.queues :=
  raiseStation_queuesKept (s := { s with scan := _ }) .bankSwapped h

theorem endCycle_queuesKept (now : TimeTag) (h : QueuesKept p s.queues) : QueuesKept p (s.endCycle now).queues := by
  unfold State.endCycle
  extract_lets a e b
  have ha : QueuesKept p a.queues := by
    unfold a
    split
    · exact swapScan_queuesKept h
    · exact h
  split
  · exact raiseStation_queuesKept (s := b) .cycleSlow ha
  · exact ha

theorem openCycle_queuesKept (now : TimeTag) (h : QueuesKept p s.queues) : QueuesKept p (s.openCycle now).queues := by
  unfold State.openCycle
  extract_lets e a
  have ha : QueuesKept p a.setProbes.queues := h
  clear_value a
  refine settle_queuesKept now (foldl_queuesKept (fun {u} l hu => ?_) allLifts ha)
  split
  · exact renewCreep_queuesKept l now hu
  · exact hu

theorem startCycle_queuesKept (now : TimeTag) (h : QueuesKept p s.queues) : QueuesKept p (s.startCycle now).queues := by
  have ho := openCycle_queuesKept now h
  unfold State.startCycle
  extract_lets a
  have ht := takeFrom_queuesKept (s := a) (a.scan.bank a.scan.active).descriptors 0 now ho
  split
  next e =>
    rw [e] at ht
    exact endCycle_queuesKept now ht
  next e =>
    rw [e] at ht
    exact ht

theorem advance_queuesKept (i : Nat) (now : TimeTag) (h : QueuesKept p s.queues) :
    QueuesKept p (s.advance i now).queues := by
  have ht := takeFrom_queuesKept ((s.scan.bank s.scan.active).descriptors.drop i) i now h
  unfold State.advance
  split
  next e =>
    rw [e] at ht
    have he := endCycle_queuesKept now ht
    dsimp only
    split
    · exact startCycle_queuesKept now he
    · exact he
  next e =>
    rw [e] at ht
    exact ht

theorem endWork_queuesKept (start : TimeTag) (gap : Nat) (now : TimeTag) (h : QueuesKept p s.queues) :
    QueuesKept p (s.endWork start gap now).queues := by
  unfold State.endWork
  split
  · exact advance_queuesKept _ now h
  · exact h

theorem expireGap_queuesKept (now : TimeTag) (h : QueuesKept p s.queues) : QueuesKept p (s.expireGap now).queues := by
  unfold State.expireGap
  split
  · split
    · exact advance_queuesKept _ now h
    · exact h
  · exact h

theorem expireCycle_queuesKept (now : TimeTag) (h : QueuesKept p s.queues) :
    QueuesKept p (s.expireCycle now).queues := by
  unfold State.expireCycle
  split
  · split
    · exact startCycle_queuesKept now h
    · exact h
  · exact h

/-! ### What an exchange brings (R113, R115, R131, R134) -/

theorem takePower_queuesKept (payload : List Word) (now : TimeTag) (h : QueuesKept p s.queues) :
    QueuesKept p (s.takePower payload now).queues := by
  unfold State.takePower
  dsimp only
  split
  · exact raiseStation_queuesKept .reservoirLow h
  · exact h

theorem useSend_queuesKept (l : Lift) (o : Order) (now : TimeTag) (h : QueuesKept p s.queues) :
    QueuesKept p (s.useSend l o now).queues := by
  unfold State.useSend
  split
  · exact deliver_queuesKept (s := s.setSlot l none) l _ false now h
  · exact h

theorem orderOutcome_queuesKept (l : Lift) (tag : BitVec 4) (out : EchoOutcome) (now : TimeTag)
    (h : QueuesKept p s.queues) : QueuesKept p (s.orderOutcome l tag out now).queues := by
  unfold State.orderOutcome
  split
  · split
    · cases out with
      | echo t refused =>
        dsimp only
        split
        · exact deliver_queuesKept (s := s.setSlot l none) l _ _ now h
        · exact useSend_queuesKept l _ now h
      | silent => exact useSend_queuesKept l _ now h
    · exact h
  · exact h

theorem liftReply_queuesKept (d : Descriptor) (r : Reply) (now : TimeTag) (h : QueuesKept p s.queues) :
    QueuesKept p (s.liftReply d r now).1.queues := by
  unfold State.liftReply
  split
  · dsimp only
    split
    · exact h
    · exact takeReport_queuesKept _ _ _ _ now h
  · exact h

theorem jobReply_queuesKept (job : Job) (r : Reply) (now : TimeTag) (h : QueuesKept p s.queues) :
    QueuesKept p (s.jobReply job r now).1.queues := by
  unfold State.jobReply
  cases job with
  | poll d asked left =>
    dsimp only
    split
    · refine settle_queuesKept now ?_
      split
      · exact takePower_queuesKept _ now h
      · exact h
    · refine settle_queuesKept now ?_
      split
      · exact takeHazard_queuesKept _ now h
      · exact h
    · exact liftReply_queuesKept d r now h
  | confirm d first =>
    dsimp only
    split
    · exact takeReport_queuesKept _ _ _ _ now h
    · exact h
  | abandoned => exact h
  | order l tag => exact settle_queuesKept now (orderOutcome_queuesKept l tag _ now h)
  | command node => exact commandReply_queuesKept _ h

theorem pollMissed_queuesKept (d : Descriptor) (asked : Lane) (left : Nat) (now : TimeTag) (h : QueuesKept p s.queues) :
    QueuesKept p (s.pollMissed d asked left now).1.queues := by
  unfold State.pollMissed
  split
  · exact h
  · cases left with
    | succ n => exact h
    | zero =>
      dsimp only
      split
      · exact settle_queuesKept now (unansweredPoll_queuesKept _ now h)
      · exact h

theorem jobMissed_queuesKept (job : Job) (now : TimeTag) (h : QueuesKept p s.queues) :
    QueuesKept p (s.jobMissed job now).1.queues := by
  unfold State.jobMissed
  cases job with
  | poll d asked left => exact pollMissed_queuesKept d asked left now h
  | confirm d first =>
    dsimp only
    split
    · exact takeReport_queuesKept _ _ _ _ _ h
    · exact h
  | abandoned => exact h
  | order l tag => exact settle_queuesKept now (orderOutcome_queuesKept l tag .silent now h)
  | command node => exact makeReply_queuesKept node .noAnswer h

theorem closeExchange_queuesKept (x : Exchange) (valid : Bool) (h : QueuesKept p s.queues) :
    QueuesKept p (s.closeExchange x valid).queues := by
  have hset : ∀ r, QueuesKept p (s.setLaneRecord x.lane r).queues := fun r => by cases x.lane <;> exact h
  show QueuesKept p (s.updateLane x.lane valid).queues
  rw [updateLane_eq s x.lane valid rfl rfl rfl]
  split
  · exact hset _
  · exact raiseStation_queuesKept _ (hset _)

theorem goOn_queuesKept (g : GoingOn) (start : TimeTag) (gap : Nat) (now : TimeTag) (h : QueuesKept p s.queues) :
    QueuesKept p (s.goOn g start gap now).queues := by
  cases g with
  | ended => exact endWork_queuesKept start gap now h
  | retry d asked n => exact h
  | confirm d first lane => exact h

theorem endExchange_queuesKept (x : Exchange) (valid : Bool) {k : State → Job → State × GoingOn} (now : TimeTag)
    (hk : ∀ job, QueuesKept p (k s job).1.queues) (h : QueuesKept p s.queues) :
    QueuesKept p (s.endExchange x valid k now).queues := by
  unfold State.endExchange
  split
  · exact closeExchange_queuesKept x valid h
  · split
    · exact goOn_queuesKept _ _ _ now (closeExchange_queuesKept x valid (hk _))
    · exact closeExchange_queuesKept x valid h

theorem ringFrame_queuesKept (kind : ReplyKind) (r : Reply) (now : TimeTag) (h : QueuesKept p s.queues) :
    QueuesKept p (s.ringFrame kind r now).queues := by
  unfold State.ringFrame
  split
  · split
    · exact endExchange_queuesKept _ true now (fun job => jobReply_queuesKept job r now h) h
    · exact h
  · exact h

theorem closeWindow_queuesKept (now : TimeTag) (h : QueuesKept p s.queues) :
    QueuesKept p (s.closeWindow now).queues := by
  unfold State.closeWindow
  split
  · split
    · exact endExchange_queuesKept _ false now (fun job => jobMissed_queuesKept job now h) h
    · exact h
  · exact h

@[simp] theorem sendEnd_queues (s : State) (now : TimeTag) : (s.sendEnd now).queues = s.queues := by
  unfold State.sendEnd
  split
  · split <;> rfl
  · rfl

theorem expirePower_queuesKept (now : TimeTag) (h : QueuesKept p s.queues) :
    QueuesKept p (s.expirePower now).queues := by
  unfold State.expirePower
  split
  · exact raiseStation_queuesKept (s := { s with reservoir := _ }) .powerStale h
  · exact h

end Sys2Proof.Machine
end

section
/-! Every step keeps the bounds of the queues and the notice list: management requests, and whole commands (R150,
R154). -/

namespace Sys2Proof.Machine

open Slice0

variable {p : Queues} {s : State}

/-! ### Writes, swaps and lift control -/

/-- Entry into service and departure from it raise STATE; no other accepted write raises a notice (R3, R7, R8). -/
theorem storeLift_queuesKept (l : Lift) (e : LiftEntry) (h : QueuesKept p s.queues) :
    QueuesKept p (s.storeLift l e).queues := by
  have hstate : ∀ c, QueuesKept p (raised (s.setLift l c) (l.val + 1) 1).queues := fun c =>
    raise_queuesKept (s := s.setLift l c) 1 l.isLt h
  by_cases hs : (s.lift l).state = .excluded <;> cases he : e.inService
  · rw [storeLift_stays_out s l e hs he]
    exact h
  · rw [storeLift_enters s l e hs he]
    exact hstate _
  · rw [storeLift_leaves s l e hs he]
    exact hstate _
  · rw [storeLift_stays_in s l e hs he, rewrite_eq]
    split
    · exact h
    · exact h

theorem writeLift_queuesKept (i : Nat) (ws : List Word) (h : QueuesKept p s.queues) :
    QueuesKept p (s.writeLift i ws).1.queues := by
  unfold State.writeLift
  split
  · exact h
  · split
    · exact h
    · split
      · exact h
      · exact storeLift_queuesKept _ _ h

@[simp] theorem writeLandings_queues (s : State) (i : Nat) (ws : List Word) :
    (s.writeLandings i ws).1.queues = s.queues := by
  unfold State.writeLandings
  split
  · rfl
  · split
    · rfl
    · split
      · rfl
      · unfold State.storeLandings
        dsimp only
        split <;> rfl

@[simp] theorem writeFaultClass_queues (s : State) (i : Nat) (ws : List Word) :
    (s.writeFaultClass i ws).1.queues = s.queues := by
  unfold State.writeFaultClass
  split
  · split <;> rfl
  · rfl

@[simp] theorem writeScan_queues (s : State) (i : Nat) (ws : List Word) : (s.writeScan i ws).1.queues = s.queues := by
  unfold State.writeScan
  dsimp only
  split
  · rfl
  · split
    · rfl
    · split
      · split <;> rfl
      · split
        · rfl
        · split <;> rfl

@[simp] theorem writeRecipe_queues (s : State) (i : Nat) (ws : List Word) :
    (s.writeRecipe i ws).1.queues = s.queues := by
  unfold State.writeRecipe
  split
  · rfl
  · split
    · rfl
    · split <;> rfl

theorem paramStored_queuesKept (n old new : Nat) (now : TimeTag) (h : QueuesKept p s.queues) :
    QueuesKept p (s.paramStored n old new now).queues := by
  unfold State.paramStored
  extract_lets a b c d
  have ha : QueuesKept p a.queues := by
    unfold a State.floorWritten
    split
    · split
      · exact raiseStation_queuesKept .reservoirLow h
      · exact h
    · exact h
  have hb : QueuesKept p b.queues := by
    unfold b
    split
    · exact expirePower_queuesKept now ha
    · exact ha
  have hc : QueuesKept p c.queues := by
    unfold c
    split
    · exact expireSilence_queuesKept now hb
    · exact hb
  have hd : QueuesKept p d.queues := evaluateAdmission_queuesKept now hc
  clear_value d
  split
  · exact expireCycle_queuesKept now hd
  · exact hd

theorem writeParameter_queuesKept (n : Nat) (ws : List Word) (now : TimeTag) (h : QueuesKept p s.queues) :
    QueuesKept p (s.writeParameter n ws now).1.queues := by
  unfold State.writeParameter
  split
  · exact h
  · exact h
  · split
    · exact h
    · exact paramStored_queuesKept (s := { s with params := _ }) _ _ _ now h

theorem writeEntry_queuesKept (tb : Table) (i : Nat) (ws : List Word) (now : TimeTag) (h : QueuesKept p s.queues) :
    QueuesKept p (s.writeEntry tb i ws now).1.queues := by
  cases tb with
  | lift => exact writeLift_queuesKept i ws h
  | landings => exact (writeLandings_queues s i ws).symm ▸ h
  | faultClass => exact (writeFaultClass_queues s i ws).symm ▸ h
  | scan => exact (writeScan_queues s i ws).symm ▸ h
  | recipe => exact (writeRecipe_queues s i ws).symm ▸ h
  | parameters => exact writeParameter_queuesKept i ws now h

theorem takeScanSwap_queuesKept (now : TimeTag) (h : QueuesKept p s.queues) :
    QueuesKept p (s.takeScanSwap now).queues := by
  unfold State.takeScanSwap
  split
  · exact startCycle_queuesKept now (swapScan_queuesKept h)
  · split
    · exact swapScan_queuesKept h
    · exact h

theorem requestSwap_queuesKept (sel : Nat) (now : TimeTag) (h : QueuesKept p s.queues) :
    QueuesKept p (s.requestSwap sel now).1.queues := by
  have hrecipe : QueuesKept p s.swapRecipe.queues :=
    raiseStation_queuesKept (s := { s with recipes := _ }) .bankSwapped h
  unfold State.requestSwap
  split
  · unfold State.requestSwapScan
    split
    · exact h
    · exact takeScanSwap_queuesKept now h
  · exact hrecipe
  · unfold State.requestSwapBoth
    split
    · exact h
    · exact takeScanSwap_queuesKept now hrecipe
  · exact h

theorem holdLift_queuesKept (l : Lift) (now : TimeTag) (h : QueuesKept p s.queues) :
    QueuesKept p (s.holdLift l now).queues := by
  unfold State.holdLift
  extract_lets queued a
  have ha : QueuesKept p a.queues := h
  split
  · exact enterStalled_queuesKept l now ((leaveQueue_queues a l).symm ▸ ha)
  · exact ha

theorem releaseLift_queuesKept (l : Lift) (now : TimeTag) (h : QueuesKept p s.queues) :
    QueuesKept p (s.releaseLift l now).queues := by
  unfold State.releaseLift
  extract_lets a
  have ha : QueuesKept p a.queues := h
  split
  · exact evaluateStalled_queuesKept l now ha
  · exact ha

theorem act_queuesKept (l : Lift) (a : Action) (now : TimeTag) (h : QueuesKept p s.queues) :
    QueuesKept p (s.act l a now).queues := by
  cases a with
  | hold => exact holdLift_queuesKept l now h
  | release => exact releaseLift_queuesKept l now h
  | abort => exact abortExecution_queuesKept l now h
  | forceManual => exact enterManual_queuesKept l .operator h
  | clear => exact enterNormal_queuesKept l h

theorem control_queuesKept (n : Nat) (a : Action) (now : TimeTag) (h : QueuesKept p s.queues) :
    QueuesKept p (s.control n a now).1.queues := by
  unfold State.control
  split
  · exact h
  · split
    · exact act_queuesKept _ a now h
    · exact h

theorem liftControl_queuesKept (n : Nat) (later : List Word) (now : TimeTag) (h : QueuesKept p s.queues) :
    QueuesKept p (s.liftControl n later now).1.queues := by
  unfold State.liftControl
  split
  · exact h
  · split
    · exact control_queuesKept n _ now h
    · split
      · exact h
      · exact h

@[simp] theorem extendStep_queues (s : State) (n : Nat) (later : List Word) :
    (s.extendStep n later).1.queues = s.queues := by
  unfold State.extendStep
  split
  · rfl
  · split
    · rfl
    · split <;> rfl

theorem beginRestart_queues (s : State) : s.beginRestart.queues = s.queues := by
  rw [beginRestart_eq]
  rfl

/-- Step 3 of the RESTART sequence empties every queue but the management replies, and raises RESTARTED (R164). -/
theorem restartClear_queuesKept (h : QueuesKept p s.queues) : QueuesKept p s.restartClear.queues where
  mgmtReplies := h.mgmtReplies
  cmdReplies _ := Nat.zero_le _
  copies _ := Nat.zero_le _
  passQueue _ := Nat.zero_le _
  listed _ := ⟨List.nodup_singleton _, fun e he => by
    cases List.mem_singleton.mp he
    exact Nat.zero_le _⟩

theorem endAllStop_queuesKept (now : TimeTag) (h : QueuesKept p s.queues) :
    QueuesKept p (s.endAllStop now).queues := by
  have hclear := restartClear_queuesKept h
  unfold State.endAllStop
  split
  · cases hv : (s.restartClear.scan.bank s.restartClear.scan.active).valid
    · rw [restartCycle_of_invalid _ now hv]
      exact hclear
    · rw [restartCycle_of_valid _ now hv]
      exact startCycle_queuesKept (s := { s.restartClear with restart := .idle }) now hclear
  · exact h

theorem serve_queuesKept (r : Request) (held : Option Prefix) (now : TimeTag) (h : QueuesKept p s.queues) :
    QueuesKept p (s.serve r held now).1.queues := by
  unfold State.serve
  cases r with
  | identify => exact h
  | storePrefix tb i ws =>
    dsimp only
    unfold State.takePrefix
    split
    · exact h
    · exact h
  | write tb i ws => exact writeEntry_queuesKept tb _ _ now h
  | read tb i later =>
    dsimp only
    rwa [readEntry_state]
  | swap sel => exact requestSwap_queuesKept _ now h
  | readContext l later =>
    dsimp only
    rwa [readContext_state]
  | liftControl l later => exact liftControl_queuesKept _ later now h
  | control l a => exact control_queuesKept _ a now h
  | extendStep l later => exact (extendStep_queues s _ later).symm ▸ h
  | restart => exact (beginRestart_queues s).symm ▸ h
  | unknown c => exact h
  | empty => exact h

/-! ### Whole commands -/

/-- `q` keeps the bounds and the notice list of `p`, each from its own premise. -/
def QueuesSafe (p q : Queues) : Prop := (p.Bounded → q.Bounded) ∧ (p.Listed → q.Listed)

theorem QueuesKept.safe {p q : Queues} (h : QueuesKept p q) : QueuesSafe p q := ⟨h.bounded, h.listed⟩

/-- The end of a command keeps what the command has kept. -/
theorem finish_queuesSafe (now : TimeTag) (h : QueuesSafe p s.queues) : QueuesSafe p (s.finish now).queues := by
  obtain ⟨hbounded, hlisted⟩ := h
  have hf := finish_queuesKept (s := s) now (.refl _)
  exact ⟨hf.bounded ∘ hbounded, hf.listed ∘ hlisted⟩

/-- A reply joins the management reply FIFO where it had room, whatever the request has brought about before (R150). -/
theorem reply_queuesSafe {u : State} (st code : Nat) (ws : List Word)
    (hroom : s.link.mgmtReplies.length < Config.replyFifoSize) (h : QueuesKept s.queues u.queues) :
    QueuesSafe s.queues (u.reply st code ws).queues := by
  refine ⟨fun hs => ?_, h.listed⟩
  obtain ⟨-, hcmd, hcopies, hpass⟩ := h.bounded hs
  have hmgmt : u.link.mgmtReplies.length ≤ s.link.mgmtReplies.length := h.mgmtReplies
  refine ⟨?_, hcmd, hcopies, hpass⟩
  show (u.link.mgmtReplies ++ [replyFrame st code ws]).length ≤ Config.replyFifoSize
  rw [List.length_append, List.length_singleton]
  omega

theorem agentTakes_queuesSafe (r : Request) (now : TimeTag) (hroom : s.link.mgmtReplies.length < Config.replyFifoSize) :
    QueuesSafe s.queues (s.agentTakes r now).queues := by
  rcases agentTakes_cases s r now with ⟨-, e⟩ | ⟨-, e⟩ <;> rw [e]
  · exact reply_queuesSafe (u := s.consume r) _ _ _ hroom (.refl s.queues)
  · exact reply_queuesSafe _ _ _ hroom (serve_queuesKept (s := s.consume r) r _ now (.refl s.queues))

theorem takeRequest_queuesSafe (s : State) (r : Request) (n : Nat) (t : TimeTag) :
    QueuesSafe s.queues (s.takeRequest r n t).queues := by
  rcases takeRequest_cases s r n t with ⟨-, e⟩ | ⟨-, -, e⟩ | ⟨-, hroom, e⟩ <;> rw [e]
  · exact (QueuesKept.refl s.queues).safe
  · exact finish_queuesSafe (s := (s.atTime t).arrive t) t (QueuesKept.refl s.queues).safe
  · exact finish_queuesSafe t (agentTakes_queuesSafe (s := (s.atTime t).arrive t) r t hroom)

theorem requestArrives_queuesSafe (s : State) (d : BitVec 6) (payload : List Word) (t : TimeTag) :
    QueuesSafe s.queues (s.requestArrives d payload t).queues := by
  unfold State.requestArrives
  split
  · exact takeRequest_queuesSafe s _ _ t
  · split
    · exact (QueuesKept.refl s.queues).safe
    · exact finish_queuesSafe (s := (s.atTime t).arrive t) t (QueuesKept.refl s.queues).safe

theorem remoteArrives_queuesKept (c : RemoteCommand) (t : TimeTag) (h : QueuesKept p s.queues) :
    QueuesKept p (s.remoteArrives c t).queues := by
  unfold State.remoteArrives
  split
  · exact h
  · exact finish_queuesKept t (takeRemote_queuesKept (s := (s.atTime t).arrive t) c h)

theorem routeKind_queuesSafe (s : State) (f : Frame) (now : TimeTag) :
    QueuesSafe s.queues (s.routeKind f now).queues := by
  have hs := QueuesKept.refl s.queues
  unfold State.routeKind
  split
  · split
    · unfold State.routeRequest
      split
      · exact hs.safe
      · exact agentTakes_queuesSafe _ now (Nat.lt_of_not_le ‹_›)
    · exact hs.safe
  · split
    · exact (takeRemote_queuesKept _ hs).safe
    · exact hs.safe

theorem linkWords_queuesSafe (s : State) (ws : List Word) (whole : Bool) (t : TimeTag) :
    QueuesSafe s.queues (s.linkWords ws whole t).queues := by
  unfold State.linkWords
  split
  · exact finish_queuesSafe t (routeKind_queuesSafe ((s.atTime t).arrive t) _ t)
  · exact (QueuesKept.refl s.queues).safe

theorem replyArrives_queuesKept (kind : ReplyKind) (r : Reply) (t : TimeTag) (h : QueuesKept p s.queues) :
    QueuesKept p (s.replyArrives kind r t).queues :=
  finish_queuesKept t (ringFrame_queuesKept (s := s.atTime t) kind r t h)

theorem ringWords_queuesKept (lane : Lane) (ws : List Word) (whole : Bool) (t : TimeTag) (h : QueuesKept p s.queues) :
    QueuesKept p (s.ringWords lane ws whole t).queues := by
  unfold State.ringWords
  split
  · split
    · exact replyArrives_queuesKept _ _ t h
    · exact h
  · exact h

/-- Every queue is empty after the reset pin. -/
theorem reset_queuesKept (p : Queues) : QueuesKept p State.reset.queues :=
  ⟨Nat.zero_le _, fun _ => Nat.zero_le _, fun _ => Nat.zero_le _, fun _ => Nat.zero_le _,
    fun _ => ⟨List.nodup_nil, nofun⟩⟩

theorem exec_queuesSafe {c : Instr} {u : State} (he : exec c s = .next u) : QueuesSafe s.queues u.queues := by
  have ht : ∀ t, QueuesKept s.queues (s.atTime t).queues := fun t => .refl s.queues
  cases c
  case powerOnReset => cases he; exact (reset_queuesKept s.queues).safe
  case managementRequestDiscard t d payload => cases he; exact requestArrives_queuesSafe s d payload t
  case linkFrameDiscard t ws b => cases he; exact linkWords_queuesSafe s ws b t
  case remoteCommand t d payload => cases he; exact (remoteArrives_queuesKept _ t (.refl _)).safe
  case allStopSendEnd t => cases he; exact (finish_queuesKept t (endAllStop_queuesKept t (ht t))).safe
  case exchangeSendEnd t =>
    cases he
    exact (finish_queuesKept t ((sendEnd_queues (s.atTime t) t).symm ▸ ht t)).safe
  case statusReport t r => cases he; exact (replyArrives_queuesKept _ r t (.refl _)).safe
  case powerReport t r => cases he; exact (replyArrives_queuesKept _ r t (.refl _)).safe
  case hazardReport t r => cases he; exact (replyArrives_queuesKept _ r t (.refl _)).safe
  case orderEcho t r => cases he; exact (replyArrives_queuesKept _ r t (.refl _)).safe
  case commandReply t r => cases he; exact (replyArrives_queuesKept _ r t (.refl _)).safe
  case replyWindowClose t => cases he; exact (finish_queuesKept t (closeWindow_queuesKept t (ht t))).safe
  case ringFrameDiscard t lane ws b => cases he; exact (ringWords_queuesKept lane ws b t (.refl _)).safe
  case descriptorGapExpiry t => cases he; exact (finish_queuesKept t (expireGap_queuesKept t (ht t))).safe
  case cycleStart t => cases he; exact (finish_queuesKept t (expireCycle_queuesKept t (ht t))).safe
  case stepTimerExpiry t l => cases he; exact (finish_queuesKept t (expireStep_queuesKept l t (ht t))).safe
  case powerStaleExpiry t => cases he; exact (finish_queuesKept t (expirePower_queuesKept t (ht t))).safe
  case silenceExpiry t => cases he; exact (finish_queuesKept t (expireSilence_queuesKept t (ht t))).safe
  case transmitEnd t => cases he; exact (finish_queuesKept (s := (s.atTime t).endTransmission) t (ht t)).safe
  all_goals cases he; exact takeRequest_queuesSafe s _ _ _

end Sys2Proof.Machine

open Sys2Proof.Machine in
/-- Settles O55: no queue grows but where its rule has found room, and a reason raised joins the entry of its number. -/
theorem stepKeepsQueuesBounded : Obligations.StepKeepsQueuesBounded := by
  intro s t he
  rw [queuesBounded_iff, queuesBounded_iff, noticesListed_iff, noticesListed_iff]
  show QueuesSafe s.queues t.queues
  unfold step at he
  split at he
  · cases he
    exact (QueuesKept.refl s.queues).safe
  next c cs _ => exact exec_queuesSafe (s := { s with pending := cs }) he
end

section
/-! COMMAND_REPLY (R147 to R149), and the end of an exchange whose gap still runs (R130). -/

namespace Sys2Proof.Machine

open Slice0

/-- The end of an exchange before its gap has passed, with no evaluation owing (R113, R130). -/
theorem exchangeOver_of_open_gap {u : State} (x : Exchange) (valid : Bool) {start : TimeTag} {gap : Nat} {t : TimeTag}
    (hdue : u.admissionDue = false) (hgap : (t - start).toNat < gap) :
    exchangeOver u x valid start gap t = ((u.closeExchange x valid).setPhase (.gapWait start gap)).transmit := by
  have hclosed : (u.closeExchange x valid).admissionDue = false := by
    obtain ⟨a, b, ns, e⟩ := closeExchange_eq u x valid
    rw [e]
    exact hdue
  have hwork : (u.closeExchange x valid).endWork start gap t =
      (u.closeExchange x valid).setPhase (.gapWait start gap) := if_neg (Nat.not_le.mpr hgap)
  rw [exchangeOver, hwork]
  exact finish_of_not_due _ t hclosed

theorem commandReply_of_room {s : State} (f : Frame) (h : s.link.cmdReplies.length < 4) :
    s.commandReply f = { s with link := { s.link with cmdReplies := s.link.cmdReplies ++ [f] } } := if_pos h

theorem commandReply_of_full {s : State} (f : Frame) (h : 4 ≤ s.link.cmdReplies.length) : s.commandReply f = s :=
  if_neg (Nat.not_lt.mpr h)

end Sys2Proof.Machine

open Sys2Proof Sys2Proof.Machine Sys2Proof.Slice0 in
/-- Settles O36: the reply is forwarded as it came, its FIFO has room, and the gap keeps the engine from going on. -/
theorem commandReplyIsForwarded : Obligations.CommandReplyIsForwarded := by
  rintro s t x r start gap dest ⟨hx, hr, hm⟩ hs hp hgap hroom
  have hexec : exec (.commandReply t r) s = _ := exec_validReply (k := .command) hr hx hp hm
  have hreply : (s.atTime t).jobReply (.command dest) r t =
      ((s.atTime t).commandReply (forwardedReplyFrame r.source r.payload), .ended) := rfl
  rw [hreply, commandReply_of_room (s := s.atTime t) _ hroom, goneOn_ended,
    exchangeOver_of_open_gap x true (by exact hs) hgap] at hexec
  exact hexec
end

section
/-! Remote commands (R142, R146 to R148, R152): the gate on arrival, and the pass-through queue judged again by an ORDER
SLOT without an order. -/

namespace Sys2Proof.Machine

open Slice0

/-! ### The gate (R146) -/

theorem underRescue_iff (s : State) (d : BitVec 6) :
    s.underRescue d = true ↔
      ∃ l : Lift, (s.lift l).entry.ringNode = d.toNat
        ∧ ((s.lift l).state = .queued ∨ (s.lift l).state = .rescuing) := by
  simp [State.underRescue, allLifts, and_comm]

/-- The judgement reads the lifts alone. -/
theorem underRescue_congr {s u : State} (h : ∀ l : Lift, u.lift l = s.lift l) (d : BitVec 6) :
    u.underRescue d = s.underRescue d := by
  simp only [State.underRescue, h]

section
variable {s : State} {c : RemoteCommand}

theorem takeRemote_of_no_node (h : c.dest = 0 ∨ c.dest = 63) : s.takeRemote c = s.makeReply c.dest .noAnswer := if_pos h

theorem takeRemote_of_underRescue (hnode : ¬ (c.dest = 0 ∨ c.dest = 63)) (h : s.underRescue c.dest = true) :
    s.takeRemote c = s.makeReply c.dest .underRescue := (if_neg hnode).trans (if_pos h)

theorem takeRemote_of_full (hnode : ¬ (c.dest = 0 ∨ c.dest = 63)) (hfree : s.underRescue c.dest = false)
    (h : 4 ≤ s.orders.passQueue.length) : s.takeRemote c = s.makeReply c.dest .busy :=
  (if_neg hnode).trans ((if_neg (by simp [hfree])).trans (if_pos h))

theorem takeRemote_of_room (hnode : ¬ (c.dest = 0 ∨ c.dest = 63)) (hfree : s.underRescue c.dest = false)
    (h : s.orders.passQueue.length < 4) :
    s.takeRemote c = { s with orders := { s.orders with passQueue := s.orders.passQueue ++ [c] } } :=
  (if_neg hnode).trans ((if_neg (by simp [hfree])).trans (if_neg (Nat.not_le.mpr h)))

end

/-- A REMOTE COMMAND that is a valid arrival, with no evaluation owing. -/
theorem exec_remoteCommand {s : State} {t : TimeTag} {d : BitVec 6} {payload : List Word} (hs : s.Settled)
    (hlen : payload.length ≤ 16) :
    exec (.remoteCommand t d payload) s = .next ((arrived s t).takeRemote ⟨d, payload⟩).transmit := by
  have hdue : ((arrived s t).takeRemote ⟨d, payload⟩).admissionDue = false := by
    have hreply : ∀ f, ((arrived s t).commandReply f).admissionDue = false := fun f => by
      rcases commandReply_cases (arrived s t) f with ⟨-, e⟩ | ⟨-, e⟩ <;> rw [e] <;> exact hs
    rcases takeRemote_cases (arrived s t) ⟨d, payload⟩ with ⟨-, e⟩ | ⟨-, e⟩ | ⟨-, e⟩ | ⟨-, e⟩ <;> rw [e]
    · exact hreply _
    · exact hreply _
    · exact hreply _
    · exact hs
  show Host.Outcome.next (s.remoteArrives ⟨d, payload⟩ t) = _
  rw [State.remoteArrives, if_neg (show ¬ Config.maxPayload < payload.length from Nat.not_lt.mpr hlen)]
  exact congrArg _ (finish_of_not_due _ t hdue)

/-! ### The queue judged again (R147) -/

/-- Frames offered one after the other join the command reply FIFO as far as it has room (R152, log 43). -/
theorem foldl_commandReply (fs : List Frame) (s : State) :
    fs.foldl State.commandReply s =
      { s with link := { s.link with cmdReplies := s.link.cmdReplies ++ fs.take (4 - s.link.cmdReplies.length) } } := by
  induction fs generalizing s with
  | nil => simp
  | cons f fs ih =>
    rw [List.foldl_cons, ih]
    rcases Nat.lt_or_ge s.link.cmdReplies.length 4 with hroom | hfull
    · obtain ⟨k, hk⟩ : ∃ k, 4 - s.link.cmdReplies.length = k + 1 := ⟨3 - s.link.cmdReplies.length, by omega⟩
      have hk' : 4 - (s.link.cmdReplies.length + 1) = k := by omega
      rw [commandReply_of_room f hroom, hk]
      simp [hk']
    · rw [commandReply_of_full f hfull, Nat.sub_eq_zero_of_le hfull, List.take_zero, List.take_zero]

theorem rejudge_of_free {s : State} {c : RemoteCommand} (cs : List RemoteCommand) (h : s.underRescue c.dest = false) :
    s.rejudge (c :: cs) = (s.setPassQueue cs, some c) := if_neg (by simp [h])

/-- Heads under rescue are answered one after the other; no reply changes the judgement of the next. -/
theorem rejudge_append (gone rest : List RemoteCommand) (s : State) (h : ∀ c ∈ gone, s.underRescue c.dest = true) :
    s.rejudge (gone ++ rest) =
      ((gone.map fun c => madeReplyFrame c.dest 1).foldl State.commandReply s).rejudge rest := by
  induction gone generalizing s with
  | nil => rfl
  | cons c cs ih =>
    obtain ⟨hc, hcs⟩ := List.forall_mem_cons.mp h
    have hlift := (makeReply_untouched s c.dest .underRescue).lift
    rw [List.cons_append, State.rejudge, if_pos hc, ih _ fun k hk => (underRescue_congr hlift k.dest).trans (hcs k hk)]
    rfl

/-! ### An ORDER SLOT without an order (R142, R147) -/

section
variable {s v : State} (d : Descriptor) (now : TimeTag)

theorem chooseOrder_of_no_order (h : ∀ l : Lift, s.slot l = none) : s.chooseOrder = none :=
  chooseOrder_of_noOrders (s := s.setPassQueue []) ⟨h, rfl⟩

theorem takeSlot_of_emptied (h : ∀ l : Lift, s.slot l = none) (hq : s.rejudge s.orders.passQueue = (v, none)) :
    s.takeSlot d now = (v, true) := by
  rw [State.takeSlot, chooseOrder_of_no_order h, hq]

theorem takeSlot_of_command {c : RemoteCommand} (h : ∀ l : Lift, s.slot l = none)
    (hq : s.rejudge s.orders.passQueue = (v, some c)) :
    s.takeSlot d now =
      ((v.beginExchange (v.askedLane d) (commandFrame c) .command).setPhase (.working now d.gap (.command c.dest)),
        false) := by
  rw [State.takeSlot, chooseOrder_of_no_order h, hq]

theorem takeDescriptor_of_orderSlot (s : State) (hd : d.kind = .orderSlot) :
    s.takeDescriptor d now = s.takeSlot d now := by
  rw [State.takeDescriptor, hd]

end

theorem slotsWithoutOrdersPassCommands : SlotsWithoutOrdersPassCommands := by
  rintro s d now gone rest hd hslots busy hbusy hgone told v rfl hv
  have hunder : ∀ c ∈ gone, s.underRescue c.dest = true := fun c hc =>
    (underRescue_iff s c.dest).mpr ((hbusy c).mp (hgone c hc))
  have hjudged : ∀ q, s.rejudge (gone ++ q) = v.rejudge q := fun q => by
    rw [rejudge_append gone q s hunder, foldl_commandReply, hv]
    rfl
  rw [takeDescriptor_of_orderSlot d now s hd]
  refine ⟨fun hq => ?_, fun c hq hc => ?_⟩
  · exact takeSlot_of_emptied d now hslots (by rw [hq, ← List.append_nil gone, hjudged]; rfl)
  · have hlift : ∀ l : Lift, v.lift l = s.lift l := fun l => by
      rw [hv]
      rfl
    have hfree : v.underRescue c.dest = false := by
      rw [underRescue_congr hlift, ← Bool.not_eq_true, underRescue_iff, ← hbusy c]
      exact hc
    rw [takeSlot_of_command d now hslots (by rw [hq, hjudged, rejudge_of_free rest hfree]), hv]
    rfl

end Sys2Proof.Machine

open Sys2Proof Sys2Proof.Machine Sys2Proof.Slice0 in
/-- Settles O28: each check of the gate decides the arrival before the next one is made, and heads of the queue that
have come under rescue are answered before the first other one is sent. -/
theorem remoteCommandsPassTheGate : Obligations.RemoteCommandsPassTheGate := by
  refine ⟨fun s t d payload hs hlen made hmade => ?_, slotsWithoutOrdersPassCommands⟩
  have hreply : ∀ (st : CommandStatus) (n : Nat), st.code = n → (arrived s t).makeReply d st = made n := by
    rintro st _ rfl
    rw [hmade]
    rfl
  have hrescue := underRescue_iff (arrived s t) d
  rw [exec_remoteCommand hs hlen]
  refine ⟨fun hnode => ?_, fun h0 h63 => ⟨fun hbusy => ?_, fun hnone => ?_⟩⟩
  · rw [takeRemote_of_no_node hnode, hreply .noAnswer 3 rfl]
  · rw [takeRemote_of_underRescue (not_or.mpr ⟨h0, h63⟩) (hrescue.mpr hbusy), hreply .underRescue 1 rfl]
  · have hnode : ¬ (d = 0 ∨ d = 63) := not_or.mpr ⟨h0, h63⟩
    have hfree : (arrived s t).underRescue d = false := by
      rw [← Bool.not_eq_true, hrescue]
      rintro ⟨l, hl, hstate⟩
      obtain ⟨hqueued, hrescuing⟩ := hnone l hl
      exact hstate.elim hqueued hrescuing
    refine ⟨fun hfull => ?_, fun hroom => ?_⟩
    · rw [takeRemote_of_full (s := arrived s t) hnode hfree hfull, hreply .busy 2 rfl]
    · rw [takeRemote_of_room (s := arrived s t) hnode hfree hroom]
      rfl
end

section
/-! Arrivals on the station link that are turned away or discarded (R149, R150, R165), and the silence expiry (R151). -/

namespace Sys2Proof.Machine

open Slice0

/-! ### Requests turned away (R150, R165) -/

/-- The end of an arrival that brings nothing else: the arbitration alone. -/
theorem finish_arrived {s : State} (t : TimeTag) (hs : s.Settled) :
    ((s.atTime t).arrive t).finish t = (arrived s t).transmit :=
  finish_of_not_due (arrived s t) t hs

/-- A request that finds the management reply FIFO full is a valid arrival and no more (R150). -/
theorem takeRequest_of_full {s : State} (r : Request) {n : Nat} {t : TimeTag} (hs : s.Settled) (hn : n ≤ 16)
    (hfull : 4 ≤ s.link.mgmtReplies.length) : s.takeRequest r n t = (arrived s t).transmit := by
  rcases takeRequest_cases s r n t with ⟨h, -⟩ | ⟨-, -, e⟩ | ⟨-, h, -⟩
  · exact absurd h (Nat.not_lt.mpr hn)
  · exact e.trans (finish_arrived t hs)
  · exact absurd hfull (Nat.not_le.mpr h)

/-- The counter of free values does not enter the choice of the next frame after a reply. -/
theorem answered_sameBut (u : State) (k : Nat) (f : Frame) :
    SameBut (answered u f) (answered { u with freeIndex := k } f) := by
  unfold answered
  dsimp only
  cases u.link.transmitting with
  | some w => rfl
  | none => cases u.link.mgmtReplies <;> rfl

/-- A request taken during a RESTART sequence consumes the prefix holder, and one free value when it is empty, and is
answered BUSY (R158, R165, log 10). -/
theorem takeRequest_of_restarting {s : State} (r : Request) {n : Nat} {t : TimeTag} (hs : s.Settled) (hn : n ≤ 16)
    (hroom : s.link.mgmtReplies.length < 4) (hrestart : s.restart ≠ .idle) :
    s.takeRequest r n t =
      answered { taken s t with freeIndex := if r = .empty then s.freeIndex + 1 else s.freeIndex }
        (reply 2 (kindOf s r) []) := by
  rcases takeRequest_cases s r n t with ⟨h, -⟩ | ⟨-, h, -⟩ | ⟨-, -, e⟩
  · exact absurd h (Nat.not_lt.mpr hn)
  · exact absurd hroom (Nat.not_lt.mpr h)
  · rcases agentTakes_cases ((s.atTime t).arrive t) r t with ⟨-, e'⟩ | ⟨h, -⟩
    · rw [e, e']
      exact (finish_of_not_due ((((s.atTime t).arrive t).consume r).reply 2 (kindOf s r) []) t hs).trans
        (transmit_reply _ 2 (kindOf s r) [])
    · exact absurd h hrestart

/-! ### Discarded frames (R149, R150) -/

/-- A MANAGEMENT REQUEST to another node, or one that finds the FIFO full, is a valid arrival and no more (R150). -/
theorem requestArrives_of_discarded {s : State} {d : BitVec 6} {payload : List Word} (t : TimeTag) (hs : s.Settled)
    (hlen : payload.length ≤ 16) (h : d ≠ 0 ∨ 4 ≤ s.link.mgmtReplies.length) :
    s.requestArrives d payload t = (arrived s t).transmit := by
  unfold State.requestArrives
  by_cases hd : d = 0
  · rw [if_pos hd]
    exact takeRequest_of_full _ hs hlen (h.resolve_left fun hne => hne hd)
  · rw [if_neg hd, if_neg (show ¬ Config.maxPayload < payload.length from Nat.not_lt.mpr hlen)]
    exact finish_arrived t hs

theorem linkWords_of_no_frame (s : State) {ws : List Word} {whole : Bool} (t : TimeTag)
    (h : Frame.ofWords ws whole = none) : s.linkWords ws whole t = s.atTime t := by
  rw [State.linkWords, h]

theorem routeKind_of_not_routed (s : State) {f : Frame} (now : TimeTag) (hrequest : f.kind ≠ kindRequest)
    (hcommand : f.kind ≠ kindCommand) : s.routeKind f now = s := by
  rw [State.routeKind, if_neg hrequest, if_neg hcommand]

theorem linkWords_of_not_routed {s : State} {ws : List Word} {whole : Bool} {f : Frame} (t : TimeTag) (hs : s.Settled)
    (h : Frame.ofWords ws whole = some f) (hrequest : f.kind ≠ kindRequest) (hcommand : f.kind ≠ kindCommand) :
    s.linkWords ws whole t = (arrived s t).transmit := by
  rw [State.linkWords, h]
  dsimp only
  rw [State.linkFrame, routeKind_of_not_routed _ t hrequest hcommand, finish_arrived t hs]

/-! ### The silence expiry (R151) -/

theorem silenceDue_iff (s : State) (now : TimeTag) :
    s.silenceDue now = true ↔
      s.link.isolated = false ∧ s.params.linkSilenceTime * 1000 ≤ (now - s.link.lastArrival).toNat := by
  rw [State.silenceDue, Bool.and_eq_true, Bool.not_eq_true', decide_eq_true_iff, elapsed]

theorem expireSilence_of_due {s : State} {now : TimeTag} (h : s.silenceDue now = true) :
    s.expireSilence now =
      { s with link := { s.link with isolated := true, copies := [], lastCopy := Vector.replicate 24 none } } :=
  if_pos h

theorem expireSilence_of_not_due {s : State} {now : TimeTag} (h : ¬ s.silenceDue now = true) :
    s.expireSilence now = s := if_neg h

/-- Where no source has a frame it may send, no reply waits, ISOLATED or not (R152). -/
theorem replies_empty_of_nextUpward_none {s : State} (h : s.nextUpward = none) :
    s.link.mgmtReplies = [] ∧ s.link.cmdReplies = [] := by
  rcases nextUpward_cases s with ⟨_, _, -, e⟩ | ⟨_, _, -, -, e⟩ | ⟨_, _, hm, hc, -⟩ |
    ⟨_, _, hm, hc, -⟩ | ⟨hm, hc, -⟩
  · exact absurd (h.symm.trans e) nofun
  · exact absurd (h.symm.trans e) nofun
  all_goals exact ⟨hm, hc⟩

/-- The expiry takes frames from the transmit side and gives it none, so a served transmitter stays served. -/
theorem expireSilence_owesNothing {s : State} (now : TimeTag) (h : OwesNothing s) :
    OwesNothing (s.expireSilence now) := by
  obtain ⟨hsettled, hserved⟩ := h
  by_cases hdue : s.silenceDue now = true
  · rw [expireSilence_of_due hdue]
    refine ⟨hsettled, fun hfree => ?_⟩
    obtain ⟨hmgmt, hcmd⟩ := replies_empty_of_nextUpward_none (Option.isNone_iff_eq_none.mp (hserved hfree))
    simp [State.nextUpward, hmgmt, hcmd]
  · rw [expireSilence_of_not_due hdue]
    exact ⟨hsettled, hserved⟩

/-- SILENCE_EXPIRY is the expiry alone: no evaluation is owing after it, and the transmitter finds no frame. -/
theorem exec_silenceExpiry {s : State} (t : TimeTag) (h : OwesNothing s) :
    exec (.silenceExpiry t) s = .next ((s.atTime t).expireSilence t) := by
  obtain ⟨hsettled, hserved⟩ := expireSilence_owesNothing t (atTime_owesNothing t h)
  exact congrArg Host.Outcome.next (finish_of_served t hsettled hserved rfl rfl)

end Sys2Proof.Machine

open Sys2Proof Sys2Proof.Machine Sys2Proof.Slice0 in
/-- Settles O5: a full FIFO stops the request before the Agent, a RESTART sequence stops it before it is served. -/
theorem requestsTurnedAway : Obligations.RequestsTurnedAway := by
  intro c s r n t hc hn hs
  rw [exec_request hc]
  refine ⟨fun hfull => ?_, fun hroom hrestart => ⟨_, rfl, ?_⟩⟩
  · rw [takeRequest_of_full r hs hn hfull]
  · rw [takeRequest_of_restarting r hs hn hroom hrestart]
    exact answered_sameBut (taken s t) _ _

open Sys2Proof Sys2Proof.Machine Sys2Proof.Slice0 in
/-- Settles O27: what is a valid arrival restarts the silence timer and is routed nowhere, anything else only moves the
time. -/
theorem discardedLinkFrames : Obligations.DiscardedLinkFrames := by
  refine fun s t hs => ⟨fun d p hlen h => ?_, fun ws whole h => ?_, fun ws whole f h hrequest hcommand => ?_⟩
  · exact congrArg Host.Outcome.next (requestArrives_of_discarded t hs hlen h)
  · exact congrArg Host.Outcome.next (linkWords_of_no_frame s t h)
  · exact congrArg Host.Outcome.next (linkWords_of_not_routed t hs h hrequest hcommand)

open Sys2Proof Sys2Proof.Machine Sys2Proof.Slice0 in
/-- Settles O30, by whether the silence time has been reached with ISOLATED clear. -/
theorem silenceExpiryIsolates : Obligations.SilenceExpiryIsolates := by
  intro s t hsettled hserved
  have hdue := silenceDue_iff (s.atTime t) t
  rw [exec_silenceExpiry t ⟨hsettled, hserved⟩]
  refine ⟨fun hopen hreached => ?_, fun hnot => ?_⟩
  · rw [expireSilence_of_due (hdue.mpr ⟨hopen, hreached⟩)]
    rfl
  · rw [expireSilence_of_not_due fun h => ?_]
    · rfl
    · obtain ⟨hopen, hreached⟩ := hdue.mp h
      exact hnot.elim (fun hset => Bool.noConfusion (hset.symm.trans hopen)) (Nat.not_lt.mpr hreached)
end

section
/-! What a management request can do (R156, R161): it is refused and changes nothing, or it is carried out and answered
DONE or DONE-CLAMPED, and of all requests only a write of PARAMETERS stores a station parameter. Then O6. -/

namespace Sys2Proof.Machine

open Slice0

/-! ### Station parameters before and after (R161) -/

/-- What a request may make of the station parameters: nothing, or one stored in its range, a node parameter apart from
the other. -/
inductive ParamStep (p : Params) : Params → Prop
  | kept {q : Params} (h : q = p) : ParamStep p q
  | stored {n lo hi v : Nat} (hrange : paramRanges[n]? = some (lo, hi)) (hlo : lo ≤ v) (hhi : v ≤ hi)
      (hpower : n = 17 → v ≠ p.hazardNode) (hhazard : n = 18 → v ≠ p.powerNode) : ParamStep p (p.store n v)

theorem nodeRefusal_eq_none {s : State} {v other : Nat} (h : s.nodeRefusal v other = none) :
    1 ≤ v ∧ v ≤ 62 ∧ v ≠ other := by
  unfold State.nodeRefusal at h
  split at h
  · exact nomatch h
  · split at h
    · exact nomatch h
    · omega

/-- A node parameter that is not refused lies in its range, so it is stored as it came. -/
theorem near_of_node {s : State} {v other : Nat} (h : s.nodeRefusal v other = none) : near 1 62 v = v := by
  obtain ⟨h1, h62, -⟩ := nodeRefusal_eq_none h
  rw [near, if_neg (by omega), if_neg (by omega)]

theorem le_near {lo hi : Nat} (n : Nat) (h : lo ≤ hi) : lo ≤ near lo hi n := by
  unfold near
  split
  · exact Nat.le_refl lo
  · split <;> omega

theorem near_le {lo hi : Nat} (n : Nat) (h : lo ≤ hi) : near lo hi n ≤ hi := by
  unfold near
  split
  · exact h
  · split <;> omega

/-- A value that passes the checks of R161 is stored as `ParamStep` says. -/
theorem paramStep_store {s : State} {n lo hi v : Nat} (hrange : paramRanges[n]? = some (lo, hi))
    (h : s.paramRefusal n v = none) : ParamStep s.params (s.params.store n (near lo hi v)) := by
  have hle : lo ≤ hi := paramRanges_ordered _ (List.mem_of_getElem? hrange)
  refine .stored hrange (le_near v hle) (near_le v hle) ?_ ?_
  · rintro rfl
    obtain ⟨rfl, rfl⟩ : (1, 62) = (lo, hi) := Option.some.inj hrange
    have hnode : s.nodeRefusal v s.params.hazardNode = none := h
    rw [near_of_node hnode]
    exact (nodeRefusal_eq_none hnode).2.2
  · rintro rfl
    obtain ⟨rfl, rfl⟩ : (1, 62) = (lo, hi) := Option.some.inj hrange
    have hnode : s.nodeRefusal v s.params.powerNode = none := h
    rw [near_of_node hnode]
    exact (nodeRefusal_eq_none hnode).2.2

/-! ### Requests served (R156) -/

/-- What the Agent makes of a request: a refusal that leaves the part as it is, or a request carried out. -/
inductive Served (s : State) : State × Answer → Prop
  | refused (st : ReplyStatus) : Served s (s.refuse st)
  | carried {u : State} (clamped : Bool) (ws : List Word) (hp : ParamStep s.params u.params) :
      Served s (u, ⟨if clamped then .doneClamped else .done, ws⟩)

/-- A request carried out and answered DONE that stores no parameter. -/
theorem Served.of_done {s u : State} (ws : List Word) (h : u.params = s.params) : Served s (u, ⟨.done, ws⟩) :=
  .carried false ws (.kept h)

theorem EventKeeps.params {s u : State} (h : EventKeeps s u) : u.params = s.params := by
  obtain ⟨-, -, hparams, -⟩ := h.tables
  exact hparams

section
variable (s : State)

theorem storeLift_params (l : Lift) (e : LiftEntry) : (s.storeLift l e).params = s.params := by
  by_cases h : (s.lift l).state = .excluded <;> cases he : e.inService
  · rw [storeLift_stays_out s l e h he]; rfl
  · rw [storeLift_enters s l e h he]; rfl
  · rw [storeLift_leaves s l e h he]; rfl
  · rw [storeLift_stays_in s l e h he, rewrite_eq]; split <;> rfl

theorem writeLift_served (i : Nat) (ws : List Word) : Served s (s.writeLift i ws) := by
  unfold State.writeLift
  split
  · exact .refused _
  · split
    · exact .refused _
    · split
      · exact .refused _
      · exact .carried _ [] (.kept (storeLift_params s _ _))

theorem writeLandings_served (i : Nat) (ws : List Word) : Served s (s.writeLandings i ws) := by
  unfold State.writeLandings
  split
  · exact .refused _
  · split
    · exact .refused _
    · split
      · exact .refused _
      · exact .of_done [] (by rw [storeLandings_eq]; rfl)

theorem writeFaultClass_served (i : Nat) (ws : List Word) : Served s (s.writeFaultClass i ws) := by
  unfold State.writeFaultClass
  split
  · split
    · exact .refused _
    · exact .of_done [] rfl
  · exact .refused _

theorem writeScan_served (i : Nat) (ws : List Word) : Served s (s.writeScan i ws) := by
  unfold State.writeScan
  dsimp only
  split
  · exact .refused _
  · split
    · exact .refused _
    · split
      · split
        · exact .refused _
        · exact .carried _ [] (.kept rfl)
      · split
        · exact .refused _
        · split
          · exact .refused _
          · exact .of_done [] rfl

theorem writeRecipe_served (i : Nat) (ws : List Word) : Served s (s.writeRecipe i ws) := by
  unfold State.writeRecipe
  split
  · exact .refused _
  · split
    · exact .refused _
    · split
      · exact .refused _
      · exact .of_done [] rfl

theorem floorWritten_untouched (old new : Nat) : Untouched s (s.floorWritten old new) := by
  unfold State.floorWritten
  split
  · exact raiseStation_untouched s _
  · exact .refl s

/-- What a stored value brings about at once stores no further one. -/
theorem paramStored_eventKeeps (n old new : Nat) (now : TimeTag) : EventKeeps s (s.paramStored n old new now) := by
  unfold State.paramStored
  extract_lets a b c d
  have ha : EventKeeps s a := by
    unfold a
    split
    · exact (floorWritten_untouched s old new).eventKeeps
    · exact .refl s
  have hb : EventKeeps a b := by
    unfold b
    split
    · exact expirePower_eventKeeps a now
    · exact .refl a
  have hc : EventKeeps b c := by
    unfold c
    split
    · exact (expireSilence_untouched b now).eventKeeps
    · exact .refl b
  have hd : EventKeeps s d := ((ha.trans hb).trans hc).trans (evaluateAdmission_cycleKeeps c now).eventKeeps
  split
  · exact hd.trans (expireCycle_cycleKeeps d now).eventKeeps
  · exact hd

theorem writeParameter_served (n : Nat) (ws : List Word) (now : TimeTag) : Served s (s.writeParameter n ws now) := by
  rcases Nat.lt_or_ge 18 n with hn | hn
  · rw [writeParameter_range s ws now hn]
    exact .refused _
  obtain ⟨⟨lo, hi⟩, hrange⟩ := Option.ne_none_iff_exists'.mp (mt paramRanges_isNone.mp (Nat.not_lt.mpr hn))
  cases ws with
  | nil =>
    rw [writeParameter_empty s now hn]
    exact .refused _
  | cons v rest =>
    cases hr : s.paramRefusal n v.toNat with
    | some st =>
      rw [writeParameter_refused rest now hn hr]
      exact .refused _
    | none =>
      rw [writeParameter_stored rest now hrange hr]
      refine .carried _ [] ?_
      rw [(paramStored_eventKeeps _ _ _ _ now).params]
      exact paramStep_store hrange hr

theorem writeEntry_served (tb : Table) (i : Nat) (ws : List Word) (now : TimeTag) :
    Served s (s.writeEntry tb i ws now) := by
  cases tb with
  | lift => exact writeLift_served s i ws
  | landings => exact writeLandings_served s i ws
  | faultClass => exact writeFaultClass_served s i ws
  | scan => exact writeScan_served s i ws
  | recipe => exact writeRecipe_served s i ws
  | parameters => exact writeParameter_served s i ws now

theorem takePrefix_served (tb : Table) (i : Byte) (ws : List Word) : Served s (s.takePrefix tb i ws) := by
  unfold State.takePrefix
  split
  · exact .refused _
  · exact .of_done [] rfl

theorem readEntry_served (tb : Table) (i : Nat) (later : List Word) : Served s (s.readEntry tb i later) := by
  unfold State.readEntry
  split
  · exact .refused _
  · split
    · exact .refused _
    · exact .of_done _ rfl

theorem readContext_served (n : Nat) (later : List Word) (now : TimeTag) : Served s (s.readContext n later now) := by
  unfold State.readContext
  split
  · exact .refused _
  · split
    · exact .refused _
    · split
      · exact .refused _
      · exact .of_done _ rfl

theorem takeScanSwap_params (now : TimeTag) : (s.takeScanSwap now).params = s.params := by
  unfold State.takeScanSwap
  split
  · exact (startCycle_cycleKeeps s.swapScan now).eventKeeps.params
  · split <;> rfl

theorem requestSwap_served (sel : Nat) (now : TimeTag) : Served s (s.requestSwap sel now) := by
  unfold State.requestSwap
  split
  · unfold State.requestSwapScan
    split
    · exact .refused _
    · exact .of_done [] (takeScanSwap_params s now)
  · exact .of_done [] rfl
  · unfold State.requestSwapBoth
    split
    · exact .refused _
    · exact .of_done [] (takeScanSwap_params s.swapRecipe now)
  · exact .refused _

theorem control_served (n : Nat) (a : Action) (now : TimeTag) : Served s (s.control n a now) := by
  unfold State.control
  split
  · exact .refused _
  · split
    · exact .of_done [] (act_rescueFrame s _ a now).params
    · exact .refused _

theorem liftControl_served (n : Nat) (later : List Word) (now : TimeTag) : Served s (s.liftControl n later now) := by
  unfold State.liftControl
  split
  · exact .refused _
  · split
    · exact control_served s n _ now
    · split
      · exact .refused _
      · exact .refused _

theorem extendStep_served (n : Nat) (later : List Word) : Served s (s.extendStep n later) := by
  unfold State.extendStep
  split
  · exact .refused _
  · split
    · exact .refused _
    · split
      · exact .carried _ [] (.kept (modCreep_rescueFrame s _ _).params)
      · exact .refused _

/-- Every request is refused or carried out. -/
theorem serve_served (r : Request) (held : Option Prefix) (now : TimeTag) : Served s (s.serve r held now) := by
  cases r with
  | identify => exact .of_done _ rfl
  | storePrefix tb i ws => exact takePrefix_served s tb i ws
  | write tb i ws => exact writeEntry_served s tb _ _ now
  | read tb i later => exact readEntry_served s tb _ later
  | swap sel => exact requestSwap_served s _ now
  | readContext l later => exact readContext_served s _ later now
  | liftControl l later => exact liftControl_served s _ later now
  | control l a => exact control_served s _ a now
  | extendStep l later => exact extendStep_served s _ later
  | restart => exact .of_done [] (by rw [beginRestart_eq])
  | unknown c => exact .refused _
  | empty => exact .refused _

end

/-- A request answered neither DONE nor DONE-CLAMPED is one refused. -/
theorem Served.unchanged {s : State} {p : State × Answer} (h : Served s p) (hdone : p.2.status ≠ .done)
    (hclamped : p.2.status ≠ .doneClamped) : p.1 = s ∧ p.2.words = [] := by
  cases h with
  | refused st => exact ⟨rfl, rfl⟩
  | carried clamped ws _ =>
    cases clamped with
    | true => exact absurd rfl hclamped
    | false => exact absurd rfl hdone

theorem Served.paramStep {s : State} {p : State × Answer} (h : Served s p) : ParamStep s.params p.1.params := by
  cases h with
  | refused st => exact .kept rfl
  | carried _ _ hp => exact hp

end Sys2Proof.Machine

open Sys2Proof.Machine in
/-- Settles O6: of the two ways a request can end, only the refusal is answered with another status. -/
theorem refusedRequestsChangeNothing : Obligations.RefusedRequestsChangeNothing :=
  fun s r held now hdone hclamped => (serve_served s r held now).unchanged hdone hclamped
end

section
/-! The station parameters stay in their ranges (R161): a request stores one in its range or none, the reset pin stores
the power-on values, and no other command touches them. Then O58. -/

namespace Sys2Proof.Machine

open Slice0

/-! ### Stored parameters -/

theorem values_store (p : Params) {n : Nat} (v : Nat) (h : n ≤ 18) : (p.store n v).values = p.values.set n v :=
  (parametersAreNumbered.2 p).2 n v h

/-- Only numbers 17 and 18 store a node. -/
theorem nodes_store (p : Params) {n : Nat} (v : Nat) (h : n ≤ 18) :
    (p.store n v).powerNode = (if n = 17 then v else p.powerNode)
      ∧ (p.store n v).hazardNode = (if n = 18 then v else p.hazardNode) := by
  have hread : ∀ i, (p.store n v).values.getD i 0 = (p.values.set n v).getD i 0 := fun i => by rw [values_store p v h]
  refine ⟨(hread 17).trans ?_, (hread 18).trans ?_⟩ <;>
    simp [Params.values, List.getD_eq_getElem?_getD, List.getElem_set]

theorem inRange_iff (p : Params) :
    p.InRange ↔ List.Forall₂ (fun r v => r.1 ≤ v ∧ v ≤ r.2) paramRanges p.values ∧ p.powerNode ≠ p.hazardNode := by
  simp [Params.InRange, paramRanges, Params.values, and_assoc]

theorem forall₂_set {α β : Type} {R : α → β → Prop} {l : List α} {m : List β} (h : List.Forall₂ R l m) {n : Nat}
    {a : α} {b : β} (ha : l[n]? = some a) (hb : R a b) : List.Forall₂ R l (m.set n b) := by
  induction h generalizing n with
  | nil => exact .nil
  | cons hr hrest ih =>
    cases n with
    | zero =>
      cases ha
      exact .cons hb hrest
    | succ n => exact .cons hr (ih ha)

/-- A parameter stored in its range leaves all of them in theirs, and the two nodes apart. -/
theorem ParamStep.inRange {p q : Params} (h : ParamStep p q) (hp : p.InRange) : q.InRange := by
  cases h with
  | kept e => rwa [e]
  | @stored n lo hi v hrange hlo hhi hpower hhazard =>
    have hn : n ≤ 18 := Nat.lt_succ_iff.mp (List.getElem?_eq_some_iff.mp hrange).1
    obtain ⟨hvalues, hne⟩ := (inRange_iff p).mp hp
    obtain ⟨hpow, hhaz⟩ := nodes_store p v hn
    refine (inRange_iff _).mpr ⟨?_, ?_⟩
    · rw [values_store p v hn]
      exact forall₂_set hvalues hrange ⟨hlo, hhi⟩
    · rw [hpow, hhaz]
      split <;> split <;> omega

/-! ### Whole commands -/

theorem finish_params (s : State) (t : TimeTag) : (s.finish t).params = s.params :=
  (finish_cycleKeeps s t).eventKeeps.params

theorem endAllStop_params (s : State) (now : TimeTag) : (s.endAllStop now).params = s.params := by
  unfold State.endAllStop
  split
  · cases hv : (s.restartClear.scan.bank s.restartClear.scan.active).valid
    · rw [restartCycle_of_invalid _ now hv]
      rfl
    · rw [restartCycle_of_valid _ now hv]
      exact (startCycle_cycleKeeps _ now).eventKeeps.params
  · rfl

section
variable (s : State)

theorem agentTakes_paramStep (r : Request) (now : TimeTag) : ParamStep s.params (s.agentTakes r now).params := by
  rcases agentTakes_cases s r now with ⟨-, e⟩ | ⟨-, e⟩ <;> rw [e]
  · exact .kept rfl
  · exact (serve_served (s.consume r) r s.prefixHeld now).paramStep

theorem takeRequest_paramStep (r : Request) (n : Nat) (t : TimeTag) :
    ParamStep s.params (s.takeRequest r n t).params := by
  rcases takeRequest_cases s r n t with ⟨-, e⟩ | ⟨-, -, e⟩ | ⟨-, -, e⟩ <;> rw [e]
  · exact .kept rfl
  · exact .kept (finish_params _ t)
  · rw [finish_params]
    exact agentTakes_paramStep ((s.atTime t).arrive t) r t

theorem requestArrives_paramStep (d : BitVec 6) (payload : List Word) (t : TimeTag) :
    ParamStep s.params (s.requestArrives d payload t).params := by
  unfold State.requestArrives
  split
  · exact takeRequest_paramStep s _ _ t
  · split
    · exact .kept rfl
    · exact .kept (finish_params _ t)

theorem routeKind_paramStep (f : Frame) (now : TimeTag) : ParamStep s.params (s.routeKind f now).params := by
  unfold State.routeKind
  split
  · split
    · unfold State.routeRequest
      split
      · exact .kept rfl
      · exact agentTakes_paramStep s _ now
    · exact .kept rfl
  · split
    · exact .kept (takeRemote_untouched s _).eventKeeps.params
    · exact .kept rfl

theorem linkWords_paramStep (ws : List Word) (whole : Bool) (t : TimeTag) :
    ParamStep s.params (s.linkWords ws whole t).params := by
  unfold State.linkWords
  split
  · rw [State.linkFrame, finish_params]
    exact routeKind_paramStep ((s.atTime t).arrive t) _ t
  · exact .kept rfl

end

/-- The reset pin brings back the power-on values (R24); no other command does more to the parameters than a request. -/
theorem exec_params {c : Instr} {s u : State} (he : exec c s = .next u) :
    u.params = Params.powerOn ∨ ParamStep s.params u.params := by
  cases hr : requestOf c with
  | some q =>
    rw [exec_request (r := q.1) (n := q.2.1) (t := q.2.2) hr s] at he
    cases he
    exact .inr (takeRequest_paramStep s _ _ _)
  | none =>
    by_cases hp : c = .powerOnReset
    · subst hp
      cases he
      exact .inl rfl
    by_cases ha : ∃ t, c = .allStopSendEnd t
    · obtain ⟨t, rfl⟩ := ha
      cases he
      exact .inr (.kept ((finish_params _ t).trans (endAllStop_params _ t)))
    by_cases hm : ∃ t d p, c = .managementRequestDiscard t d p
    · obtain ⟨t, d, p, rfl⟩ := hm
      cases he
      exact .inr (requestArrives_paramStep s d p t)
    by_cases hl : ∃ t ws b, c = .linkFrameDiscard t ws b
    · obtain ⟨t, ws, b, rfl⟩ := hl
      cases he
      exact .inr (linkWords_paramStep s ws b t)
    · exact .inr (.kept (exec_eventKeeps c s u hr hp (fun t e => ha ⟨t, e⟩) (fun t d p e => hm ⟨t, d, p, e⟩)
        (fun t ws b e => hl ⟨t, ws, b, e⟩) he).params)

theorem powerOn_inRange : Params.powerOn.InRange := by decide

theorem exec_paramsInRange {c : Instr} {s u : State} (h : s.params.InRange) (he : exec c s = .next u) :
    u.params.InRange := by
  rcases exec_params he with e | hstep
  · rw [e]
    exact powerOn_inRange
  · exact hstep.inRange h

end Sys2Proof.Machine

open Sys2Proof.Machine in
/-- Settles O58: a request stores a parameter in its range or none, and the reset pin the power-on values. -/
theorem stepKeepsParametersInRange : Obligations.StepKeepsParametersInRange := by
  intro s t h he
  unfold step at he
  split at he
  · cases he
    exact h
  next c cs _ => exact exec_paramsInRange (s := { s with pending := cs }) h he
end

section
/-! IDENTIFY, PREFIX and the requests that name no kind or no bank (R156 to R158). Then O7, O4 and O26. -/

namespace Sys2Proof.Machine

open Slice0

/-! ### The prefix holder (R158) -/

/-- PREFIX replaces the holder, or finds no data word and leaves it empty. -/
theorem serve_storePrefix (s : State) (t : TimeTag) (tb : Table) (i : Byte) (ws : List Word) :
    (taken s t).serve (.storePrefix tb i ws) s.prefixHeld t =
      ({ taken s t with prefixHeld := if ws = [] then none else some ⟨tb, i, ws⟩ },
        ⟨if ws = [] then .invalid else .done, []⟩) := by
  cases ws <;> rfl

/-- A prefix of another table or index gives a write no words. -/
theorem gathered_of_other {p : Prefix} {tb : Table} {i : Byte} (ws : List Word) (h : ¬ (p.table = tb ∧ p.index = i)) :
    gathered (some p) tb i ws = ws := if_neg h

/-- Only a write of the held table and index reads what the holder held. -/
theorem serve_of_other_prefix (s : State) {r : Request} {p : Prefix} (now : TimeTag)
    (h : ∀ ws, r ≠ .write p.table p.index ws) : s.serve r (some p) now = s.serve r none now := by
  cases r with
  | write tb i ws =>
    have hother : ¬ (p.table = tb ∧ p.index = i) := by
      rintro ⟨rfl, rfl⟩
      exact h ws rfl
    show s.writeEntry tb i.toNat (gathered (some p) tb i ws) now = s.writeEntry tb i.toNat ws now
    rw [gathered_of_other ws hother]
  | _ => rfl

/-- A request that takes no words from the holder is taken as with an empty one. -/
theorem agentTakes_forgets {s : State} {r : Request} {p : Prefix} (now : TimeTag) (hp : s.prefixHeld = some p)
    (h : ∀ ws, r ≠ .write p.table p.index ws) :
    s.agentTakes r now = ({ s with prefixHeld := none } : State).agentTakes r now := by
  unfold State.agentTakes
  dsimp only
  rw [hp, serve_of_other_prefix _ now h]
  rfl

/-- A request that finds room for its reply reaches the Agent (R150). -/
theorem takeRequest_of_room {s : State} (r : Request) {n : Nat} (t : TimeTag) (hn : n ≤ 16)
    (hroom : s.link.mgmtReplies.length < 4) :
    s.takeRequest r n t = (((s.atTime t).arrive t).agentTakes r t).finish t := by
  rcases takeRequest_cases s r n t with ⟨h, -⟩ | ⟨-, h, -⟩ | ⟨-, -, e⟩
  · exact absurd hn (Nat.not_le.mpr h)
  · exact absurd hroom (Nat.not_lt.mpr h)
  · exact e

theorem takeRequest_forgets {s : State} {r : Request} {p : Prefix} {n : Nat} (t : TimeTag) (hn : n ≤ 16)
    (hroom : s.link.mgmtReplies.length < 4) (hp : s.prefixHeld = some p) (h : ∀ ws, r ≠ .write p.table p.index ws) :
    s.takeRequest r n t = ({ s with prefixHeld := none } : State).takeRequest r n t := by
  rw [takeRequest_of_room r t hn hroom, takeRequest_of_room (s := { s with prefixHeld := none }) r t hn hroom,
    agentTakes_forgets (s := (s.atTime t).arrive t) t hp h]
  rfl

/-! ### Requests that name nothing (R156) -/

theorem Table.ofCode_of_gt {n : Nat} (h : 5 < n) : Table.ofCode n = none := by
  match n with
  | _ + 6 => rfl

/-- The codes that `knownKind` leaves. -/
theorem knownKind_eq_false {k : Nat} (h : knownKind k = false) :
    (k ≠ 0x01 ∧ k ≠ 0x40 ∧ k ≠ 0x50 ∧ k ≠ 0x60 ∧ k ≠ 0x70 ∧ k ≠ 0xF0)
      ∧ (k / 16 = 1 ∨ k / 16 = 2 ∨ k / 16 = 3 → 5 < k % 16) := by
  obtain ⟨hlist, htable⟩ := Bool.or_eq_false_iff.mp h
  refine ⟨by simpa using hlist, fun hkind => ?_⟩
  simpa [knownTableKind, or_assoc, hkind] using htable

/-- A request of a table kind whose table code names no table. -/
theorem tableRequest_unknown {code : Byte} (f : Table → Request) (h : 5 < code.toNat % 16) :
    tableRequest code f = .unknown code := by
  rw [tableRequest, Table.ofCode_of_gt h]

/-- A kind code that R156 does not list, with its table code where it has one, makes an unknown request of that code. -/
theorem decodeRequest_unknown {v : Word} (rest : List Word) (h : knownKind (v.toNat / 256) = false) :
    decodeRequest (v :: rest) = .unknown (BitVec.ofNat 8 (v.toNat / 256)) := by
  obtain ⟨⟨h01, h40, h50, h60, h70, hF0⟩, htable⟩ := knownKind_eq_false h
  obtain ⟨code, hcode⟩ : ∃ code : Byte, code = BitVec.ofNat 8 (v.toNat / 256) := ⟨_, rfl⟩
  have hnat : code.toNat = v.toNat / 256 := by
    have := v.isLt
    rw [hcode, BitVec.toNat_ofNat]
    omega
  have hne : ∀ b : Byte, v.toNat / 256 ≠ b.toNat → code ≠ b := fun b hb e => hb (by rw [← hnat, e])
  rw [← hnat] at htable
  unfold decodeRequest
  dsimp only
  rw [field_high, ← hcode, if_neg (hne 0x01 h01)]
  split
  next hk => exact tableRequest_unknown _ (htable (.inl hk))
  split
  next hk => exact tableRequest_unknown _ (htable (.inr (.inl hk)))
  split
  next hk => exact tableRequest_unknown _ (htable (.inr (.inr hk)))
  rw [if_neg (hne 0x40 h40), if_neg (hne 0x50 h50), if_neg (hne 0x60 h60), if_neg (hne 0x70 h70), if_neg (hne 0xF0 hF0)]

theorem requestSwap_no_bank (s : State) {sel : Byte} (now : TimeTag) (h1 : sel ≠ 1) (h2 : sel ≠ 2) (h3 : sel ≠ 3) :
    s.requestSwap sel.toNat now = s.refuse .invalid := by
  unfold State.requestSwap
  split
  next h => exact absurd (BitVec.eq_of_toNat_eq h) h1
  next h => exact absurd (BitVec.eq_of_toNat_eq h) h2
  next h => exact absurd (BitVec.eq_of_toNat_eq h) h3
  next => rfl

end Sys2Proof.Machine

open Sys2Proof Sys2Proof.Machine Sys2Proof.Slice0 in
/-- Settles O7: a PREFIX is carried out or refused by its words alone, and no other request but the write it was held
for reads it. -/
theorem prefixIsStoredForItsWrite : Obligations.PrefixIsStoredForItsWrite := by
  refine ⟨fun s t tb i ws hs hlen => ?_, fun c s r n t p hc hn hroom hp hother => ?_⟩
  · have hexec := exec_answers (c := .storePrefix t tb i ws) rfl hs (Nat.succ_le_succ hlen) (by simp)
      (serve_storePrefix s t tb i ws) hs.2.2 rfl
    rw [hexec]
    split <;> rfl
  · rw [exec_request hc, exec_request hc, takeRequest_forgets t hn hroom hp hother]

open Sys2Proof Sys2Proof.Machine Sys2Proof.Slice0 in
/-- Settles O4: an idle part carries the request out, and one in a RESTART sequence answers BUSY. -/
theorem identifyIsAnswered : Obligations.IdentifyIsAnswered := by
  intro s t hroom hdue
  by_cases hr : s.restart = .idle
  · rw [if_pos hr]
    exact exec_answers (c := .identify t) (st := .done) rfl ⟨hroom, hr, hdue⟩ (by decide) (by simp) rfl hdue rfl
  · rw [if_neg hr, exec_request (c := .identify t) rfl, takeRequest_of_restarting .identify hdue (by decide) hroom hr]
    rfl

open Sys2Proof Sys2Proof.Machine Sys2Proof.Slice0 in
/-- Settles O26: the payload decodes to an unknown request, and the selector to no swap; both are refused. -/
theorem unknownRequestsAreRefused : Obligations.UnknownRequestsAreRefused := by
  refine fun s t hs => ⟨fun v rest hlen hkind => ?_, fun sel h1 h2 h3 => ?_⟩
  · have hreq : requestOf (.unknownRequest t (v :: rest)) =
        some (.unknown (BitVec.ofNat 8 (v.toNat / 256)), rest.length + 1, t) := by
      rw [requestOf, decodeRequest_unknown rest hkind]
      rfl
    refine exec_refuses (st := .unknown) hreq hs (Nat.succ_le_succ hlen) (by simp) rfl ?_
    have := v.isLt
    rw [Request.code, BitVec.toNat_ofNat]
    omega
  · exact exec_refuses (c := .swapInvalidSelector t sel) (st := .invalid) rfl hs (by decide) (by simp)
      (requestSwap_no_bank (taken s t) t h1 h2 h3) rfl
end

section
/-! Entries of the tables written as words and read back (R159, R160): every field has room for its value at its place,
and every code names the member it was made of. Then O16. -/

namespace Sys2Proof.Machine

open Slice0

/-! ### Codes -/

theorem DescriptorKind.ofCode_code (k : DescriptorKind) : DescriptorKind.ofCode k.code = some k := by cases k <;> rfl
theorem LaneChoice.ofCode_code (l : LaneChoice) : LaneChoice.ofCode l.code = some l := by cases l <;> rfl
theorem WaitCondition.ofCode_code (c : WaitCondition) : WaitCondition.ofCode c.code = some c := by cases c <;> rfl
theorem StepOrder.ofCode_code (k : StepOrder) : StepOrder.ofCode k.code = some k := by cases k <;> rfl
theorem EndOutcome.ofCode_code (o : EndOutcome) : EndOutcome.ofCode o.code = some o := by cases o <;> rfl

theorem DescriptorKind.code_lt (k : DescriptorKind) : k.code < 5 := by cases k <;> decide
theorem LaneChoice.code_lt (l : LaneChoice) : l.code < 3 := by cases l <;> decide
theorem WaitCondition.code_lt (c : WaitCondition) : c.code < 6 := by cases c <;> decide
theorem StepOrder.code_lt (k : StepOrder) : k.code < 7 := by cases k <;> decide
theorem EndOutcome.code_lt (o : EndOutcome) : o.code < 3 := by cases o <;> decide
theorem StepAction.code_lt (a : StepAction) : a.code < 7 := by cases a <;> simp [StepAction.code]
theorem FaultClass.code_lt (c : FaultClass) : c.code < 3 := by cases c <;> decide

/-! ### Scan descriptors (R125) -/

/-- The four bits of a care mask, read at its place. -/
theorem CareMask.ofWord_of_code {v : Word} {c : CareMask} (h : v.toNat % 16 = c.code) : CareMask.ofWord v = c := by
  obtain ⟨a, b, d, e⟩ := c
  have ha := bit_lt a
  have hb := bit_lt b
  have hd := bit_lt d
  have he := bit_lt e
  replace h : v.toNat % 16 = bit a + bit b * 2 + bit d * 4 + bit e * 8 := h
  have hfields : field v 0 1 = bit a ∧ field v 1 1 = bit b ∧ field v 2 1 = bit d ∧ field v 3 1 = bit e := by
    unfold field
    omega
  obtain ⟨h0, h1, h2, h3⟩ := hfields
  rw [CareMask.ofWord, h0, h1, h2, h3, bit_beq_one, bit_beq_one, bit_beq_one, bit_beq_one]

theorem CareMask.code_lt (c : CareMask) : c.code < 16 := by
  have ha := bit_lt c.faultPresent
  have hb := bit_lt c.mainsLost
  have hd := bit_lt c.doorsJammed
  have he := bit_lt c.safetyOpen
  unfold CareMask.code
  omega

/-- The fields of a descriptor's words, each at its place of R159. -/
theorem fields_descriptorWords {d : Descriptor} (hlift : d.lift ≤ 255) (hgap : d.gap ≤ 255) (hretry : d.retry ≤ 3) :
    w d.words 0 / 8192 = d.kind.code ∧ w d.words 0 / 2048 % 4 = d.lane.code ∧ w d.words 0 / 256 % 8 = d.retry
      ∧ w d.words 0 / 128 % 2 = bit d.switch ∧ w d.words 0 % 16 = d.care.code
      ∧ w d.words 1 / 256 = d.lift ∧ w d.words 1 % 256 = d.gap := by
  have hkind := d.kind.code_lt
  have hlane := d.lane.code_lt
  have hswitch := bit_lt d.switch
  have hcare := d.care.code_lt
  have h0 : w d.words 0 = d.kind.code * 8192 + d.lane.code * 2048 + d.retry * 256 + bit d.switch * 128 + d.care.code :=
    wordOf_toNat (by omega)
  have h1 : w d.words 1 = d.lift * 256 + d.gap := wordOf_toNat (by omega)
  rw [h0, h1]
  omega

theorem decodeDescriptor_words {d : Descriptor} (hlift : d.lift ≤ 255) (hgap : d.gap ≤ 255) (hretry : d.retry ≤ 3) :
    decodeDescriptor d.words = some d := by
  obtain ⟨hkind, hlane, hret, hswitch, hcare, hl, hg⟩ := fields_descriptorWords hlift hgap hretry
  have hnear : near 0 3 d.retry = d.retry := by rw [near, if_neg (by omega), if_neg (by omega)]
  rw [decodeDescriptor_eq (le_refl 2), hkind, hlane, DescriptorKind.ofCode_code, LaneChoice.ofCode_code,
    Option.bind_some, Option.map_some, descriptorWritten, hret, hswitch, hl, hg, hnear, bit_beq_one, CareMask.ofWord_of_code hcare]

/-! ### Step records (R89) -/

/-- The step kind and its parameter, which no kind but ORDER and CALL reads with a range (R90, log 17). -/
theorem decodeAction_parameter {a : StepAction} (horder : ∀ k m, a = .order k m → m ≤ 255)
    (hcall : ∀ n, a = .call n → n ≤ 95) : decodeAction a.code (wordOf a.parameter) = some a := by
  cases a with
  | wait c =>
    have := c.code_lt
    show (WaitCondition.ofCode (wordOf c.code).toNat).map StepAction.wait = _
    rw [wordOf_toNat (by omega), WaitCondition.ofCode_code]
    rfl
  | order k m =>
    have := k.code_lt
    have := horder k m rfl
    show (StepOrder.ofCode (field (wordOf (k.code * 4096 + m)) 12 4)).map
      (fun k' => StepAction.order k' (field (wordOf (k.code * 4096 + m)) 0 8)) = _
    have hk : field (wordOf (k.code * 4096 + m)) 12 4 = k.code := by
      rw [field_wordOf (by omega)]
      omega
    have hm : field (wordOf (k.code * 4096 + m)) 0 8 = m := by
      rw [field_wordOf (by omega)]
      omega
    rw [hk, hm, StepOrder.ofCode_code]
    rfl
  | creep => rfl
  | pause => rfl
  | call n =>
    have hn := hcall n rfl
    show (if (wordOf n).toNat ≤ 95 then some (StepAction.call (wordOf n).toNat) else none) = _
    rw [wordOf_toNat (by omega), if_pos hn]
  | ret => rfl
  | finish o =>
    have := o.code_lt
    show (EndOutcome.ofCode (wordOf o.code).toNat).map StepAction.finish = _
    rw [wordOf_toNat (by omega), EndOutcome.ofCode_code]
    rfl

/-- The fields of a step record's first word. -/
theorem fields_stepHead {r : StepRecord} (hcount : r.count ≤ 15) {head : Word} (hhead : head = wordAt r.words 0) :
    field head 12 4 = r.action.code ∧ field head 8 4 = r.count ∧ field head 0 1 = bit r.notify := by
  have hkind := r.action.code_lt
  have hnotify := bit_lt r.notify
  have hword : head.toNat = r.action.code * 4096 + r.count * 256 + bit r.notify := hhead ▸ wordOf_toNat (by omega)
  unfold field
  omega

/-- The two chain indices of a step record. -/
theorem fields_stepChains {r : StepRecord} (hdone : r.chainDone ≤ 95) (hfail : r.chainFail ≤ 95) {chains : Word}
    (hchains : chains = wordAt r.words 3) : field chains 8 8 = r.chainDone ∧ field chains 0 8 = r.chainFail := by
  have hword : chains.toNat = r.chainDone * 256 + r.chainFail := hchains ▸ wordOf_toNat (by omega)
  unfold field
  omega

theorem decodeStep_words {r : StepRecord} (hcount : r.count ≤ 15) (htimeout : r.timeout ≤ 65535)
    (hdone : r.chainDone ≤ 95) (hfail : r.chainFail ≤ 95) (horder : ∀ k m, r.action = .order k m → m ≤ 255)
    (hcall : ∀ n, r.action = .call n → n ≤ 95) : decodeStep r.words = some r := by
  obtain ⟨head, hhead⟩ : ∃ v, v = wordAt r.words 0 := ⟨_, rfl⟩
  obtain ⟨chains, hchains⟩ : ∃ v, v = wordAt r.words 3 := ⟨_, rfl⟩
  obtain ⟨hkind, hc, hnotify⟩ := fields_stepHead hcount hhead
  obtain ⟨hd, hf⟩ := fields_stepChains hdone hfail hchains
  have hwords : r.words = [head, wordOf r.action.parameter, wordOf r.timeout, chains] := by
    rw [hhead, hchains]
    rfl
  have htimer : (wordOf r.timeout).toNat = r.timeout := wordOf_toNat (by omega)
  rw [hwords, decodeStep, hd, hf, hkind, hc, hnotify, htimer, if_neg (by omega), decodeAction_parameter horder hcall,
    bit_beq_one]
  rfl

/-! ### Fault Class Table entries (R28) -/

theorem decodeFaultEntry_words (e : FaultEntry) : decodeFaultEntry e.words = some e := by
  have hcls := e.cls.code_lt
  have hbit := bit_lt e.immediate
  have hword : w e.words 0 = bit e.immediate * 256 + e.cls.code := wordOf_toNat (by omega)
  refine decodeFaultEntry_valid (List.cons_ne_nil _ _) ?_ ?_
  · omega
  · show _ = bit e.immediate
    omega

/-! ### Lift Table entries (R1) -/

/-- A stored scalar stays as it is when its word is written back. -/
theorem near_wordOf_near {lo hi : Nat} (n : Nat) (h : lo ≤ hi) (hhi : hi < 65536) :
    near lo hi (wordOf (near lo hi n)).toNat = near lo hi n := by
  have hle := near_le n h
  have hlo := le_near n h
  rw [wordOf_toNat (by omega)]
  generalize near lo hi n = m at hle hlo
  rw [near, if_neg (by omega), if_neg (by omega)]

theorem liftWritten_words (ws : List Word) : liftWritten (liftWritten ws).words = liftWritten ws := by
  have hservice : ∀ b : Bool, ((wordOf (bit b)).toNat == 1) = b := by decide
  have hkind : ∀ k : LiftKind, (if (wordOf k.code).toNat = 0 then LiftKind.vertical else .inclined) = k := by
    intro k
    cases k <;> decide
  have hsense : ∀ c : CountSense,
      (if (wordOf c.code).toNat = 0 then CountSense.upIncreases else .downIncreases) = c := by
    intro c
    cases c <;> decide
  unfold liftWritten
  congr 1
  case e_inService => exact hservice _
  case e_ringNode => exact wordOf_toNat (wordAt ws 1).isLt
  case e_kind => exact hkind _
  case e_countSense => exact hsense _
  all_goals exact near_wordOf_near _ (by decide) (by decide)

theorem decodeLiftEntry_words (ws : List Word) : decodeLiftEntry (liftWritten ws).words = some (liftWritten ws) := by
  have hservice : w (liftWritten ws).words 0 ≤ 1 := by
    show (wordOf (bit _)).toNat ≤ 1
    rw [wordOf_toNat (by have := bit_lt (liftWritten ws).inService; omega)]
    exact Nat.lt_succ_iff.mp (bit_lt _)
  have hkind : w (liftWritten ws).words 2 ≤ 1 := by
    show (wordOf (LiftKind.code _)).toNat ≤ 1
    cases (liftWritten ws).kind <;> decide
  have hsense : w (liftWritten ws).words 5 ≤ 1 := by
    show (wordOf (CountSense.code _)).toNat ≤ 1
    cases (liftWritten ws).countSense <;> decide
  have hlength : (liftWritten ws).words.length = 17 := rfl
  rw [decodeLiftEntry_eq, if_neg (by omega), liftWritten_words]

/-! ### Landing Lists (R38, R39) -/

theorem landingWords_length (ls : List Landing) : (landingWords ls).length = 1 + 2 * ls.length := by
  induction ls with
  | nil => rfl
  | cons d ds ih =>
    simp only [landingWords, List.map_cons, List.flatten_cons, List.length_cons, List.length_append,
      List.length_nil] at ih ⊢
    omega

/-- The two words of each landing, after the count word. -/
theorem wordAt_landingWords {ls : List Landing} {i : Nat} (h : i < ls.length) :
    wordAt (landingWords ls) (1 + 2 * i) = wordOf ls[i].height
      ∧ wordAt (landingWords ls) (2 + 2 * i) = wordOf (ls[i].zone * 256 + ls[i].side.code) := by
  induction ls generalizing i with
  | nil => exact absurd h (Nat.not_lt_zero i)
  | cons d ds ih =>
    cases i with
    | zero => exact ⟨rfl, rfl⟩
    | succ i =>
      obtain ⟨hheight, hplace⟩ := ih (Nat.lt_of_succ_lt_succ h)
      have h1 : 1 + 2 * (i + 1) = 2 * i + 3 := by omega
      have h2 : 2 + 2 * (i + 1) = 2 * i + 4 := by omega
      rw [Nat.add_comm] at hheight hplace
      rw [h1, h2]
      exact ⟨hheight, hplace⟩

section
variable {ws : List Word} {n : Nat}

theorem wordAt_landingsWritten {i : Nat} (h : i < n) :
    wordAt (landingWords (landingsWritten ws n)) (1 + 2 * i) = wordOf (landingWritten ws i).height
      ∧ wordAt (landingWords (landingsWritten ws n)) (2 + 2 * i) =
        wordOf ((landingWritten ws i).zone * 256 + (landingWritten ws i).side.code) := by
  have hi : i < (landingsWritten ws n).length := by simpa [landingsWritten] using h
  simpa [landingsWritten] using wordAt_landingWords hi

/-- The height of a landing reads as it was written. -/
theorem height_landingWords {i : Nat} (h : i < n) :
    w (landingWords (landingsWritten ws n)) (1 + 2 * i) = w ws (1 + 2 * i) := by
  rw [w, (wordAt_landingsWritten h).1]
  exact wordOf_toNat (wordAt ws (1 + 2 * i)).isLt

theorem landingWritten_side_code {i : Nat} (h : w ws (2 + 2 * i) % 4 ≠ 0) :
    (landingWritten ws i).side.code = w ws (2 + 2 * i) % 4 := by
  have hlt : w ws (2 + 2 * i) % 4 < 4 := Nat.mod_lt _ (by decide)
  unfold landingWritten
  generalize w ws (2 + 2 * i) % 4 = side at h hlt
  interval_cases side
  · exact absurd rfl h
  all_goals rfl

/-- The zone and the door side of a landing read as they were written, whatever stood in the bits between. -/
theorem place_landingWords {i : Nat} (h : i < n) (hzone : w ws (2 + 2 * i) / 256 ≤ 31)
    (hside : w ws (2 + 2 * i) % 4 ≠ 0) :
    w (landingWords (landingsWritten ws n)) (2 + 2 * i) / 256 = w ws (2 + 2 * i) / 256
      ∧ w (landingWords (landingsWritten ws n)) (2 + 2 * i) % 4 = w ws (2 + 2 * i) % 4 := by
  have hcode := landingWritten_side_code hside
  have hz : (landingWritten ws i).zone = w ws (2 + 2 * i) / 256 := rfl
  have hword : w (landingWords (landingsWritten ws n)) (2 + 2 * i) =
      w ws (2 + 2 * i) / 256 * 256 + w ws (2 + 2 * i) % 4 := by
    rw [w, (wordAt_landingsWritten h).2, hcode, hz]
    exact wordOf_toNat (by omega)
  rw [hword]
  omega

end

/-- The words of a list that a write stores write the same list. -/
theorem decodeLandingList_words {top : Nat} {ws : List Word} {ls : List Landing}
    (h : decodeLandingList top ws = some ls) : decodeLandingList top (landingWords ls) = some ls := by
  have hvalid : ¬ LandingsInvalid top ws := fun hbad => by
    rw [decodeLandingList_invalid hbad] at h
    exact nomatch h
  rw [decodeLandingList_valid hvalid] at h
  obtain rfl := Option.some.inj h
  simp only [LandingsInvalid, not_or, not_exists, not_and] at hvalid
  obtain ⟨-, h2, h12, -, hbad, habove, htop⟩ := hvalid
  generalize w ws 0 = n at h2 h12 hbad habove htop
  obtain ⟨vs, hvs⟩ : ∃ vs, vs = landingWords (landingsWritten ws n) := ⟨_, rfl⟩
  have hcount : w vs 0 = n := by
    have hn : (landingsWritten ws n).length = n := by simp [landingsWritten]
    rw [hvs]
    show (wordOf (landingsWritten ws n).length).toNat = n
    rw [hn, wordOf_toNat (by omega)]
  have hlength : vs.length = 1 + 2 * n := by
    rw [hvs, landingWords_length]
    simp [landingsWritten]
  have hheight : ∀ i < n, w vs (1 + 2 * i) = w ws (1 + 2 * i) := fun i hi => hvs ▸ height_landingWords hi
  have hplace : ∀ i < n, w vs (2 + 2 * i) / 256 = w ws (2 + 2 * i) / 256
      ∧ w vs (2 + 2 * i) % 4 = w ws (2 + 2 * i) % 4 := fun i hi => by
    obtain ⟨-, hzone, hside⟩ := hbad i hi
    exact hvs ▸ place_landingWords hi (Nat.not_lt.mp hzone) hside
  have hvalid : ¬ LandingsInvalid top vs := by
    rw [LandingsInvalid, hcount, hlength]
    rintro (hnil | hlow | hhigh | hshort | ⟨i, hi, hrefused⟩ | ⟨i, hi, hfirst, hnot⟩ | hover)
    · exact absurd (hlength.symm.trans (congrArg List.length hnil)) (by simp)
    · exact h2 hlow
    · exact h12 hhigh
    · exact absurd hshort (Nat.lt_irrefl _)
    · rw [hheight i hi, (hplace i hi).1, (hplace i hi).2] at hrefused
      obtain ⟨hh, hz, hs⟩ := hbad i hi
      rcases hrefused with h' | h' | h'
      · exact hh h'
      · exact hz h'
      · exact hs h'
    · rw [hheight i hi, hheight (i - 1) (by omega)] at hnot
      exact habove i hi hfirst hnot
    · rw [hheight (n - 1) (by omega)] at hover
      exact htop hover
  rw [← hvs, decodeLandingList_valid hvalid, hcount]
  refine congrArg some (List.map_congr_left fun i hi => ?_)
  have hlt := List.mem_range.mp hi
  rw [landingWritten, landingWritten, hheight i hlt, (hplace i hlt).1, (hplace i hlt).2]

end Sys2Proof.Machine

open Sys2Proof Sys2Proof.Machine Sys2Proof.Slice0 in
/-- Settles O16, one table after the other. -/
theorem entryWordsDecodeToTheEntry : Obligations.EntryWordsDecodeToTheEntry :=
  ⟨fun _ hlift hgap hretry => decodeDescriptor_words hlift hgap hretry,
    fun _ hcount htimeout hdone hfail horder hcall => decodeStep_words hcount htimeout hdone hfail horder hcall,
    decodeFaultEntry_words, fun ws _ => decodeLiftEntry_words ws, fun _ _ _ h => decodeLandingList_words h⟩
end

section
/-! The queue of waiting commands (logs 1 and 13): no command but POWER_ON_RESET names it, and that one keeps it. The
rescue machinery keeps it by `RescueFrame`, the transmitter by `transmit_link_only`; here is the rest. -/

namespace Sys2Proof.Machine

open Slice0

section
variable (s : State)

/-! ### Evaluations, the station link, remote commands -/

@[simp] theorem settle_pending (now : TimeTag) : (s.settle now).pending = s.pending :=
  (settle_rescueFrame s now).pending

@[simp] theorem transmit_pending : s.transmit.pending = s.pending := by rw [transmit_link_only s]

@[simp] theorem finish_pending (now : TimeTag) : (s.finish now).pending = s.pending := by simp [State.finish]

@[simp] theorem commandReply_pending (f : Frame) : (s.commandReply f).pending = s.pending := by
  rcases commandReply_cases s f with ⟨-, e⟩ | ⟨-, e⟩ <;> rw [e]

@[simp] theorem makeReply_pending (d : BitVec 6) (st : CommandStatus) : (s.makeReply d st).pending = s.pending :=
  commandReply_pending s _

@[simp] theorem takeRemote_pending (c : RemoteCommand) : (s.takeRemote c).pending = s.pending := by
  rcases takeRemote_cases s c with ⟨-, e⟩ | ⟨-, e⟩ | ⟨-, e⟩ | ⟨-, e⟩ <;> simp [e]

theorem offerCopy_pending (l : Lift) (p : List Word) (r : Report) : (s.offerCopy l p r).pending = s.pending := by
  unfold State.offerCopy
  split
  · rfl
  · split
    · rfl
    · split <;> rfl

@[simp] theorem takeReport_pending (l : Lift) (src : Nat) (p : List Word) (r : Report) (now : TimeTag) :
    (s.takeReport l src p r now).pending = s.pending := by
  rw [(takeReport_rescueFrame s l src p r now).pending]
  split
  · rfl
  · rw [transmit_pending, offerCopy_pending]

theorem expireSilence_pending (now : TimeTag) : (s.expireSilence now).pending = s.pending := by
  unfold State.expireSilence
  split <;> rfl

/-! ### Descriptors (R130, R142, R147) -/

theorem markSent_pending (l : Lift) (o : Order) : (s.markSent l o).pending = s.pending := by
  unfold State.markSent
  dsimp only
  split <;> split <;> rfl

theorem rejudge_pending (q : List RemoteCommand) : (s.rejudge q).1.pending = s.pending := by
  induction q generalizing s with
  | nil => rfl
  | cons c cs ih =>
    unfold State.rejudge
    split
    · rw [ih, makeReply_pending]
    · rfl

theorem takeSlot_pending (d : Descriptor) (now : TimeTag) : (s.takeSlot d now).1.pending = s.pending := by
  unfold State.takeSlot
  split
  · split
    · exact markSent_pending s _ _
    · rfl
  · have hq := rejudge_pending s s.orders.passQueue
    split
    next e =>
      rw [e] at hq
      exact hq
    next e =>
      rw [e] at hq
      exact hq

theorem takeDescriptor_pending (d : Descriptor) (now : TimeTag) : (s.takeDescriptor d now).1.pending = s.pending := by
  unfold State.takeDescriptor
  cases d.kind with
  | pause =>
    dsimp only
    split <;> rfl
  | pollLift =>
    dsimp only
    split <;> rfl
  | pollPower => rfl
  | pollHazard => rfl
  | orderSlot => exact takeSlot_pending s d now

theorem takeFrom_pending (ds : List Descriptor) (i : Nat) (now : TimeTag) :
    (s.takeFrom ds i now).1.pending = s.pending := by
  induction ds generalizing s i with
  | nil => rfl
  | cons d ds ih =>
    have hd := takeDescriptor_pending { s with scan := { s.scan with current := some i } } d now
    unfold State.takeFrom
    split
    next e =>
      rw [e] at hd
      exact (ih _ _).trans hd
    next e =>
      rw [e] at hd
      exact hd

/-! ### The scan cycle (R129, R130, R135) -/

theorem endCycle_pending (now : TimeTag) : (s.endCycle now).pending = s.pending := by
  unfold State.endCycle
  dsimp only
  split <;> split <;> rfl

/-- The renewal of one lift's CREEP step at a cycle start, when one runs (R129). -/
theorem renewed_rescueFrame (l : Lift) (now : TimeTag) :
    RescueFrame s (if s.inCreep l then s.renewCreep l now else s) := by
  split
  · exact renewCreep_rescueFrame s l now
  · exact .refl s

theorem openCycle_pending (now : TimeTag) : (s.openCycle now).pending = s.pending := by
  unfold State.openCycle
  extract_lets e a
  exact (settle_pending _ now).trans
    (foldl_rescueFrame _ (fun u l => renewed_rescueFrame u l now) allLifts a.setProbes).pending

theorem startCycle_pending (now : TimeTag) : (s.startCycle now).pending = s.pending := by
  have ho := openCycle_pending s now
  unfold State.startCycle
  extract_lets a
  have ht := (takeFrom_pending a (a.scan.bank a.scan.active).descriptors 0 now).trans ho
  split
  next e =>
    rw [e] at ht
    exact (endCycle_pending _ now).trans ht
  next e =>
    rw [e] at ht
    exact ht

theorem advance_pending (i : Nat) (now : TimeTag) : (s.advance i now).pending = s.pending := by
  have ht := takeFrom_pending s ((s.scan.bank s.scan.active).descriptors.drop i) i now
  unfold State.advance
  split
  next e =>
    rw [e] at ht
    have hend := (endCycle_pending _ now).trans ht
    dsimp only
    split
    · exact (startCycle_pending _ now).trans hend
    · exact hend
  next e =>
    rw [e] at ht
    exact ht

theorem expireGap_pending (now : TimeTag) : (s.expireGap now).pending = s.pending := by
  unfold State.expireGap
  split
  · split
    · exact advance_pending s _ now
    · rfl
  · rfl

theorem expireCycle_pending (now : TimeTag) : (s.expireCycle now).pending = s.pending := by
  unfold State.expireCycle
  split
  · split
    · exact startCycle_pending s now
    · rfl
  · rfl

theorem goOn_pending (g : GoingOn) (start : TimeTag) (gap : Nat) (now : TimeTag) :
    (s.goOn g start gap now).pending = s.pending := by
  cases g with
  | ended =>
    show (s.endWork start gap now).pending = s.pending
    unfold State.endWork
    split
    · exact advance_pending s _ now
    · rfl
  | retry d asked n => rfl
  | confirm d first lane => rfl

/-! ### What an exchange brings (R113, R131, R132, R134, R136) -/

theorem takePower_pending (p : List Word) (now : TimeTag) : (s.takePower p now).pending = s.pending := by
  unfold State.takePower
  dsimp only
  split <;> rfl

theorem takeHazard_pending (p : List Word) (now : TimeTag) : (s.takeHazard p now).pending = s.pending :=
  (takeHazard_rescueFrame s p now).pending

theorem deliver_pending (l : Lift) (p : Poster) (ok : Bool) (now : TimeTag) :
    (s.deliver l p ok now).pending = s.pending := (deliver_rescueFrame s l p ok now).pending

theorem useSend_pending (l : Lift) (o : Order) (now : TimeTag) : (s.useSend l o now).pending = s.pending := by
  unfold State.useSend
  split
  · exact deliver_pending (s.setSlot l none) l _ _ now
  · rfl

@[simp] theorem orderOutcome_pending (l : Lift) (tag : BitVec 4) (out : EchoOutcome) (now : TimeTag) :
    (s.orderOutcome l tag out now).pending = s.pending := by
  unfold State.orderOutcome
  split
  · split
    · cases out with
      | echo t refused =>
        dsimp only
        split
        · exact deliver_pending (s.setSlot l none) l _ _ now
        · exact useSend_pending s l _ now
      | silent => exact useSend_pending s l _ now
    · rfl
  · rfl

theorem liftReply_pending (d : Descriptor) (r : Reply) (now : TimeTag) :
    (s.liftReply d r now).1.pending = s.pending := by
  unfold State.liftReply
  split
  · dsimp only
    split
    · rfl
    · exact takeReport_pending s _ _ _ _ now
  · rfl

theorem jobReply_pending (job : Job) (r : Reply) (now : TimeTag) : (s.jobReply job r now).1.pending = s.pending := by
  unfold State.jobReply
  cases job with
  | poll d asked left =>
    dsimp only
    split
    · rw [settle_pending]
      split
      · exact takePower_pending s _ now
      · rfl
    · rw [settle_pending]
      split
      · exact takeHazard_pending s _ now
      · rfl
    · exact liftReply_pending s d r now
  | confirm d first =>
    dsimp only
    split
    · exact takeReport_pending s _ _ _ _ now
    · rfl
  | abandoned => rfl
  | order l tag => simp
  | command node => exact commandReply_pending s _

theorem pollMissed_pending (d : Descriptor) (asked : Lane) (left : Nat) (now : TimeTag) :
    (s.pollMissed d asked left now).1.pending = s.pending := by
  unfold State.pollMissed
  split
  · rfl
  · cases left with
    | succ n => rfl
    | zero =>
      dsimp only
      split
      · rw [settle_pending]
        exact (unansweredPoll_rescueFrame s _ now).pending
      · rfl

theorem jobMissed_pending (job : Job) (now : TimeTag) : (s.jobMissed job now).1.pending = s.pending := by
  unfold State.jobMissed
  cases job with
  | poll d asked left => exact pollMissed_pending s d asked left now
  | confirm d first =>
    dsimp only
    split
    · exact takeReport_pending s _ _ _ _ _
    · rfl
  | abandoned => rfl
  | order l tag => simp
  | command node => exact makeReply_pending s node .noAnswer

theorem closeExchange_pending (x : Exchange) (valid : Bool) :
    (s.closeExchange x valid).pending = s.pending := by
  obtain ⟨a, b, ns, e⟩ := closeExchange_eq s x valid
  rw [e]

theorem endExchange_pending (x : Exchange) (valid : Bool) {k : State → Job → State × GoingOn} (now : TimeTag)
    (hk : ∀ job, (k s job).1.pending = s.pending) : (s.endExchange x valid k now).pending = s.pending := by
  unfold State.endExchange
  split
  · exact closeExchange_pending s x valid
  · split
    · exact (goOn_pending _ _ _ _ now).trans ((closeExchange_pending _ x valid).trans (hk _))
    · exact closeExchange_pending s x valid

@[simp] theorem ringFrame_pending (kind : ReplyKind) (r : Reply) (now : TimeTag) :
    (s.ringFrame kind r now).pending = s.pending := by
  unfold State.ringFrame
  split
  · split
    · exact endExchange_pending s _ true now fun job => jobReply_pending s job r now
    · rfl
  · rfl

theorem closeWindow_pending (now : TimeTag) : (s.closeWindow now).pending = s.pending := by
  unfold State.closeWindow
  split
  · split
    · exact endExchange_pending s _ false now fun job => jobMissed_pending s job now
    · rfl
  · rfl

theorem sendEnd_pending (now : TimeTag) : (s.sendEnd now).pending = s.pending := by
  unfold State.sendEnd
  split
  · split <;> rfl
  · rfl

/-! ### Other expiries -/

theorem expireStep_pending (l : Lift) (now : TimeTag) : (s.expireStep l now).pending = s.pending :=
  (expireStep_rescueFrame s l now).pending

theorem expirePower_pending (now : TimeTag) : (s.expirePower now).pending = s.pending := by
  unfold State.expirePower
  split <;> rfl

/-! ### Management requests (R156 to R164) -/

theorem storeLift_pending (l : Lift) (e : LiftEntry) : (s.storeLift l e).pending = s.pending := by
  by_cases h : (s.lift l).state = .excluded <;> cases he : e.inService
  · rw [storeLift_stays_out s l e h he]
    rfl
  · rw [storeLift_enters s l e h he]
    rfl
  · rw [storeLift_leaves s l e h he]
    rfl
  · rw [storeLift_stays_in s l e h he, rewrite_eq]
    split <;> rfl

theorem writeLift_pending (i : Nat) (ws : List Word) : (s.writeLift i ws).1.pending = s.pending := by
  unfold State.writeLift
  split
  · rfl
  · split
    · rfl
    · split
      · rfl
      · exact storeLift_pending s _ _

theorem writeLandings_pending (i : Nat) (ws : List Word) : (s.writeLandings i ws).1.pending = s.pending := by
  unfold State.writeLandings
  split
  · rfl
  · split
    · rfl
    · split
      · rfl
      · rw [storeLandings_eq]
        rfl

theorem writeFaultClass_pending (i : Nat) (ws : List Word) : (s.writeFaultClass i ws).1.pending = s.pending := by
  unfold State.writeFaultClass
  split
  · split <;> rfl
  · rfl

theorem writeScan_pending (i : Nat) (ws : List Word) : (s.writeScan i ws).1.pending = s.pending := by
  unfold State.writeScan
  dsimp only
  split
  · rfl
  · split
    · rfl
    · split
      · split <;> rfl
      · split
        · rfl
        · split <;> rfl

theorem writeRecipe_pending (i : Nat) (ws : List Word) : (s.writeRecipe i ws).1.pending = s.pending := by
  unfold State.writeRecipe
  split
  · rfl
  · split
    · rfl
    · split <;> rfl

theorem paramStored_pending (n old new : Nat) (now : TimeTag) : (s.paramStored n old new now).pending = s.pending := by
  unfold State.paramStored
  extract_lets a b c d
  have ha : a.pending = s.pending := by
    unfold a State.floorWritten
    split
    · split <;> rfl
    · rfl
  have hb : b.pending = a.pending := by
    unfold b
    split
    · exact expirePower_pending a now
    · rfl
  have hc : c.pending = b.pending := by
    unfold c
    split
    · exact expireSilence_pending b now
    · rfl
  have hd : d.pending = s.pending := (evaluateAdmission_rescueFrame c now).1.pending.trans (hc.trans (hb.trans ha))
  split
  · exact (expireCycle_pending d now).trans hd
  · exact hd

theorem writeParameter_pending (n : Nat) (ws : List Word) (now : TimeTag) :
    (s.writeParameter n ws now).1.pending = s.pending := by
  unfold State.writeParameter
  split
  · rfl
  · rfl
  · split
    · rfl
    · exact paramStored_pending { s with params := _ } _ _ _ now

theorem writeEntry_pending (tb : Table) (i : Nat) (ws : List Word) (now : TimeTag) :
    (s.writeEntry tb i ws now).1.pending = s.pending := by
  cases tb with
  | lift => exact writeLift_pending s i ws
  | landings => exact writeLandings_pending s i ws
  | faultClass => exact writeFaultClass_pending s i ws
  | scan => exact writeScan_pending s i ws
  | recipe => exact writeRecipe_pending s i ws
  | parameters => exact writeParameter_pending s i ws now

theorem takeScanSwap_pending (now : TimeTag) : (s.takeScanSwap now).pending = s.pending := by
  unfold State.takeScanSwap
  split
  · exact startCycle_pending s.swapScan now
  · split <;> rfl

theorem requestSwap_pending (sel : Nat) (now : TimeTag) : (s.requestSwap sel now).1.pending = s.pending := by
  unfold State.requestSwap
  split
  · unfold State.requestSwapScan
    split
    · rfl
    · exact takeScanSwap_pending s now
  · rfl
  · unfold State.requestSwapBoth
    split
    · rfl
    · exact takeScanSwap_pending s.swapRecipe now
  · rfl

theorem control_pending (n : Nat) (a : Action) (now : TimeTag) : (s.control n a now).1.pending = s.pending := by
  unfold State.control
  split
  · rfl
  · split
    · exact (act_rescueFrame s _ a now).pending
    · rfl

theorem liftControl_pending (n : Nat) (later : List Word) (now : TimeTag) :
    (s.liftControl n later now).1.pending = s.pending := by
  unfold State.liftControl
  split
  · rfl
  · split
    · exact control_pending s n _ now
    · split <;> rfl

theorem extendStep_pending (n : Nat) (later : List Word) : (s.extendStep n later).1.pending = s.pending := by
  unfold State.extendStep
  split
  · rfl
  · split
    · rfl
    · split
      · exact (modCreep_rescueFrame s _ _).pending
      · rfl

/-- The RESTART sequence clears the runtime state (R24), the model's own queue apart. -/
theorem endAllStop_pending (now : TimeTag) : (s.endAllStop now).pending = s.pending := by
  unfold State.endAllStop
  split
  · cases hv : (s.restartClear.scan.bank s.restartClear.scan.active).valid
    · rw [restartCycle_of_invalid _ now hv]
      rfl
    · rw [restartCycle_of_valid _ now hv]
      exact startCycle_pending { s.restartClear with restart := .idle } now
  · rfl

/-- No request reads or writes the queue. -/
theorem serve_pending (r : Request) (held : Option Prefix) (now : TimeTag) :
    (s.serve r held now).1.pending = s.pending := by
  cases r with
  | identify => rfl
  | storePrefix tb i ws =>
    show (s.takePrefix tb i ws).1.pending = s.pending
    unfold State.takePrefix
    split <;> rfl
  | write tb i ws => exact writeEntry_pending s tb _ _ now
  | read tb i later => exact congrArg State.pending (readEntry_state s tb _ later)
  | swap sel => exact requestSwap_pending s _ now
  | readContext l later => exact congrArg State.pending (readContext_state s _ later now)
  | liftControl l later => exact liftControl_pending s _ later now
  | control l a => exact control_pending s _ a now
  | extendStep l later => exact extendStep_pending s _ later
  | restart =>
    show s.beginRestart.pending = s.pending
    rw [beginRestart_eq]
  | unknown c => rfl
  | empty => rfl

@[simp] theorem agentTakes_pending (r : Request) (now : TimeTag) : (s.agentTakes r now).pending = s.pending := by
  rcases agentTakes_cases s r now with ⟨-, e⟩ | ⟨-, e⟩ <;> rw [e]
  · rfl
  · exact serve_pending (s.consume r) r s.prefixHeld now

/-! ### Arrivals -/

theorem takeRequest_pending (r : Request) (n : Nat) (t : TimeTag) :
    (s.takeRequest r n t).pending = s.pending := by
  rcases takeRequest_cases s r n t with ⟨-, e⟩ | ⟨-, -, e⟩ | ⟨-, -, e⟩ <;> simp [e]

theorem requestArrives_pending (d : BitVec 6) (p : List Word) (t : TimeTag) :
    (s.requestArrives d p t).pending = s.pending := by
  unfold State.requestArrives
  split
  · exact takeRequest_pending s _ _ t
  · split <;> simp

theorem remoteArrives_pending (c : RemoteCommand) (t : TimeTag) : (s.remoteArrives c t).pending = s.pending := by
  unfold State.remoteArrives
  split <;> simp

@[simp] theorem routeKind_pending (f : Frame) (now : TimeTag) : (s.routeKind f now).pending = s.pending := by
  unfold State.routeKind
  split
  · split
    · unfold State.routeRequest
      split
      · rfl
      · exact agentTakes_pending s _ now
    · rfl
  · split
    · exact takeRemote_pending s _
    · rfl

theorem linkWords_pending (ws : List Word) (whole : Bool) (t : TimeTag) :
    (s.linkWords ws whole t).pending = s.pending := by
  unfold State.linkWords
  split
  · simp [State.linkFrame]
  · rfl

theorem replyArrives_pending (kind : ReplyKind) (r : Reply) (t : TimeTag) :
    (s.replyArrives kind r t).pending = s.pending := by simp [State.replyArrives]

theorem ringWords_pending (lane : Lane) (ws : List Word) (whole : Bool) (t : TimeTag) :
    (s.ringWords lane ws whole t).pending = s.pending := by
  unfold State.ringWords
  split
  · split
    · exact replyArrives_pending s _ _ t
    · rfl
  · rfl

end

/-! ### Whole commands -/

/-- A command answers a next state with the queue as it was. -/
def AnswersNext (c : Instr) (s : State) : Prop := ∃ u, exec c s = .next u ∧ u.pending = s.pending

/-- Every management request to node 0. -/
theorem answersNext_of_request {c : Instr} {r : Request} {n : Nat} {t : TimeTag} (h : requestOf c = some (r, n, t))
    (s : State) : AnswersNext c s := ⟨_, exec_request h s, takeRequest_pending s r n t⟩

/-- A command that ends with the evaluation owed and the transmitter (logs 5 and 11). -/
theorem answersNext_of_finish {c : Instr} {s u : State} {t : TimeTag} (he : exec c s = .next (u.finish t))
    (hu : u.pending = s.pending) : AnswersNext c s := ⟨_, he, (finish_pending u t).trans hu⟩

/-- Every other command: the reset pin, an arrival, an expiry, or the end of a send. -/
theorem answersNext_of_no_request {c : Instr} (h : requestOf c = none) (s : State) : AnswersNext c s := by
  cases c
  case powerOnReset => exact ⟨_, rfl, rfl⟩
  case allStopSendEnd t => exact answersNext_of_finish rfl (endAllStop_pending _ t)
  case managementRequestDiscard t d p => exact ⟨_, rfl, requestArrives_pending s d p t⟩
  case linkFrameDiscard t ws b => exact ⟨_, rfl, linkWords_pending s ws b t⟩
  case remoteCommand t d p => exact ⟨_, rfl, remoteArrives_pending s ⟨d, p⟩ t⟩
  case statusReport t r => exact ⟨_, rfl, replyArrives_pending s .status r t⟩
  case powerReport t r => exact ⟨_, rfl, replyArrives_pending s .power r t⟩
  case hazardReport t r => exact ⟨_, rfl, replyArrives_pending s .hazard r t⟩
  case orderEcho t r => exact ⟨_, rfl, replyArrives_pending s .echo r t⟩
  case commandReply t r => exact ⟨_, rfl, replyArrives_pending s .command r t⟩
  case ringFrameDiscard t lane ws b => exact ⟨_, rfl, ringWords_pending s lane ws b t⟩
  case exchangeSendEnd t => exact answersNext_of_finish rfl (sendEnd_pending _ t)
  case replyWindowClose t => exact answersNext_of_finish rfl (closeWindow_pending _ t)
  case descriptorGapExpiry t => exact answersNext_of_finish rfl (expireGap_pending _ t)
  case cycleStart t => exact answersNext_of_finish rfl (expireCycle_pending _ t)
  case stepTimerExpiry t l => exact answersNext_of_finish rfl (expireStep_pending _ l t)
  case powerStaleExpiry t => exact answersNext_of_finish rfl (expirePower_pending _ t)
  case silenceExpiry t => exact answersNext_of_finish rfl (expireSilence_pending _ t)
  case transmitEnd t => exact answersNext_of_finish (u := (s.atTime t).endTransmission) rfl rfl
  all_goals exact nomatch h

end Sys2Proof.Machine

open Sys2Proof Sys2Proof.Machine Sys2Proof.Slice0 in
/-- Settles O2, by whether the command is a management request; the reset pin alone names the queue, and keeps it. -/
theorem everyCommandAnswersNext : Obligations.EveryCommandAnswersNext := by
  intro c s
  cases hc : requestOf c with
  | some q => exact answersNext_of_request hc s
  | none => exact answersNext_of_no_request hc s

open Sys2Proof Sys2Proof.Machine in
/-- Settles O1, by whether a command waits. -/
theorem stepRunsTheFrontCommand : Obligations.StepRunsTheFrontCommand := by
  refine fun s => ⟨fun hempty => ?_, fun c cs hfront => ?_⟩
  · rw [step, hempty]
  · rw [step, hfront]
end

section
/-! The bounds of an execution (R93, R100): 32 entries and two return indices, under each operation on lift contexts. -/

namespace Sys2Proof.Machine

open Slice0

/-! ### What keeps executions within their bounds -/

/-- The record of a lift's execution, if one runs, counts at most 32 entries and holds at most two return indices. -/
abbrev LiftContext.StepsWithin (c : LiftContext) : Prop :=
  ∀ r ∈ c.rescue, r.budget ≤ Config.stepBudget ∧ r.stack.length ≤ Config.stackDepth

/-- Every execution that stands within its bounds in `s` does so in `u`. -/
abbrev StepsKept (s u : State) : Prop := ∀ k : Lift, (s.lift k).StepsWithin → (u.lift k).StepsWithin

theorem stepsWithin_of_none {c : LiftContext} (h : c.rescue = none) : c.StepsWithin := fun _ hr =>
  absurd (h.symm.trans hr) (Option.some_ne_none _).symm

namespace StepsKept

theorem refl (s : State) : StepsKept s s := fun _ => id

theorem trans {s u v : State} (h : StepsKept s u) (k : StepsKept u v) : StepsKept s v := fun i => k i ∘ h i

theorem of_same {s u : State} (h : u.lifts = s.lifts) : StepsKept s u := fun k => by
  show (s.lifts.get k).StepsWithin → (u.lifts.get k).StepsWithin
  rw [h]
  exact id

/-- One context replaced. -/
theorem of_lift {s u : State} {l : Lift} {c : LiftContext} (h : ∀ k, u.lift k = if k = l then c else s.lift k)
    (hc : (s.lift l).StepsWithin → c.StepsWithin) : StepsKept s u := fun k => by
  rw [h k]
  split
  next hk => exact hk ▸ hc
  · exact id

end StepsKept

section
variable (s : State) (l : Lift)

theorem setLift_stepsKept {c : LiftContext} (h : (s.lift l).StepsWithin → c.StepsWithin) :
    StepsKept s (s.setLift l c) := .of_lift (fun k => lift_setLift s l k c) h

theorem moved_stepsKept {c : LiftContext} (h : (s.lift l).StepsWithin → c.StepsWithin) :
    StepsKept s (moved s l c) := .of_lift (fun k => lift_moved s l k c) h

theorem left_stepsKept : StepsKept s (left s l) := fun k => by
  rw [lift_left]
  exact id

/-- A departure from the queue and a context replaced, as in every entry that a QUEUED lift may make. -/
theorem moved_left_stepsKept {c : LiftContext} (h : (s.lift l).StepsWithin → c.StepsWithin) :
    StepsKept s (moved (left s l) l c) :=
  (left_stepsKept s l).trans (moved_stepsKept _ l (by rwa [lift_left]))

/-! ### Entries into rescue states -/

theorem enter_stepsKept (st : RescueState) : StepsKept s (s.enter l st) := by
  rw [enter_eq_moved]
  exact moved_stepsKept s l id

theorem enterNormal_stepsKept : StepsKept s (s.enterNormal l) := by
  rw [enterNormal_eq]
  exact moved_left_stepsKept s l id

theorem enterManual_stepsKept (why : ManualReason) : StepsKept s (s.enterManual l why) := by
  rw [enterManual_eq]
  exact moved_left_stepsKept s l fun _ => stepsWithin_of_none rfl

theorem enterQueued_stepsKept (now : TimeTag) : StepsKept s (s.enterQueued l now) := by
  rw [enterQueued_eq]
  exact (moved_stepsKept s l (by exact id)).trans (.of_same rfl)

theorem enterReleased_stepsKept : StepsKept s (s.enterReleased l) := by
  have h : StepsKept s (moved s l { s.lift l with state := .released, rescue := none }) :=
    moved_stepsKept s l fun _ => stepsWithin_of_none rfl
  obtain ⟨u, rfl, e | e⟩ := enterReleased_cases s l <;> rw [e]
  · exact h
  · exact h.trans (.of_same rfl)

theorem writePlan_stepsKept (now : TimeTag) (p : Plan) : StepsKept s (s.writePlan l now p) :=
  .of_lift (fun k => lift_writePlan s l k now p) (by exact id)

theorem planStalled_stepsKept (now : TimeTag) : StepsKept s (s.planStalled l now) := by
  have h : StepsKept s (s.runPlanner l now) := writePlan_stepsKept s l now _
  unfold State.planStalled
  dsimp only
  split
  · exact h
  · split
    · exact h.trans (enterQueued_stepsKept _ l now)
    · exact h.trans (enterManual_stepsKept _ l _)

theorem evaluateStalled_stepsKept (now : TimeTag) : StepsKept s (s.evaluateStalled l now) := by
  unfold State.evaluateStalled
  split
  · split
    · exact enterNormal_stepsKept s l
    · split
      · exact enterManual_stepsKept s l _
      · exact planStalled_stepsKept s l now
  · exact planStalled_stepsKept s l now

theorem enterStalled_stepsKept (now : TimeTag) : StepsKept s (s.enterStalled l now) :=
  (enter_stepsKept s l _).trans (evaluateStalled_stepsKept _ l now)

theorem replanQueued_stepsKept (now : TimeTag) : StepsKept s (s.replanQueued l now) := by
  have h : StepsKept s (s.runPlanner l now) := writePlan_stepsKept s l now _
  unfold State.replanQueued
  dsimp only
  split
  · exact h.trans (enterManual_stepsKept _ l _)
  · split
    · exact h
    · exact h.trans (.of_same rfl)

/-! ### The end of an execution (R16) -/

theorem dropExecution_stepsKept : StepsKept s (s.dropExecution l) := by
  cases h : (s.lift l).rescue with
  | none =>
    unfold State.dropExecution
    rw [h]
    exact .refl s
  | some r =>
    rw [dropExecution_eq s l r h]
    exact (setLift_stepsKept s l fun _ => stepsWithin_of_none rfl).trans (.of_same rfl)

theorem endRetry_stepsKept (now : TimeTag) : StepsKept s (s.endRetry l now) := by
  unfold State.endRetry
  split
  · exact (setLift_stepsKept s l (by exact id)).trans (enterStalled_stepsKept _ l now)
  · exact enterManual_stepsKept s l _

theorem endAs_stepsKept (why : Ending) (aborted : Bool) (now : TimeTag) :
    StepsKept s (s.endAs l why aborted now) := by
  unfold State.endAs
  cases why with
  | reached outcome =>
    cases aborted with
    | true => exact enterManual_stepsKept s l _
    | false =>
      cases outcome with
      | released => exact enterReleased_stepsKept s l
      | retry => exact endRetry_stepsKept s l now
      | manual => exact enterManual_stepsKept s l _
  | stepLimit => exact enterManual_stepsKept s l _
  | safety => exact .trans (u := s.postPartStop l) (.of_same rfl) (enterManual_stepsKept _ l _)
  | lostContact => exact .trans (u := s.setSlot l none) (.of_same rfl) (enterManual_stepsKept _ l _)

theorem endExecution_stepsKept (why : Ending) (now : TimeTag) : StepsKept s (s.endExecution l why now) := by
  rw [endExecution_eq]
  exact ((dropExecution_stepsKept s l).trans (endAs_stepsKept _ l why _ now)).trans (.of_same rfl)

/-! ### Within a step (R94, R97, R100, R102) -/

/-- A change of the record that neither counts an entry nor pushes a return index. -/
theorem modRescue_stepsKept {f : RescueRecord → RescueRecord}
    (hf : ∀ r, (f r).budget = r.budget ∧ (f r).stack.length ≤ r.stack.length) : StepsKept s (s.modRescue l f) := by
  refine .of_lift (fun k => lift_modLift s l k _) fun h q hq => ?_
  obtain ⟨r, hr, rfl⟩ := Option.map_eq_some_iff.mp hq
  obtain ⟨hbudget, hstack⟩ := h r hr
  exact ⟨(hf r).1 ▸ hbudget, (hf r).2.trans hstack⟩

theorem modCreep_stepsKept (f : CreepWork → CreepWork) : StepsKept s (s.modCreep l f) :=
  modRescue_stepsKept s l fun _ => ⟨rfl, Nat.le_refl _⟩

theorem post_stepsKept (k : OrderKind) (p : Poster) (n : Nat) : StepsKept s (s.post l k p n).1 := by
  unfold State.post
  split
  · split <;> exact .of_same rfl
  · exact .of_same rfl

theorem releaseCreep_stepsKept : StepsKept s (s.releaseCreep l) := by
  have h : StepsKept s (s.modRescue l fun r => { r with creepReleased := true }) :=
    modRescue_stepsKept s l fun _ => ⟨rfl, Nat.le_refl _⟩
  unfold State.releaseCreep
  split
  · split
    · exact .refl s
    · exact h.trans (.of_same rfl)
  · exact .refl s

theorem closeStep_stepsKept (sr : StepRecord) (ok : Bool) : StepsKept s (s.closeStep l sr ok) := by
  unfold State.closeStep
  extract_lets a b c
  have ha : StepsKept s a := by
    unfold a
    split
    · obtain h | h := withdrawOwn_cases s l <;> rw [h] <;> exact .of_same rfl
    · exact .refl s
  have hb : StepsKept a b := by
    unfold b
    split
    · exact releaseCreep_stepsKept a l
    · exact .refl a
  have hc : StepsKept b c := by
    unfold c
    split <;> exact .of_same rfl
  exact ((ha.trans hb).trans hc).trans (modRescue_stepsKept c l fun _ => ⟨rfl, Nat.le_refl _⟩)

/-- A step left keeps the return stack, or empties it for the abort recipe (R108). -/
theorem leaveStep_stepsKept (sr : StepRecord) (ok : Bool) : StepsKept s (s.leaveStep l sr ok).1 := by
  have h := closeStep_stepsKept s l sr ok
  unfold State.leaveStep
  extract_lets deferred u
  split
  · exact h.trans (modRescue_stepsKept u l fun _ => ⟨rfl, Nat.zero_le _⟩)
  · exact h

theorem enterOrder_stepsKept (sr : StepRecord) (k : StepOrder) (m : Nat) :
    StepsKept s (s.enterOrder l sr k m).1 := by
  unfold State.enterOrder
  split
  · exact leaveStep_stepsKept s l sr false
  · dsimp only
    split
    · exact post_stepsKept s l _ _ _
    · exact (post_stepsKept s l _ _ _).trans (leaveStep_stepsKept _ l sr false)

theorem enterCreep_stepsKept (sr : StepRecord) (now : TimeTag) : StepsKept s (s.enterCreep l sr now).1 := by
  unfold State.enterCreep
  extract_lets oldDirection e a b
  have h : StepsKept s b := .trans (u := a) (.of_same rfl) (writePlan_stepsKept a l now _)
  clear_value b
  split
  · exact h.trans (leaveStep_stepsKept b l sr false)
  · exact h.trans (leaveStep_stepsKept b l sr true)
  · extract_lets p
    have hp : StepsKept s p.1 := h.trans (post_stepsKept b l _ _ _)
    split
    · exact hp.trans (modRescue_stepsKept _ l fun _ => ⟨rfl, Nat.le_refl _⟩)
    · exact hp.trans (leaveStep_stepsKept _ l sr false)

/-- A CALL pushes a return index only where the stack has room for it (R100). -/
theorem enterCall_stepsKept {r : RescueRecord} (h : (s.lift l).rescue = some r) (sr : StepRecord) (target : Nat) :
    StepsKept s (s.enterCall l sr r target).1 := by
  unfold State.enterCall
  split
  next hroom =>
    rw [modRescue_eq _ h]
    refine (setLift_stepsKept s l fun hs q hq => ?_).trans (closeStep_stepsKept _ l sr true)
    obtain rfl := Option.some.inj hq
    exact ⟨(hs r h).1, hroom⟩
  · exact closeStep_stepsKept s l sr false

theorem enterReturn_stepsKept (sr : StepRecord) (r : RescueRecord) : StepsKept s (s.enterReturn l sr r).1 := by
  unfold State.enterReturn
  split
  · refine .trans (u := s.modRescue l fun r => { r with stack := r.stack.tail }) ?_ (closeStep_stepsKept _ l sr true)
    exact modRescue_stepsKept s l fun r => ⟨rfl, List.length_tail.trans_le (Nat.sub_le _ 1)⟩
  · exact closeStep_stepsKept s l sr false

/-! ### Entries (R93) -/

theorem entryAction_stepsKept {r : RescueRecord} (h : (s.lift l).rescue = some r) (sr : StepRecord) (now : TimeTag) :
    StepsKept s (s.entryAction l sr r now).1 := by
  unfold State.entryAction
  cases sr.action with
  | wait _ => exact .refl s
  | pause => exact .refl s
  | order k m => exact enterOrder_stepsKept s l sr k m
  | creep => exact enterCreep_stepsKept s l sr now
  | call target => exact enterCall_stepsKept s l h sr target
  | ret => exact enterReturn_stepsKept s l sr r
  | finish outcome => exact endExecution_stepsKept s l _ now

/-- An entry counts itself only below the budget of 32; the 33rd ends the execution. -/
theorem enterOnce_stepsKept (i : Nat) (now : TimeTag) : StepsKept s (s.enterOnce l i now).1 := by
  cases h : (s.lift l).rescue with
  | none =>
    unfold State.enterOnce
    rw [h]
    exact .refl s
  | some r =>
    rcases Nat.lt_or_ge r.budget 32 with hb | hb
    · rw [enterOnce_of_budget i now h hb]
      refine (setLift_stepsKept s l fun hs q hq => ?_).trans
        (entryAction_stepsKept _ l (congrArg LiftContext.rescue (lift_setLift_same s l _)) _ now)
      obtain rfl := Option.some.inj hq
      exact ⟨hb, (hs r h).2⟩
    · rw [enterOnce_of_spent i now h hb]
      exact endExecution_stepsKept s l _ now

theorem runEntries_stepsKept (n : Nat) (i : Nat) (now : TimeTag) : StepsKept s (State.runEntries n s l i now) := by
  induction n generalizing s i with
  | zero => exact .refl s
  | succ n ih =>
    have h := enterOnce_stepsKept s l i now
    unfold State.runEntries
    split
    next e =>
      rw [e] at h
      exact h
    next u j e =>
      rw [e] at h
      exact h.trans (ih u j)

theorem startStep_stepsKept (i : Nat) (now : TimeTag) : StepsKept s (s.startStep l i now) :=
  runEntries_stepsKept s l _ i now

theorem endStep_stepsKept (ok : Bool) (now : TimeTag) : StepsKept s (s.endStep l ok now) := by
  unfold State.endStep
  split
  · exact (leaveStep_stepsKept s l _ ok).trans (startStep_stepsKept _ l _ now)
  · exact .refl s

/-! ### Events of a running execution (R95 to R108) -/

theorem renewCreep_stepsKept (now : TimeTag) : StepsKept s (s.renewCreep l now) := by
  unfold State.renewCreep
  split
  · extract_lets p
    have hp : StepsKept s p.1 := post_stepsKept s l _ _ _
    split
    · exact hp
    · exact hp.trans (endStep_stepsKept _ l false now)
  · exact .refl s

theorem orderLanding_stepsKept (i : Nat) (now : TimeTag) : StepsKept s (s.orderLanding l i now) :=
  (modCreep_stepsKept s l _).trans (renewCreep_stepsKept _ l now)

theorem creepReport_stepsKept (r : Report) (now : TimeTag) : StepsKept s (s.creepReport l r now) := by
  unfold State.creepReport
  split
  · exact .refl s
  · split
    · exact endStep_stepsKept s l _ now
    · extract_lets progress a inMarker
      have ha : StepsKept s a := modRescue_stepsKept s l fun _ => ⟨rfl, Nat.le_refl _⟩
      clear_value a inMarker
      split
      · split
        · exact ha.trans (orderLanding_stepsKept a l _ now)
        · exact ha
      · exact ha

theorem stepReport_stepsKept (r : Report) (now : TimeTag) : StepsKept s (s.stepReport l r now) := by
  unfold State.stepReport
  split
  · exact .refl s
  · split
    · extract_lets repeats a
      have ha : StepsKept s a := modRescue_stepsKept s l fun _ => ⟨rfl, Nat.le_refl _⟩
      clear_value a
      split
      · exact ha.trans (endStep_stepsKept a l true now)
      · exact ha
    · exact creepReport_stepsKept s l r now
    · exact .refl s

theorem replanRescuing_stepsKept (now : TimeTag) : StepsKept s (s.replanRescuing l now) := by
  unfold State.replanRescuing
  split
  next w p rr _ _ _ =>
    extract_lets targetUsable a within
    have ha : StepsKept s a := writePlan_stepsKept s l now _
    clear_value a within
    split
    · exact .refl s
    · split
      · exact ha.trans (orderLanding_stepsKept a l _ now)
      · split
        · exact ha.trans (orderLanding_stepsKept a l _ now)
        · exact ha.trans (endStep_stepsKept a l false now)
  · exact .refl s

theorem deliver_stepsKept (p : Poster) (ok : Bool) (now : TimeTag) : StepsKept s (s.deliver l p ok now) := by
  unfold State.deliver
  split
  · exact .refl s
  · split
    · split
      · exact endStep_stepsKept s l ok now
      · split
        · exact modCreep_stepsKept s l _
        · exact endStep_stepsKept s l false now
      · exact .refl s
    · exact .refl s

theorem expireStep_stepsKept (now : TimeTag) : StepsKept s (s.expireStep l now) := by
  unfold State.expireStep
  split
  · split
    · exact endStep_stepsKept s l _ now
    · exact .refl s
  · exact .refl s

theorem abortNow_stepsKept (now : TimeTag) : StepsKept s (s.abortNow l now) := by
  unfold State.abortNow
  extract_lets a b c
  have ha : StepsKept s a := modRescue_stepsKept s l fun _ => ⟨rfl, Nat.le_refl _⟩
  have hb : StepsKept a b := by
    unfold b
    split
    · exact releaseCreep_stepsKept a l
    · exact .refl a
  have hc : StepsKept b c :=
    .trans (u := b.postPartStop l) (.of_same rfl) (modRescue_stepsKept _ l fun _ => ⟨rfl, Nat.zero_le _⟩)
  exact ((ha.trans hb).trans hc).trans (startStep_stepsKept c l _ now)

theorem abortExecution_stepsKept (now : TimeTag) : StepsKept s (s.abortExecution l now) := by
  unfold State.abortExecution
  split
  · exact .refl s
  · split
    · exact .refl s
    · split
      · split
        · extract_lets a
          have ha : StepsKept s a := modRescue_stepsKept s l fun _ => ⟨rfl, Nat.le_refl _⟩
          exact (ha.trans (modCreep_stepsKept a l _)).trans (orderLanding_stepsKept _ l _ now)
        · exact abortNow_stepsKept s l now
      · exact abortNow_stepsKept s l now

/-! ### Grants (R14, R84) -/

/-- A grant creates a record with no entry counted and an empty return stack. -/
theorem beginRescue_stepsKept (passed : List Lift) : StepsKept s (s.beginRescue l passed) := fun k => by
  by_cases hk : k = l
  · subst hk
    rw [lift_beginRescue_same]
    intro _ r hr
    obtain rfl := Option.some.inj hr
    exact ⟨Nat.zero_le _, Nat.zero_le _⟩
  · obtain ⟨q, e, -⟩ := foldl_raiseBypass_context (s.dequeue l) passed k
    rw [lift_beginRescue_other s passed hk, e, lift_dequeue, if_neg hk]
    exact id

theorem walks_stepsKept (n : Nat) (now : TimeTag) : StepsKept s (State.walks n s now) := by
  induction n generalizing s with
  | zero => exact .refl s
  | succ n ih =>
    unfold State.walks
    split
    · split
      next k passed _ =>
        exact ((beginRescue_stepsKept s k passed).trans (startStep_stepsKept _ k _ now)).trans (ih _)
      · exact .refl s
    · exact .refl s

theorem evaluateAdmission_stepsKept (now : TimeTag) : StepsKept s (s.evaluateAdmission now) :=
  (walks_stepsKept s s.walkBound now).trans (.of_same rfl)

/-! ### Reports, unanswered polls, hazards, lift control -/

theorem debounce_stepsKept (n : Nat) (now : TimeTag) : StepsKept s (s.debounce l n now) := by
  have h : StepsKept s (s.modLift l fun c => { c with suspectCount := n }) := setLift_stepsKept s l (by exact id)
  unfold State.debounce
  dsimp only
  split
  · exact (h.trans (setLift_stepsKept _ l (by exact id))).trans (enterStalled_stepsKept _ l now)
  · exact h.trans (enter_stepsKept _ l _)

theorem reportNormal_stepsKept (v : Verdict) (now : TimeTag) : StepsKept s (s.reportNormal l v now) := by
  unfold State.reportNormal
  split
  · exact debounce_stepsKept s l _ now
  · exact .refl s

theorem reportSuspect_stepsKept (v : Verdict) (now : TimeTag) : StepsKept s (s.reportSuspect l v now) := by
  unfold State.reportSuspect
  split
  · exact debounce_stepsKept s l _ now
  · exact enterNormal_stepsKept s l

theorem reportQueued_stepsKept (v : Verdict) (now : TimeTag) : StepsKept s (s.reportQueued l v now) := by
  unfold State.reportQueued
  split
  · exact enterNormal_stepsKept s l
  · split
    · exact enterManual_stepsKept s l _
    · exact replanQueued_stepsKept s l now

theorem reportRescuing_stepsKept (v : Verdict) (r : Report) (now : TimeTag) :
    StepsKept s (s.reportRescuing l v r now) := by
  unfold State.reportRescuing
  split
  · exact endExecution_stepsKept s l _ now
  · exact stepReport_stepsKept s l r now

theorem reportReleased_stepsKept (v : Verdict) (r : Report) (before : Option Nat) :
    StepsKept s (s.reportReleased l v r before) := by
  unfold State.reportReleased
  extract_lets a
  have ha : StepsKept s a := by
    unfold a
    split <;> exact .of_same rfl
  split
  · exact ha.trans (enterNormal_stepsKept a l)
  · exact ha

theorem reportManual_stepsKept (v : Verdict) (r : Report) : StepsKept s (s.reportManual l v r) := by
  unfold State.reportManual
  split
  · exact enterNormal_stepsKept s l
  · exact .refl s

theorem reportOffline_stepsKept (v : Verdict) (r : Report) (before : Option Nat) (now : TimeTag) :
    StepsKept s (s.reportOffline l v r before now) := by
  obtain ⟨a, hdef⟩ : ∃ a, a = s.modLift l fun c => { c with beforeOffline := none } := ⟨_, rfl⟩
  have ha : StepsKept s a := by
    rw [hdef]
    exact setLift_stepsKept s l (by exact id)
  have hnormal := ha.trans ((enterNormal_stepsKept a l).trans (reportNormal_stepsKept _ l v now))
  have hstalled : StepsKept s (if v.trapping then a.enterStalled l now else (a.enterNormal l).reportNormal l v now) := by
    split
    · exact ha.trans (enterStalled_stepsKept a l now)
    · exact hnormal
  unfold State.reportOffline
  dsimp only
  rw [← hdef]
  split
  · exact ha.trans ((enter_stepsKept a l _).trans (reportManual_stepsKept _ l v r))
  · exact ha.trans ((enter_stepsKept a l _).trans (reportReleased_stepsKept _ l v r before))
  · exact hstalled
  · exact hstalled
  · exact hnormal

theorem reportByState_stepsKept (v : Verdict) (r : Report) (before : Option Nat) (now : TimeTag) :
    StepsKept s (s.reportByState l v r before now) := by
  unfold State.reportByState
  cases (s.lift l).state with
  | excluded => exact .refl s
  | normal => exact reportNormal_stepsKept s l v now
  | suspect => exact reportSuspect_stepsKept s l v now
  | stalled => exact evaluateStalled_stepsKept s l now
  | queued => exact reportQueued_stepsKept s l v now
  | rescuing => exact reportRescuing_stepsKept s l v r now
  | released => exact reportReleased_stepsKept s l v r before
  | manual => exact reportManual_stepsKept s l v r
  | offline => exact reportOffline_stepsKept s l v r before now

theorem storeReport_stepsKept (r : Report) (now : TimeTag) : StepsKept s (s.storeReport l r now) :=
  setLift_stepsKept s l (by exact id)

theorem unansweredPoll_stepsKept (now : TimeTag) : StepsKept s (s.unansweredPoll l now) := by
  obtain ⟨hexcluded, hbelow, hat⟩ := unansweredPollsAreCounted s l now _ _ _ rfl rfl rfl
  have hcount : StepsKept s (s.setLift l { s.lift l with unanswered := min 15 ((s.lift l).unanswered + 1) }) :=
    setLift_stepsKept s l (by exact id)
  by_cases he : (s.lift l).state = .excluded
  · rw [hexcluded he]
    exact .refl s
  by_cases hn : min 15 ((s.lift l).unanswered + 1) < s.params.offlineLimit
  · rw [hbelow he hn]
    exact hcount
  obtain ⟨hoffline, hrescuing, helse⟩ := hat he (Nat.not_lt.mp hn)
  by_cases ho : (s.lift l).state = .offline
  · rw [hoffline ho]
    exact hcount
  by_cases hr : (s.lift l).state = .rescuing
  · rw [hrescuing hr]
    exact hcount.trans (endExecution_stepsKept _ l _ now)
  · rw [helse ho hr]
    exact moved_left_stepsKept s l (by exact id)

theorem hazardReplan_stepsKept (changed : BitVec 32) (now : TimeTag) : StepsKept s (s.hazardReplan changed now l) := by
  unfold State.hazardReplan
  split
  · split
    · exact evaluateStalled_stepsKept s l now
    · exact replanQueued_stepsKept s l now
    · exact replanRescuing_stepsKept s l now
    · exact .refl s
  · exact .refl s

theorem act_stepsKept (a : Action) (now : TimeTag) : StepsKept s (s.act l a now) := by
  cases a with
  | hold =>
    by_cases hq : (s.lift l).state = .queued
    · rw [State.act, holdLift_of_queued s l now hq]
      exact (moved_left_stepsKept s l (by exact id)).trans (evaluateStalled_stepsKept _ l now)
    · rw [State.act, holdLift_of_not_queued s l now hq]
      exact setLift_stepsKept s l (by exact id)
  | release =>
    show StepsKept s (s.releaseLift l now)
    unfold State.releaseLift
    extract_lets a
    have ha : StepsKept s a := setLift_stepsKept s l (by exact id)
    split
    · exact ha.trans (evaluateStalled_stepsKept a l now)
    · exact ha
  | abort => exact abortExecution_stepsKept s l now
  | forceManual => exact enterManual_stepsKept s l _
  | clear => exact enterNormal_stepsKept s l

theorem extendStep_stepsKept (i : Nat) (later : List Word) : StepsKept s (s.extendStep i later).1 := by
  unfold State.extendStep
  split
  · exact .refl s
  · split
    · exact .refl s
    · split
      · exact modCreep_stepsKept s _ _
      · exact .refl s

/-! ### Writes of LIFT and LANDINGS, RESTART -/

/-- An accepted LIFT write leaves the record of a running execution, or a fresh context without one (R3, R7, R8). -/
theorem storeLift_stepsKept (e : LiftEntry) : StepsKept s (s.storeLift l e) := by
  have hfresh : ∀ st, StepsKept s (s.setLift l (fresh e (s.lift l).landings st)) := fun _ =>
    setLift_stepsKept s l fun _ => stepsWithin_of_none rfl
  by_cases h : (s.lift l).state = .excluded <;> cases he : e.inService
  · rw [storeLift_stays_out s l e h he]
    exact setLift_stepsKept s l (by exact id)
  · rw [storeLift_enters s l e h he]
    exact (hfresh .normal).trans (.of_same rfl)
  · rw [storeLift_leaves s l e h he]
    exact (hfresh .excluded).trans (.of_same rfl)
  · rw [storeLift_stays_in s l e h he]
    exact .of_lift (fun k => lift_rewrite s l k e) (by rw [rewritten_eq]; exact id)

theorem writeLift_stepsKept (i : Nat) (ws : List Word) : StepsKept s (s.writeLift i ws).1 := by
  unfold State.writeLift
  split
  · exact .refl s
  · split
    · exact .refl s
    · split
      · exact .refl s
      · exact storeLift_stepsKept s _ _

theorem writeLandings_stepsKept (i : Nat) (ws : List Word) : StepsKept s (s.writeLandings i ws).1 := by
  unfold State.writeLandings
  split
  · exact .refl s
  · split
    · exact .refl s
    · split
      · exact .refl s
      · dsimp only [State.done]
        rw [storeLandings_eq]
        refine setLift_stepsKept s _ ?_
        split <;> exact id

end

theorem reset_stepsBounded : State.reset.StepsBounded := fun l => by
  rw [lift_reset]
  exact stepsWithin_of_none rfl

/-- Each operation that a step may make keeps every execution within its bounds. -/
theorem liftChange_stepsBounded {s u : State} (h : LiftChange s u) (hs : s.StepsBounded) : u.StepsBounded := by
  have hkept : StepsKept s u → u.StepsBounded := fun hk l => hk l (hs l)
  cases h with
  | same hl _ => exact hkept (.of_same hl)
  | renewCreep l now => exact hkept (renewCreep_stepsKept s l now)
  | deliver l p ok now => exact hkept (deliver_stepsKept s l p ok now)
  | expireStep l now => exact hkept (expireStep_stepsKept s l now)
  | evaluateAdmission now => exact hkept (evaluateAdmission_stepsKept s now)
  | report l v r before now _ =>
    exact hkept ((storeReport_stepsKept s l r now).trans (reportByState_stepsKept _ l v r before now))
  | unansweredPoll l now => exact hkept (unansweredPoll_stepsKept s l now)
  | hazardReplan changed now l => exact hkept (hazardReplan_stepsKept s l changed now)
  | act l a now _ => exact hkept (act_stepsKept s l a now)
  | extendStep i later => exact hkept (extendStep_stepsKept s i later)
  | writeLift i ws => exact hkept (writeLift_stepsKept s i ws)
  | writeLandings i ws => exact hkept (writeLandings_stepsKept s i ws)
  | restartClear =>
    intro l
    rw [lift_restartClear]
    exact stepsWithin_of_none rfl
  | reset => exact reset_stepsBounded

end Sys2Proof.Machine

open Sys2Proof Sys2Proof.Machine in
/-- Settles O59: an entry is counted below the budget and a return index pushed below the depth, a grant starts from
neither, and nothing else moves the two figures upward. -/
theorem stepKeepsExecutionsBounded : Obligations.StepKeepsExecutionsBounded := fun _ _ hs he =>
  (step_liftChanges he).invariant liftChange_stepsBounded hs
end

section
/-! Writes of the inactive recipe bank (R89, R90, R159): which words are a step record, and the checks of the write. -/

namespace Sys2Proof.Machine

open Slice0

/-! ### Codes that name a member -/

theorem EndOutcome.isSome_ofCode_iff (n : Nat) : (EndOutcome.ofCode n).isSome ↔ n ≤ 2 := by
  match n with
  | 0 | 1 | 2 => simp [EndOutcome.ofCode]
  | _ + 3 => simp [EndOutcome.ofCode]

theorem WaitCondition.isSome_ofCode_iff (n : Nat) : (WaitCondition.ofCode n).isSome ↔ n ≤ 5 := by
  match n with
  | 0 | 1 | 2 | 3 | 4 | 5 => simp [WaitCondition.ofCode]
  | _ + 6 => simp [WaitCondition.ofCode]

/-- Code 2 is CREEP, which no ORDER step may name (R90). -/
theorem StepOrder.isSome_ofCode_iff (n : Nat) : (StepOrder.ofCode n).isSome ↔ n ≤ 6 ∧ n ≠ 2 := by
  match n with
  | 0 | 1 | 2 | 3 | 4 | 5 | 6 => simp [StepOrder.ofCode]
  | _ + 7 => simp [StepOrder.ofCode]

theorem EndOutcome.code_of_ofCode {n : Nat} {o : EndOutcome} (h : EndOutcome.ofCode n = some o) : o.code = n := by
  unfold EndOutcome.ofCode at h
  split at h <;> cases h <;> rfl

theorem WaitCondition.code_of_ofCode {n : Nat} {c : WaitCondition} (h : WaitCondition.ofCode n = some c) :
    c.code = n := by
  unfold WaitCondition.ofCode at h
  split at h <;> cases h <;> rfl

theorem StepOrder.code_of_ofCode {n : Nat} {k : StepOrder} (h : StepOrder.ofCode n = some k) : k.code = n := by
  unfold StepOrder.ofCode at h
  split at h <;> cases h <;> rfl

/-! ### The step kind and its parameter (R90) -/

theorem field_high_nibble (v : Word) : field v 12 4 = v.toNat / 4096 := by
  have := v.isLt
  unfold field
  omega

theorem field_low_bit (v : Word) : field v 0 1 = v.toNat % 2 := by
  unfold field
  omega

/-- The step kinds and the parameters that they allow. -/
theorem isSome_decodeAction_iff (n : Nat) (p : Word) :
    (decodeAction n p).isSome ↔
      n ≤ 6 ∧ (n = 0 → p.toNat ≤ 2) ∧ (n = 1 → p.toNat ≤ 5)
        ∧ (n = 2 → p.toNat / 4096 ≤ 6 ∧ p.toNat / 4096 ≠ 2) ∧ (n = 5 → p.toNat ≤ 95) := by
  match n with
  | 0 => simp [decodeAction, EndOutcome.isSome_ofCode_iff]
  | 1 => simp [decodeAction, WaitCondition.isSome_ofCode_iff]
  | 2 => simp [decodeAction, StepOrder.isSome_ofCode_iff, field_high_nibble]
  | 3 => simp [decodeAction]
  | 4 => simp [decodeAction]
  | 5 =>
    rcases Nat.lt_or_ge 95 p.toNat with hp | hp
    · simp [decodeAction, Nat.not_le.mpr hp]
    · simp [decodeAction, hp]
  | 6 => simp [decodeAction]
  | _ + 7 => simp [decodeAction]

/-- The member that a kind and its parameter word name: an ORDER keeps the message of any order kind (log 17). -/
theorem decodeAction_names {n : Nat} {p : Word} {a : StepAction} (h : decodeAction n p = some a) :
    a.code = n
      ∧ (a ≠ .creep → a ≠ .pause → a ≠ .ret → (∀ k m, a ≠ .order k m) → a.parameter = p.toNat)
      ∧ ∀ k m, a = .order k m → k.code = p.toNat / 4096 ∧ m = p.toNat % 256 := by
  unfold decodeAction at h
  split at h
  · obtain ⟨o, ho, rfl⟩ := Option.map_eq_some_iff.mp h
    exact ⟨rfl, fun _ _ _ _ => EndOutcome.code_of_ofCode ho, nofun⟩
  · obtain ⟨c, hc, rfl⟩ := Option.map_eq_some_iff.mp h
    exact ⟨rfl, fun _ _ _ _ => WaitCondition.code_of_ofCode hc, nofun⟩
  · obtain ⟨k, hk, rfl⟩ := Option.map_eq_some_iff.mp h
    refine ⟨rfl, fun _ _ _ hno => absurd rfl (hno _ _), ?_⟩
    rintro _ _ ⟨⟩
    exact ⟨(StepOrder.code_of_ofCode hk).trans (field_high_nibble p), field_low_byte p⟩
  · cases h
    exact ⟨rfl, fun hno => absurd rfl hno, nofun⟩
  · cases h
    exact ⟨rfl, fun _ hno => absurd rfl hno, nofun⟩
  · split at h
    · cases h
      exact ⟨rfl, fun _ _ _ _ => rfl, nofun⟩
    · cases h
  · cases h
    exact ⟨rfl, fun _ _ hno => absurd rfl hno, nofun⟩
  · cases h

/-! ### The step record that words write (R90, R159) -/

/-- The step record of a kind with its parameter, its other fields those of the words. -/
def stepWritten (a : StepAction) (ws : List Word) : StepRecord :=
  { action := a, count := w ws 0 / 256 % 16, timeout := w ws 2, chainDone := w ws 3 / 256, chainFail := w ws 3 % 256,
    notify := w ws 0 % 2 == 1 }

theorem decodeStep_short {ws : List Word} (h : ws.length < 4) : decodeStep ws = none := by
  match ws with
  | [] | [_] | [_, _] | [_, _, _] => rfl
  | _ :: _ :: _ :: _ :: _ => exact absurd h (by simp)

theorem decodeStep_eq {ws : List Word} (h : 4 ≤ ws.length) :
    decodeStep ws =
      if 95 < w ws 3 / 256 ∨ 95 < w ws 3 % 256 then none
      else (decodeAction (w ws 0 / 4096) (wordAt ws 1)).map fun a => stepWritten a ws := by
  match ws with
  | v :: p :: t :: c :: rest =>
    have hcount : field v 8 4 = v.toNat / 256 % 16 := rfl
    rw [decodeStep, field_high, field_low_byte, field_high_nibble, field_low_bit, hcount]
    rfl

theorem isSome_decodeStep_iff (ws : List Word) :
    (decodeStep ws).isSome ↔
      4 ≤ ws.length ∧ w ws 3 / 256 ≤ 95 ∧ w ws 3 % 256 ≤ 95 ∧ (decodeAction (w ws 0 / 4096) (wordAt ws 1)).isSome := by
  rcases Nat.lt_or_ge ws.length 4 with hshort | hlong
  · simp [decodeStep_short hshort, Nat.not_le.mpr hshort]
  · rw [decodeStep_eq hlong]
    split
    next hchain => simp only [Option.isSome_none, Bool.false_eq_true, false_iff]; omega
    next hchain =>
      obtain ⟨hdone, hfail⟩ := not_or.mp hchain
      simp [hlong, Nat.not_lt.mp hdone, Nat.not_lt.mp hfail]

theorem decodeStep_names {ws : List Word} {r : StepRecord} (h : decodeStep ws = some r) :
    ∃ a, decodeAction (w ws 0 / 4096) (wordAt ws 1) = some a ∧ r = stepWritten a ws := by
  obtain ⟨hlong, -⟩ := (isSome_decodeStep_iff ws).mp (by rw [h]; rfl)
  rw [decodeStep_eq hlong] at h
  split at h
  · cases h
  · obtain ⟨a, ha, rfl⟩ := Option.map_eq_some_iff.mp h
    exact ⟨a, ha, rfl⟩

/-! ### The checks of the write (R90) -/

theorem RecipeBankId.eq_other_iff (a b : RecipeBankId) : a = b.other ↔ a ≠ b := by
  cases a <;> cases b <;> decide

theorem bankInUse_iff (s : State) (b : RecipeBankId) :
    s.bankInUse b = true ↔ ∃ l : Lift, ∃ r ∈ (s.lift l).rescue, r.bank = b := by
  simp [State.bankInUse, allLifts]

/-- The record of a recipe bank replaced that is not the active one. -/
theorem setStep_inactive (rt : RecipeTable) {i : Nat} (h : i < 96) (r : StepRecord) :
    rt.setStep rt.active.other i r =
      match rt.active with
      | .bank0 => { rt with bank1 := rt.bank1.set i r h }
      | .bank1 => { rt with bank0 := rt.bank0.set i r h } := by
  unfold RecipeTable.setStep
  rw [dif_pos h]
  cases rt.active <;> rfl

section
variable {s : State} {i : Nat} (ws : List Word)

theorem writeRecipe_range (h : 95 < i) : s.writeRecipe i ws = s.refuse .range := if_pos h

theorem writeRecipe_inUse (h : i < 96) (hu : s.bankInUse s.recipes.active.other = true) :
    s.writeRecipe i ws = s.refuse .inUse :=
  (if_neg (by omega)).trans (if_pos hu)

theorem writeRecipe_free (h : i < 96) (hu : s.bankInUse s.recipes.active.other = false) :
    s.writeRecipe i ws =
      match decodeStep ws with
      | none => s.refuse .invalid
      | some r => ({ s with recipes := s.recipes.setStep s.recipes.active.other i r }).done :=
  (if_neg (by omega)).trans (if_neg (by simp [hu]))

end

/-- The command refused by the rule of its table (R156). -/
theorem exec_writeEntryRecipe_refuses {s : State} {t : TimeTag} {i : Byte} {ws : List Word} (st : ReplyStatus)
    (hs : Serves s) (hlen : ws.length ≤ 15)
    (h : (taken s t).writeRecipe i.toNat (data s .recipe i ws) = (taken s t).refuse st) :
    exec (.writeEntryRecipe t i ws) s = .next (answered (taken s t) (reply st.code 0x24 [])) :=
  exec_refuses (r := .write .recipe i ws) (n := ws.length + 1) rfl hs (by omega) (by simp)
    ((serve_write s t .recipe i ws).trans h) rfl

/-- The command accepted by the rule of its table: the Recipe Table replaced, and DONE (R90). -/
theorem exec_writeEntryRecipe_stores {s : State} {t : TimeTag} {i : Byte} {ws : List Word} {rt : RecipeTable}
    (hs : Serves s) (hlen : ws.length ≤ 15)
    (h : (taken s t).writeRecipe i.toNat (data s .recipe i ws) = ({ taken s t with recipes := rt }).done) :
    exec (.writeEntryRecipe t i ws) s = .next (answered { taken s t with recipes := rt } (reply 0 0x24 [])) :=
  exec_answers (st := .done) (r := .write .recipe i ws) (n := ws.length + 1) rfl hs (by omega) (by simp)
    ((serve_write s t .recipe i ws).trans h) hs.2.2 rfl

end Sys2Proof.Machine

open Sys2Proof Sys2Proof.Machine Sys2Proof.Slice0 in
/-- Settles O13: each check decides the write before the next one is made, and the words decode field by field. -/
theorem recipeWriteIsDecided : Obligations.RecipeWriteIsDecided := by
  refine ⟨fun s t i ws hs hlen => ⟨fun hi => exec_writeEntryRecipe_refuses .range hs hlen (writeRecipe_range _ hi),
    fun hi => ?_⟩, fun ws => ⟨?_, fun r hr => ?_⟩⟩
  · have hused := bankInUse_iff (taken s t) s.recipes.active.other
    simp only [RecipeBankId.eq_other_iff, lift_taken] at hused
    refine ⟨fun hbusy => exec_writeEntryRecipe_refuses .inUse hs hlen (writeRecipe_inUse _ hi (hused.mpr hbusy)),
      fun hfree => ?_⟩
    have hnot : (taken s t).bankInUse s.recipes.active.other = false := by
      rw [← Bool.not_eq_true, hused]
      rintro ⟨l, r, hr, hbank⟩
      exact hbank (hfree l r hr)
    have hwrite := writeRecipe_free (s := taken s t) (data s .recipe i ws) hi hnot
    refine ⟨fun hbad => exec_writeEntryRecipe_refuses .invalid hs hlen ?_, fun r hr => ?_⟩
    · rw [hwrite, hbad]
    · rw [hr] at hwrite
      rw [exec_writeEntryRecipe_stores hs hlen hwrite]
      exact congrArg (fun rt => Host.Outcome.next (answered { taken s t with recipes := rt } (reply 0 0x24 [])))
        (setStep_inactive s.recipes hi r)
  · rw [isSome_decodeStep_iff, isSome_decodeAction_iff]
    rfl
  · obtain ⟨a, ha, rfl⟩ := decodeStep_names hr
    obtain ⟨hcode, hparameter, horder⟩ := decodeAction_names ha
    exact ⟨hcode, rfl, rfl, rfl, rfl, rfl, hparameter, horder⟩
end

section
/-! The scan cycle as equations (R129, R130, R135): what taking descriptors leaves alone, what a cycle start sets before
it takes descriptor 0, and a cycle end. Then the scan banks and their swaps (R91, R128, R162). -/

namespace Sys2Proof.Machine

open Slice0

/-! ### Descriptors taken (R130) -/

/-- `u` differs from `s` in the exchange in flight, the descriptor and phase of the Scan Engine, the Order Dispatcher
and the port only. -/
abbrev DescriptorFrame (s u : State) : Prop :=
  u = { s with exchange := u.exchange, scan := { s.scan with current := u.scan.current, phase := u.scan.phase },
               orders := u.orders, link := u.link }

theorem DescriptorFrame.trans {s u v : State} (h : DescriptorFrame s u) (k : DescriptorFrame u v) :
    DescriptorFrame s v := by
  unfold DescriptorFrame at h k ⊢
  rw [k, h]

theorem markSent_descriptorFrame (s : State) (l : Lift) (o : Order) : DescriptorFrame s (s.markSent l o) := by
  unfold State.markSent
  dsimp only
  split <;> split <;> rfl

theorem rejudge_descriptorFrame (q : List RemoteCommand) (s : State) : DescriptorFrame s (s.rejudge q).1 := by
  induction q generalizing s with
  | nil => rfl
  | cons c cs ih =>
    have hreply : DescriptorFrame s (s.makeReply c.dest .underRescue) := by
      rcases commandReply_cases s (madeReplyFrame c.dest 1) with ⟨-, e⟩ | ⟨-, e⟩
      · exact (congrArg (DescriptorFrame s) e).mpr rfl
      · exact (congrArg (DescriptorFrame s) e).mpr rfl
    unfold State.rejudge
    split
    · exact hreply.trans (ih _)
    · rfl

theorem takeSlot_descriptorFrame (s : State) (d : Descriptor) (now : TimeTag) :
    DescriptorFrame s (s.takeSlot d now).1 := by
  unfold State.takeSlot
  split
  · split
    · exact (markSent_descriptorFrame s _ _).trans rfl
    · rfl
  · have h := rejudge_descriptorFrame s.orders.passQueue s
    split
    next e =>
      rw [e] at h
      exact h
    next e =>
      rw [e] at h
      exact h.trans rfl

theorem takeDescriptor_descriptorFrame (s : State) (d : Descriptor) (now : TimeTag) :
    DescriptorFrame s (s.takeDescriptor d now).1 := by
  unfold State.takeDescriptor
  cases d.kind with
  | pause =>
    dsimp only
    split <;> rfl
  | pollLift =>
    dsimp only
    split <;> rfl
  | pollPower => rfl
  | pollHazard => rfl
  | orderSlot => exact takeSlot_descriptorFrame s d now

theorem takeFrom_descriptorFrame (ds : List Descriptor) (s : State) (i : Nat) (now : TimeTag) :
    DescriptorFrame s (s.takeFrom ds i now).1 := by
  induction ds generalizing s i with
  | nil => rfl
  | cons d ds ih =>
    have h : DescriptorFrame s (({ s with scan := { s.scan with current := some i } } : State).takeDescriptor d now).1 :=
      DescriptorFrame.trans (u := { s with scan := { s.scan with current := some i } }) rfl
        (takeDescriptor_descriptorFrame _ d now)
    unfold State.takeFrom
    split
    next e =>
      rw [e] at h
      exact h.trans (ih _ _)
    next e =>
      rw [e] at h
      exact h

/-! ### A cycle start up to descriptor 0 (R116, R129) -/

/-- The state in which a cycle has started, before any CREEP order is renewed. -/
def cycleBase (s : State) (now : TimeTag) : State :=
  { s with
    scan := { s.scan with running := true, startTime := some now, current := some 0,
                          creepSeen := allLifts.any s.inCreep }
    laneA := { s.laneA with probe := probeAt s.scan.cycleCounter s.laneA s.laneB }
    laneB := { s.laneB with probe := probeAt s.scan.cycleCounter s.laneB s.laneA } }

theorem openCycle_eq (s : State) (now : TimeTag) :
    s.openCycle now =
      (allLifts.foldl (fun u l => if u.inCreep l then u.renewCreep l now else u) (cycleBase s now)).settle now := rfl

/-- The renewals and the evaluation touch what the rescue machinery may touch. -/
theorem openCycle_rescueFrame (s : State) (now : TimeTag) : RescueFrame (cycleBase s now) (s.openCycle now) := by
  have hrenew : ∀ (u : State) (l : Lift), RescueFrame u (if u.inCreep l then u.renewCreep l now else u) := by
    intro u l
    split
    · exact renewCreep_rescueFrame u l now
    · exact .refl u
  rw [openCycle_eq]
  exact (foldl_rescueFrame _ hrenew allLifts _).trans (settle_rescueFrame _ now)

/-! ### A cycle end (R135) -/

theorem swapScan_eq (s : State) :
    s.swapScan = raised { s with scan := { s.scan with active := s.scan.active.other, swapPending := false } } 0 64 :=
  rfl

theorem endCycle_eq (s : State) (now : TimeTag) {slow : Bool}
    (hslow : slow = (s.scan.creepSeen && decide (s.params.creepHoldTime * 100 < s.cycleAge now))) {a : List NoticeEntry}
    (ha : a = if s.scan.swapPending then raiseIn 0 64 s.link.notices else s.link.notices) :
    s.endCycle now =
      { s with
        scan := { s.scan with
          active := if s.scan.swapPending then s.scan.active.other else s.scan.active
          swapPending := false, cycleCounter := s.scan.cycleCounter + 1, phase := .cycleWait }
        link := { s.link with notices := if slow then raiseIn 0 256 a else a } } := by
  subst ha
  have hbase : s.endCycle now =
      let u : State := { (if s.scan.swapPending then s.swapScan else s) with
        scan := { (if s.scan.swapPending then s.swapScan else s).scan with
          cycleCounter := s.scan.cycleCounter + 1, phase := .cycleWait } }
      if slow then u.raiseStation .cycleSlow else u := by
    subst hslow
    unfold State.endCycle
    cases s.scan.swapPending <;> rfl
  rw [hbase]
  cases hp : s.scan.swapPending with
  | true => cases slow <;> rfl
  | false =>
    rw [← hp]
    cases slow <;> simp [hp, State.raiseStation, State.raise, StationReason.mask]

/-! ### Swaps (R91, R128, R162) -/

/-- A scan swap with none pending makes the other bank active and raises BANK SWAPPED (R128). -/
theorem swapScan_of_not_pending {s : State} (h : s.scan.swapPending = false) :
    s.swapScan = raised { s with scan := { s.scan with active := s.scan.active.other } } 0 64 := by
  rw [swapScan_eq, ← h]

/-- A reason raised twice stands once. -/
theorem raiseIn_raiseIn (n : Nat) (m : Word) (es : List NoticeEntry) :
    raiseIn n m (raiseIn n m es) = raiseIn n m es := by
  induction es with
  | nil => simp [raiseIn]
  | cons e es ih =>
    by_cases h : e.number = n
    · simp [raiseIn, h, BitVec.or_assoc]
    · simp [raiseIn, h, ih]

theorem swapRefusal_eq_none {s : State} (hp : s.scan.swapPending = false)
    (hv : (s.scan.bank s.scan.active.other).valid = true) : s.swapRefusal = none := by
  simp [State.swapRefusal, hp, hv]

/-- A row that carries a swap by its selector. -/
abbrev SwapRow (c : Instr) (n : Byte) (t : TimeTag) : Prop := requestOf c = some (.swap n, 1, t)

/-- A swap carried out without an evaluation: the state it leaves, answered DONE (R156). -/
theorem exec_swap_done {s u : State} {c : Instr} {n : Byte} {t : TimeTag} (hc : SwapRow c n t) (hs : Serves s)
    (h : (taken s t).requestSwap n.toNat t = u.done) (hd : u.admissionDue = false) :
    exec c s = .next (answered u (reply 0 0x40 [])) :=
  exec_answers (st := .done) hc hs (by decide) (by simp) h hd rfl

theorem exec_swap_refused {s : State} {c : Instr} {n : Byte} {t : TimeTag} {st : ReplyStatus} (hc : SwapRow c n t)
    (hs : Serves s) (h : (taken s t).requestSwap n.toNat t = (taken s t).refuse st) :
    exec c s = .next (answered (taken s t) (reply st.code 0x40 [])) :=
  exec_refuses hc hs (by decide) (by simp) h rfl

/-- Both scan swaps refused alike. -/
theorem requestSwap_of_refused {s : State} {st : ReplyStatus} (t : TimeTag) (h : s.swapRefusal = some st) :
    s.requestSwap 1 t = s.refuse st ∧ s.requestSwap 3 t = s.refuse st := by
  constructor
  · simp [State.requestSwap, State.requestSwapScan, h]
  · simp [State.requestSwap, State.requestSwapBoth, h]

theorem requestSwap_of_accepted {s : State} (t : TimeTag) (h : s.swapRefusal = none) :
    s.requestSwap 1 t = (s.takeScanSwap t).done ∧ s.requestSwap 3 t = (s.swapRecipe.takeScanSwap t).done := by
  constructor
  · simp [State.requestSwap, State.requestSwapScan, h]
  · simp [State.requestSwap, State.requestSwapBoth, h]

/-- A swap that starts a cycle, answered DONE (R128, R129, R156). -/
theorem exec_swap_cycle {s u : State} {c : Instr} {n : Byte} {t : TimeTag} (hc : SwapRow c n t) (hs : Serves s)
    (h : (taken s t).requestSwap n.toNat t = (u.startCycle t).done) :
    exec c s = .next (((u.startCycle t).reply 0 0x40 []).finish t) := by
  have hserve : (taken s t).serve (.swap n) s.prefixHeld t = (u.startCycle t).done := h
  have hcode : (Request.swap n).code (Config.openKindCode s.freeIndex) = 0x40 := rfl
  rw [exec_request hc, takeRequest_of_serves hs (by decide) (by simp), hserve, hcode, State.done]
  simp only [ReplyStatus.code]

/-! ### What a cycle start leaves -/

theorem openCycle_scan (s : State) (now : TimeTag) :
    (s.openCycle now).scan =
      { s.scan with running := true, startTime := some now, current := some 0,
                    creepSeen := (s.openCycle now).scan.creepSeen } := (openCycle_rescueFrame s now).scan

/-- A cycle start leaves the Scan Engine running from the present time; with no swap pending its bank stays active. -/
theorem startCycle_scan (s : State) (now : TimeTag) :
    (s.startCycle now).scan.running = true ∧ (s.startCycle now).scan.startTime = some now
      ∧ (s.scan.swapPending = false → (s.startCycle now).scan.active = s.scan.active) := by
  have hopen := openCycle_scan s now
  have htaken := takeFrom_descriptorFrame ((s.openCycle now).scan.bank (s.openCycle now).scan.active).descriptors
    (s.openCycle now) 0 now
  unfold State.startCycle
  dsimp only
  split
  next u e =>
    have hu : DescriptorFrame (s.openCycle now) u := by simpa only [e] using htaken
    rw [endCycle_eq u now rfl rfl, hu, hopen]
    exact ⟨rfl, rfl, fun h => by simp [h]⟩
  next u e =>
    have hu : DescriptorFrame (s.openCycle now) u := by simpa only [e] using htaken
    rw [hu, hopen]
    exact ⟨rfl, rfl, fun _ => rfl⟩

theorem finish_scan (s : State) (now : TimeTag) :
    (s.finish now).scan = { s.scan with creepSeen := (s.finish now).scan.creepSeen } := by
  have h : (s.finish now).scan = (s.settle now).scan := by
    unfold State.finish
    rw [transmit_link_only]
  rw [h]
  exact (settle_rescueFrame s now).scan

/-- What a swap has brought about that starts a cycle: the bank, the cycle, the recipe banks. -/
theorem swap_cycle_leaves {s u : State} {c : Instr} {now : TimeTag}
    (h : exec c s = .next (((u.startCycle now).reply 0 0x40 []).finish now)) (hp : u.scan.swapPending = false) :
    ∃ v, exec c s = .next v ∧ v.scan.active = u.scan.active ∧ v.scan.running = true
      ∧ v.scan.startTime = some now ∧ v.recipes = u.recipes := by
  refine ⟨_, h, ?_⟩
  obtain ⟨hrun, hstart, hactive⟩ := startCycle_scan u now
  obtain ⟨-, hrec, -⟩ := (finish_cycleKeeps ((u.startCycle now).reply 0 0x40 []) now).tables
  obtain ⟨-, hrec', -⟩ := (startCycle_cycleKeeps u now).tables
  rw [finish_scan, reply_scan, hrec, reply_recipes, hrec']
  dsimp only
  exact ⟨hactive hp, hrun, hstart, rfl⟩

/-! ### Valid banks (R128) -/

theorem mem_descriptors {b : ScanBank} {d : Descriptor} :
    d ∈ b.descriptors ↔ ∃ i : Fin 64, i.val < b.length ∧ b.places.get i = d := by
  rw [ScanBank.descriptors, List.mem_take_iff_getElem]
  constructor
  · rintro ⟨i, hi, rfl⟩
    have hi' : i < b.length ∧ i < 64 := by simpa using hi
    exact ⟨⟨i, hi'.2⟩, hi'.1, by simp [Vector.get]⟩
  · rintro ⟨i, hi, rfl⟩
    exact ⟨i, by simpa using And.intro hi i.isLt, by simp [Vector.get]⟩

theorem scanBank_valid_iff (b : ScanBank) :
    b.valid = true ↔
      (1 ≤ b.length ∧ b.length ≤ 64) ∧ (∃ i : Fin 64, i.val < b.length ∧ (b.places.get i).kind = .orderSlot)
        ∧ (∃ i : Fin 64, i.val < b.length ∧ (b.places.get i).kind = .pollPower)
        ∧ ∀ i : Fin 64, i.val < b.length → (b.places.get i).kind = .pollLift →
            1 ≤ (b.places.get i).lift ∧ (b.places.get i).lift ≤ 24 := by
  have hany : ∀ p : Descriptor → Prop, (∃ d ∈ b.descriptors, p d) ↔
      ∃ i : Fin 64, i.val < b.length ∧ p (b.places.get i) := fun p => by
    constructor
    · rintro ⟨d, hd, hp⟩
      obtain ⟨i, hi, rfl⟩ := mem_descriptors.mp hd
      exact ⟨i, hi, hp⟩
    · rintro ⟨i, hi, hp⟩
      exact ⟨_, mem_descriptors.mpr ⟨i, hi, rfl⟩, hp⟩
  have hall : ∀ p : Descriptor → Prop, (∀ d ∈ b.descriptors, p d) ↔
      ∀ i : Fin 64, i.val < b.length → p (b.places.get i) := fun p => by
    constructor
    · exact fun h i hi => h _ (mem_descriptors.mpr ⟨i, hi, rfl⟩)
    · intro h d hd
      obtain ⟨i, hi, rfl⟩ := mem_descriptors.mp hd
      exact h i hi
  simp only [ScanBank.valid, Bool.and_eq_true, List.any_eq_true, List.all_eq_true, decide_eq_true_eq, and_assoc]
  rw [hany (·.kind = .orderSlot), hany (·.kind = .pollPower),
    hall (fun d => d.kind = .pollLift → 1 ≤ d.lift ∧ d.lift ≤ 24)]

end Sys2Proof.Machine

open Sys2Proof Sys2Proof.Machine Sys2Proof.Slice0 in
/-- Settles O17, by the judgement of a swap and the three states of the Scan Engine it can meet. -/
theorem swapsTakeEffect : Obligations.SwapsTakeEffect := by
  refine ⟨fun s t hs => ⟨?recipe, fun hp => ?busy, fun hp hv => ?invalid, fun hp hv hr hw => ?pending,
    fun hp hv hr hw => ?waiting, fun hp hv hr => ?stopped⟩, scanBank_valid_iff⟩
  case recipe => exact exec_swap_done (n := 2) rfl hs rfl hs.2.2
  case busy =>
    have h : (taken s t).swapRefusal = some .busy := if_pos hp
    obtain ⟨hscan, hboth⟩ := requestSwap_of_refused t h
    exact ⟨exec_swap_refused (c := .swapScan t) (n := 1) (st := .busy) rfl hs hscan,
      exec_swap_refused (c := .swapBoth t) (n := 3) (st := .busy) rfl hs hboth⟩
  case invalid =>
    have hv' : ((taken s t).scan.bank (taken s t).scan.active.other).valid = false := hv
    have h : (taken s t).swapRefusal = some .invalid := by
      rw [State.swapRefusal, hv', show (taken s t).scan.swapPending = false from hp]
      rfl
    obtain ⟨hscan, hboth⟩ := requestSwap_of_refused t h
    exact ⟨exec_swap_refused (c := .swapScan t) (n := 1) (st := .invalid) rfl hs hscan,
      exec_swap_refused (c := .swapBoth t) (n := 3) (st := .invalid) rfl hs hboth⟩
  case pending =>
    obtain ⟨hscan, hboth⟩ := requestSwap_of_accepted t (swapRefusal_eq_none (s := taken s t) hp hv)
    have htake : ∀ u : State, u.scan = s.scan →
        u.takeScanSwap t = { u with scan := { u.scan with swapPending := true } } := fun u hu => by
      simp [State.takeScanSwap, hu, hr, hw]
    rw [htake (taken s t) rfl] at hscan
    rw [htake (taken s t).swapRecipe rfl] at hboth
    exact ⟨exec_swap_done (n := 1) rfl hs hscan hs.2.2, exec_swap_done (n := 3) rfl hs hboth hs.2.2⟩
  case waiting =>
    obtain ⟨hscan, hboth⟩ := requestSwap_of_accepted t (swapRefusal_eq_none (s := taken s t) hp hv)
    have htake : ∀ u : State, u.scan = s.scan → u.takeScanSwap t = u.swapScan := fun u hu => by
      simp [State.takeScanSwap, hu, hr, hw]
    rw [htake (taken s t) rfl, swapScan_of_not_pending (s := taken s t) hp] at hscan
    rw [htake (taken s t).swapRecipe rfl, swapScan_of_not_pending (s := (taken s t).swapRecipe) hp] at hboth
    exact ⟨exec_swap_done (n := 1) rfl hs hscan hs.2.2, _, exec_swap_done (n := 3) rfl hs hboth hs.2.2, rfl,
      raiseIn_raiseIn 0 64 _⟩
  case stopped =>
    obtain ⟨hscan, hboth⟩ := requestSwap_of_accepted t (swapRefusal_eq_none (s := taken s t) hp hv)
    have htake : ∀ u : State, u.scan = s.scan → u.takeScanSwap t = u.swapScan.startCycle t := fun u hu => by
      simp [State.takeScanSwap, hu, hr]
    rw [htake (taken s t) rfl, swapScan_of_not_pending (s := taken s t) hp] at hscan
    rw [htake (taken s t).swapRecipe rfl, swapScan_of_not_pending (s := (taken s t).swapRecipe) hp] at hboth
    have hraised : ∀ (u : State), raised (raised u 0 64) 0 64 = raised u 0 64 := fun u => by
      unfold raised State.raise
      rw [raiseIn_raiseIn]
    have hs1 := exec_swap_cycle (c := .swapScan t) (n := 1) rfl hs hscan
    have hs3 := exec_swap_cycle (c := .swapBoth t) (n := 3) rfl hs hboth
    have hbase : (raised { (taken s t).swapRecipe with
        scan := { s.scan with active := s.scan.active.other } } 0 64) =
        raised { taken s t with recipes := { s.recipes with active := s.recipes.active.other },
                                scan := { s.scan with active := s.scan.active.other } } 0 64 :=
      hraised { taken s t with recipes := { s.recipes with active := s.recipes.active.other },
                               scan := { s.scan with active := s.scan.active.other } }
    have hs3' := hs3.trans (congrArg (fun u => Host.Outcome.next (((u.startCycle t).reply 0 0x40 []).finish t)) hbase)
    have hleft := swap_cycle_leaves hs1 hp
    have hleft' := swap_cycle_leaves hs3' hp
    exact ⟨hs1, hs3', hleft, hleft'⟩
end

section
/-! ABORT deferred (R107, R108): the record it leaves, and the renewal it posts (R103). -/

namespace Sys2Proof.Machine

open Slice0

/-- A renewal that meets no STOP-class order, with the direction as it stands (R103). -/
theorem renewCreep_posts {s : State} {l : Lift} {r : RescueRecord} {k : CreepWork} {sr : StepRecord} (now : TimeTag)
    (hr : (s.lift l).rescue = some r) (hk : r.working.creep = some k) (hsr : s.stepRecord r.bank r.step = sr)
    (h : ∀ o ∈ s.slot l, o.kind.isStop = false) :
    s.renewCreep l now =
      s.setSlot l
        (some { kind := .creep (s.lift l).creepDirection (s.lift l).entry.rescueSpeed k.orderedLanding
                  s.params.creepHoldTime,
                poster := .entry r.budget, sends := if sr.count = 0 then 1 else sr.count, tag := none }) := by
  subst hsr
  simp [State.renewCreep, runningStep_eq hr, creepWork_eq hr, hk, post_of_no_stop _ _ _ h, runningEntry_eq hr,
    State.creepOrder, atLeastOne]

/-- A lift's rescue record replaced. -/
abbrev withRescue (s : State) (l : Lift) (q : RescueRecord) : State :=
  s.setLift l { s.lift l with rescue := some q }

theorem rescue_withRescue (s : State) (l : Lift) (q : RescueRecord) :
    ((withRescue s l q).lift l).rescue = some q := by
  rw [lift_setLift_same]

theorem modCreep_withRescue {s : State} {l : Lift} {q : RescueRecord} {k : CreepWork} (f : CreepWork → CreepWork)
    (hk : q.working.creep = some k) :
    (withRescue s l q).modCreep l f =
      withRescue s l { q with working := { q.working with creep := some (f k) } } := by
  rw [modCreep_eq f (rescue_withRescue s l q) hk, setLift_setLift, lift_setLift_same]

/-- An ABORT while one is pending changes nothing (R107). -/
theorem abortExecution_repeated {s : State} {l : Lift} {r : RescueRecord} (now : TimeTag)
    (h : (s.lift l).rescue = some r) (hp : r.abortPending = true) : s.abortExecution l now = s := by
  unfold State.abortExecution
  rw [h]
  exact if_pos hp

/-- An ABORT of a moving creep with a landing ahead (R108): deferred, and the order renewed toward that landing. -/
theorem abortExecution_deferred {s : State} {l : Lift} {r : RescueRecord} {k : CreepWork} {n : Nat} (now : TimeTag)
    (h : (s.lift l).rescue = some r) (hk : r.working.creep = some k) (hp : r.abortPending = false)
    (hc : s.inCreep l = true) (hm : (s.lift l).moving = true)
    (hn : nextLanding (s.lift l).landings (s.lift l).creepDirection (s.lift l).pos.position = some n) :
    s.abortExecution l now = (withRescue s l (deferred r k n)).renewCreep l now := by
  have hmark : s.modRescue l (fun r => { r with abortPending := true }) =
      withRescue s l { r with abortPending := true } := modRescue_eq _ h
  unfold State.abortExecution
  rw [h]
  dsimp only
  rw [hp, if_neg Bool.false_ne_true, hc, hm, hn, Bool.true_and, if_pos rfl]
  dsimp only
  rw [State.orderLanding, hmark, modCreep_withRescue (q := { r with abortPending := true }) _ hk,
    modCreep_withRescue _ rfl]
  rfl

theorem inCreep_of_runningStep {s : State} {l : Lift} {sr : StepRecord} (h : s.runningStep l = some sr)
    (ha : sr.action = .creep) : s.inCreep l = true := by
  unfold State.inCreep
  rw [h]
  exact decide_eq_true ha

end Sys2Proof.Machine

open Sys2Proof Sys2Proof.Machine Sys2Proof.Slice0 in
/-- Settles O22: the deferral is one write to the rescue record, and the renewal decides by what the slot holds. -/
theorem abortIsDeferredOrRepeated : Obligations.AbortIsDeferredOrRepeated := by
  intro s t i l r sr hs hl hst hr hsr
  have haccepted : Action.abort.accepted (s.lift l).state = true := by rw [hst]; rfl
  refine ⟨fun hp => ?_, fun k n hp hcreep hm hk hn v hv => ?_⟩
  · exact exec_control .abort hs hl haccepted (abortExecution_repeated (s := taken s t) t hr hp) hs.2.2
  · subst hv
    have hdefer : (taken s t).act l .abort t = (withRescue (taken s t) l (deferred r k n)).renewCreep l t :=
      abortExecution_deferred (s := taken s t) t hr hk hp (inCreep_of_runningStep hsr hcreep) hm hn
    have hrec := rescue_withRescue (taken s t) l (deferred r k n)
    refine ⟨fun hno => ?_, fun hstop => ?_⟩
    · have hsr' : (withRescue (taken s t) l (deferred r k n)).stepRecord r.bank r.step = sr := by
        rw [runningStep_eq hr] at hsr
        exact Option.some.inj hsr
      have hpost := renewCreep_posts t hrec rfl hsr' hno
      rw [lift_setLift_same] at hpost
      exact exec_control .abort hs hl haccepted (hdefer.trans hpost) hs.2.2
    · have hexec := exec_control_finish (t := t) .abort hs hl haccepted
      rw [hdefer, renewCreep_of_stop hrec rfl hstop] at hexec
      exact hexec
end

section
/-! The Order Dispatcher: the choice of an order and its sending (R141 to R143), what an exchange brings and to whom it is
told (R98, R144, R145). -/

namespace Sys2Proof.Machine

open Slice0

/-! ### What an order exchange brings (R98, R144, R145) -/

theorem orderOutcome_of_replaced {s : State} {l : Lift} {tag : BitVec 4} (out : EchoOutcome) (now : TimeTag)
    (h : ∀ o ∈ s.slot l, o.tag ≠ some tag) : s.orderOutcome l tag out now = s := by
  unfold State.orderOutcome
  split
  next o ho => exact if_neg (h o ho)
  · rfl

section
variable {s : State} {l : Lift} {tag : BitVec 4} {o : Order}

theorem orderOutcome_of_match (refused : Bool) (now : TimeTag) (h : s.slot l = some o) (ht : o.tag = some tag) :
    s.orderOutcome l tag (.echo tag refused) now = (s.setSlot l none).deliver l o.poster (!refused) now := by
  simp [State.orderOutcome, h, ht]

/-- An echo with another tag and silence use up a send alike (R144, R145). -/
theorem orderOutcome_of_no_match {out : EchoOutcome} (now : TimeTag) (h : s.slot l = some o) (ht : o.tag = some tag)
    (hout : out = .silent ∨ ∃ t refused, out = .echo t refused ∧ t ≠ tag) :
    s.orderOutcome l tag out now = s.useSend l o now := by
  rcases hout with rfl | ⟨t, refused, rfl, hne⟩
  · simp [State.orderOutcome, h, ht]
  · simp [State.orderOutcome, h, ht, hne]

theorem useSend_of_more (now : TimeTag) (h : 2 ≤ o.sends) :
    s.useSend l o now = s.setSlot l (some { o with sends := o.sends - 1 }) := if_neg (by omega)

theorem useSend_of_last (now : TimeTag) (h : o.sends ≤ 1) :
    s.useSend l o now = (s.setSlot l none).deliver l o.poster false now := if_pos h

end

theorem orderOutcomesAct : OrderOutcomesAct := by
  rintro s l tag out now u rfl
  refine ⟨orderOutcome_of_replaced out now, fun o ho ht => ⟨?_, fun hout => ?_⟩⟩
  · rintro refused rfl
    exact orderOutcome_of_match refused now ho ht
  · rw [orderOutcome_of_no_match now ho ht hout]
    exact ⟨useSend_of_more now, useSend_of_last now⟩

/-- The part's own orders have no entry to tell (R98). -/
theorem deliver_part (s : State) (l : Lift) (ok : Bool) (now : TimeTag) : s.deliver l .part ok now = s := by
  unfold State.deliver
  split
  · rfl
  · exact if_neg (by simp)

theorem deliver_of_no_rescue {s : State} {l : Lift} (p : Poster) (ok : Bool) (now : TimeTag)
    (h : (s.lift l).rescue = none) : s.deliver l p ok now = s := by
  rw [State.deliver, runningStep_of_none h]

theorem deliver_of_other {s : State} {l : Lift} {r : RescueRecord} {p : Poster} (ok : Bool) (now : TimeTag)
    (hr : (s.lift l).rescue = some r) (hp : p ≠ .entry r.budget) : s.deliver l p ok now = s := by
  rw [State.deliver, runningStep_eq hr, runningEntry_eq hr]
  exact if_neg hp

section
variable {s : State} {l : Lift} {r : RescueRecord} {sr : StepRecord}

theorem deliver_of_order {k : StepOrder} {m : Nat} (ok : Bool) (now : TimeTag) (hr : (s.lift l).rescue = some r)
    (hsr : s.stepRecord r.bank r.step = sr) (ha : sr.action = .order k m) :
    s.deliver l (.entry r.budget) ok now = s.endStep l ok now := by
  simp [State.deliver, runningStep_eq hr, runningEntry_eq hr, hsr, ha]

theorem deliver_of_creep (ok : Bool) (now : TimeTag) (hr : (s.lift l).rescue = some r)
    (hsr : s.stepRecord r.bank r.step = sr) (ha : sr.action = .creep) :
    s.deliver l (.entry r.budget) ok now =
      if ok then s.modCreep l fun w => { w with accepted := true } else s.endStep l false now := by
  simp [State.deliver, runningStep_eq hr, runningEntry_eq hr, hsr, ha]

/-- A step that posts no order has no use for an outcome. -/
theorem deliver_of_unconcerned {p : Poster} (ok : Bool) (now : TimeTag) (hr : (s.lift l).rescue = some r)
    (hsr : s.stepRecord r.bank r.step = sr) (horder : ∀ k m, sr.action ≠ .order k m) (hcreep : sr.action ≠ .creep) :
    s.deliver l p ok now = s := by
  rw [State.deliver, runningStep_eq hr, hsr]
  dsimp only
  split
  · split
    next k m ha => exact absurd ha (horder k m)
    next ha => exact absurd ha hcreep
    · rfl
  · rfl

end

theorem outcomesAreDelivered : OutcomesAreDelivered := by
  rintro s l poster ok now u rfl
  refine ⟨deliver_of_no_rescue poster ok now, fun r sr hr hsr => ⟨deliver_of_other ok now hr, ?_⟩⟩
  rintro rfl
  refine ⟨?order, ?fail, ?accepted, deliver_of_unconcerned ok now hr hsr⟩
  case order =>
    rintro ⟨k, m, ha⟩
    exact deliver_of_order ok now hr hsr ha
  case fail =>
    rintro ha rfl
    exact deliver_of_creep false now hr hsr ha
  case accepted =>
    rintro ha rfl w hw
    exact (deliver_of_creep true now hr hsr ha).trans (modCreep_eq _ hr hw)

/-! ### The posting of orders (R139) -/

theorem postingsTakeTheSlot : PostingsTakeTheSlot := fun _ _ k p n =>
  ⟨fun h hk => post_of_stop p n hk h, post_of_not_turned_away k p n⟩

/-! ### The choice of an ORDER SLOT (R142) -/

theorem holdsClass_iff (s : State) (b : Bool) (l : Lift) :
    s.holdsClass b l = true ↔ ∃ o ∈ s.slot l, o.kind.isStop = b := by
  unfold State.holdsClass
  cases s.slot l <;> simp

/-- A search from a pointer finds the first lift upward of it. -/
theorem find_fromPointer {p k : Lift} {f : Lift → Bool} (h : f (p + k) = true) (hfirst : ∀ j < k, f (p + j) = false) :
    (fromPointer p).find? f = some (p + k) := by
  have hfind : allLifts.find? (f ∘ (p + ·)) = some k := by
    rw [List.find?_eq_some_iff_getElem]
    refine ⟨h, k.val, by simp [allLifts], by simp [allLifts], fun j hj => ?_⟩
    simpa [allLifts] using hfirst ⟨j, hj.trans k.isLt⟩ hj
  rw [fromPointer, List.find?_map, hfind]
  rfl

theorem find_fromPointer_none {p : Lift} {f : Lift → Bool} (h : ∀ l, f l = false) : (fromPointer p).find? f = none :=
  List.find?_eq_none.mpr fun l _ => by simp [h l]

theorem ordersAreChosenInTurn : OrdersAreChosenInTurn := by
  intro s holds hholds
  have hyes : ∀ b l, s.holdsClass b l = true ↔ holds b l := fun b l =>
    (holdsClass_iff s b l).trans (hholds b l).symm
  have hno : ∀ b l, ¬ holds b l → s.holdsClass b l = false := fun b l h =>
    Bool.eq_false_iff.mpr (mt (hyes b l).mp h)
  refine ⟨fun k hk hfirst => ?_, fun hnone k hk hfirst => ?_, chooseOrder_of_no_order⟩
  · rw [State.chooseOrder, find_fromPointer ((hyes true _).mpr hk) fun j hj => hno true _ (hfirst j hj)]
  · rw [State.chooseOrder, find_fromPointer_none fun l => hno true l (hnone l)]
    exact find_fromPointer ((hyes false _).mpr hk) fun j hj => hno false _ (hfirst j hj)

/-! ### The chosen order sent (R134, R141, R142, R143) -/

theorem markSent_eq {s : State} {l : Lift} {o : Order} {t : BitVec 4} (ht : t = s.sendTag l o) :
    s.markSent l o =
      { s with
        orders := { s.orders with
          slots := s.orders.slots.set l.val (some { o with tag := some t }) l.isLt
          tagCounters := if o.tag = none then s.orders.tagCounters.set l.val t l.isLt else s.orders.tagCounters
          stopPointer := if o.kind.isStop then l + 1 else s.orders.stopPointer
          ordPointer := if o.kind.isStop then s.orders.ordPointer else l + 1 } } := by
  subst ht
  unfold State.markSent
  cases o.kind.isStop <;> cases o.tag <;> rfl

theorem takeSlot_of_order {s : State} {d : Descriptor} {l : Lift} {o : Order} {t : BitVec 4} (now : TimeTag)
    (hl : s.chooseOrder = some l) (ho : s.slot l = some o) (ht : t = s.sendTag l o) :
    s.takeSlot d now =
      (((s.markSent l o).beginExchange (s.askedLane d) (orderFrame (s.lift l).entry.ringNode t o.kind) .echo).setPhase
        (.working now d.gap (.order l t)), false) := by
  subst ht
  rw [State.takeSlot, hl]
  dsimp only
  rw [ho]

theorem chosenOrdersAreSent : ChosenOrdersAreSent := by
  intro s d now l o hd hl ho t ht
  have hsent : (s.markSent l o).chooseLane (s.askedLane d) = s.chooseLane (s.askedLane d) := by
    rw [markSent_eq ht]
    rfl
  have hslot : ∀ k, (s.markSent l o).slot k = if k = l then some { o with tag := some t } else s.slot k := fun k => by
    rw [markSent_eq ht]
    exact vector_get_set s.orders.slots l k _
  have htag : ∀ k, (s.markSent l o).tagCounter k = if o.tag = none ∧ k = l then t else s.tagCounter k := fun k => by
    rw [markSent_eq ht]
    by_cases hnew : o.tag = none
    · simp only [State.tagCounter, hnew, if_true, true_and]
      exact vector_get_set s.orders.tagCounters l k t
    · simp only [State.tagCounter, hnew, if_false, false_and]
  refine ⟨_, (takeDescriptor_of_orderSlot d now s hd).trans (takeSlot_of_order now hl ho ht), ?_, ?_, ?_,
    fun k hk => ⟨?_, ?_⟩, ?_, ?_, ?_, ?_, ?_, rfl⟩
  · rw [markSent_eq ht]; rfl
  · exact (hslot l).trans (if_pos rfl)
  · exact (htag l).trans (by simp)
  · exact (hslot k).trans (if_neg hk)
  · exact (htag k).trans (if_neg fun h => hk h.2)
  · rw [markSent_eq ht]; rfl
  · rw [markSent_eq ht]; rfl
  · rw [markSent_eq ht]; rfl
  · rw [markSent_eq ht]; rfl
  · rw [← hsent]; rfl

/-! ### The end of an order exchange -/

/-- The result bit of an ORDER ECHO (R111). -/
theorem field_top (v : Word) : (field v 15 1 == 1) = decide (32768 ≤ v.toNat) := by
  have := v.isLt
  rw [Bool.eq_iff_iff, beq_iff_eq, decide_eq_true_iff]
  unfold field
  omega

theorem jobReply_order (s : State) (l : Lift) (tag : BitVec 4) (r : Reply) (now : TimeTag) :
    s.jobReply (.order l tag) r now =
      ((s.orderOutcome l tag (.echo r.tag (decide (32768 ≤ w r.payload 0))) now).settle now, .ended) := by
  have hbit := field_top (wordAt r.payload 0)
  unfold State.jobReply
  dsimp only
  rw [hbit]
  rfl

theorem exec_orderEcho {s : State} {t start : TimeTag} {x : Exchange} {r : Reply} {gap : Nat} {l : Lift} {tag : BitVec 4}
    (hr : s.restart = .idle) (hx : s.exchange = some x) (hp : s.scan.phase = .working start gap (.order l tag))
    (hm : Meets x .echo r t) :
    exec (.orderEcho t r) s =
      .next (exchangeOver (((s.atTime t).orderOutcome l tag (.echo r.tag (decide (32768 ≤ w r.payload 0))) t).settle t)
        x true start gap t) := by
  have hexec : exec (.orderEcho t r) s = _ := exec_validReply (k := .echo) hr hx hp hm
  rw [jobReply_order, goneOn_ended] at hexec
  exact hexec

theorem exec_order_silent {s : State} {t start sent : TimeTag} {x : Exchange} {gap window : Nat} {l : Lift}
    {tag : BitVec 4} (hr : s.restart = .idle) (hx : s.exchange = some x)
    (hp : s.scan.phase = .working start gap (.order l tag)) (hw : x.waiting = some (sent, window))
    (hpassed : window ≤ (t - sent).toNat) :
    exec (.replyWindowClose t) s =
      .next (exchangeOver (((s.atTime t).orderOutcome l tag .silent t).settle t) x false start gap t) := by
  have hexec := exec_closeWindow t hr hx hp hw hpassed
  have hmissed : (s.atTime t).jobMissed (.order l tag) t =
      (((s.atTime t).orderOutcome l tag .silent t).settle t, .ended) := rfl
  rw [hmissed, goneOn_ended] at hexec
  exact hexec

/-- An echo whose outcome calls no evaluation, with the gap still running. -/
theorem exec_orderEcho_of_open_gap {s u : State} {t start : TimeTag} {x : Exchange} {r : Reply} {gap : Nat} {l : Lift}
    {tag : BitVec 4} (hr : s.restart = .idle) (hx : s.exchange = some x)
    (hp : s.scan.phase = .working start gap (.order l tag)) (hm : Meets x .echo r t) (hgap : (t - start).toNat < gap)
    (hu : (s.atTime t).orderOutcome l tag (.echo r.tag (decide (32768 ≤ w r.payload 0))) t = u)
    (hdue : u.admissionDue = false) :
    exec (.orderEcho t r) s = .next (((u.closeExchange x true).setPhase (.gapWait start gap)).transmit) := by
  rw [exec_orderEcho hr hx hp hm, hu, settle_of_not_due u t hdue, exchangeOver_of_open_gap x true hdue hgap]

end Sys2Proof.Machine

open Sys2Proof Sys2Proof.Machine Sys2Proof.Slice0 in
/-- Settles O35: the part's own order tells nobody, and every other outcome is the equation of its exchange. -/
theorem echoEmptiesTheSlot : Obligations.EchoEmptiesTheSlot := by
  refine ⟨?_, fun s t x start gap l tag hr hx hp => ⟨fun r hm => exec_orderEcho hr hx hp hm,
    fun sent window hw hpassed => exec_order_silent hr hx hp hw hpassed⟩, orderOutcomesAct, outcomesAreDelivered,
    postingsTakeTheSlot, ordersAreChosenInTurn, chosenOrdersAreSent⟩
  rintro s t x r start gap l tag o ⟨hx, hr, hm⟩ hs hp hgap ho htag hpart
  have hslot : (s.atTime t).slot l = some o := ho
  refine ⟨fun hmatch => ?_, fun hother hsends => ?_⟩
  · refine exec_orderEcho_of_open_gap hr hx hp hm hgap ?_ hs
    rw [hmatch, orderOutcome_of_match _ t hslot htag, hpart, deliver_part]
  · refine exec_orderEcho_of_open_gap hr hx hp hm hgap ?_ hs
    rw [orderOutcome_of_no_match t hslot htag (.inr ⟨_, _, rfl, hother⟩), useSend_of_more t hsends]
end

section
/-! Creep seen (R135): within a cycle nothing but a cycle start and RESTART takes it back. Of all the rescue machinery
only the entry of a CREEP step writes a field of the Scan Engine. -/

namespace Sys2Proof.Machine

open Slice0

/-! ### What leaves the Scan Engine alone -/

section
variable (s : State) (l : Lift)

theorem enter_scan (st : RescueState) : (s.enter l st).scan = s.scan := by
  unfold State.enter
  split
  · rfl
  · simp

theorem dequeue_scan : (s.dequeue l).scan = s.scan := rfl

theorem leaveQueue_scan : (s.leaveQueue l).scan = s.scan := by
  unfold State.leaveQueue
  split
  · exact dequeue_scan s l
  · rfl

theorem writePlan_scan (now : TimeTag) (p : Plan) : (s.writePlan l now p).scan = s.scan := by
  unfold State.writePlan
  dsimp only
  split
  · exact raiseLift_scan _ _ _
  · rfl

theorem enterNormal_scan : (s.enterNormal l).scan = s.scan :=
  (enter_scan _ l _).trans (leaveQueue_scan s l)

theorem enterManual_scan (why : ManualReason) : (s.enterManual l why).scan = s.scan :=
  (enter_scan _ l _).trans (leaveQueue_scan s l)

theorem enterQueued_scan (now : TimeTag) : (s.enterQueued l now).scan = s.scan := enter_scan _ l _

theorem planStalled_scan (now : TimeTag) : (s.planStalled l now).scan = s.scan := by
  have h : (s.runPlanner l now).scan = s.scan := writePlan_scan s l now _
  unfold State.planStalled
  dsimp only
  split
  · exact h
  · split
    · exact (enterQueued_scan _ l now).trans h
    · exact (enterManual_scan _ l _).trans h

theorem evaluateStalled_scan (now : TimeTag) : (s.evaluateStalled l now).scan = s.scan := by
  unfold State.evaluateStalled
  split
  · split
    · exact enterNormal_scan _ l
    · split
      · exact enterManual_scan _ l _
      · exact planStalled_scan _ l now
  · exact planStalled_scan _ l now

theorem enterStalled_scan (now : TimeTag) : (s.enterStalled l now).scan = s.scan :=
  (evaluateStalled_scan _ l now).trans (enter_scan s l _)

theorem enterReleased_scan : (s.enterReleased l).scan = s.scan := by
  have h : ((s.modLift l fun c => { c with rescue := none }).enter l .released).scan = s.scan := enter_scan _ l _
  unfold State.enterReleased
  dsimp only
  split
  · exact h
  · exact h

theorem dropExecution_scan : (s.dropExecution l).scan = s.scan := by
  unfold State.dropExecution
  split
  · dsimp only
    split
    · rfl
    · rfl
  · rfl

theorem endRetry_scan (now : TimeTag) : (s.endRetry l now).scan = s.scan := by
  unfold State.endRetry
  split
  · exact enterStalled_scan _ l now
  · exact enterManual_scan _ l _

theorem endAs_scan (why : Ending) (aborted : Bool) (now : TimeTag) : (s.endAs l why aborted now).scan = s.scan := by
  unfold State.endAs
  split
  · split
    · exact enterManual_scan s l _
    · split
      · exact enterReleased_scan s l
      · exact endRetry_scan s l now
      · exact enterManual_scan s l _
  · exact enterManual_scan s l _
  · exact enterManual_scan _ l _
  · exact enterManual_scan _ l _

theorem endExecution_scan (why : Ending) (now : TimeTag) : (s.endExecution l why now).scan = s.scan := by
  rw [endExecution_eq]
  exact (endAs_scan _ l why _ now).trans (dropExecution_scan s l)

theorem post_scan (k : OrderKind) (p : Poster) (n : Nat) : (s.post l k p n).1.scan = s.scan := by
  unfold State.post
  split
  · split
    · rfl
    · rfl
  · rfl

theorem withdrawOwn_scan : (s.withdrawOwn l).scan = s.scan := by
  rcases withdrawOwn_cases s l with e | e
  · rw [e]
  · rw [e, setSlot_scan]

theorem releaseCreep_scan : (s.releaseCreep l).scan = s.scan := by
  unfold State.releaseCreep
  split
  · split
    · rfl
    · rfl
  · rfl

theorem ite_scan {s u v : State} (c : Prop) [Decidable c] (hu : u.scan = s.scan) (hv : v.scan = s.scan) :
    (if c then u else v).scan = s.scan := by
  split
  · exact hu
  · exact hv

theorem closeStep_scan (sr : StepRecord) (ok : Bool) : (s.closeStep l sr ok).scan = s.scan := by
  have hown := ite_scan (sr.action.posts = true) (withdrawOwn_scan s l) rfl
  have hrelease := ite_scan (sr.action = .creep) ((releaseCreep_scan _ l).trans hown) hown
  exact ite_scan ((ok && sr.notify) = true) ((raiseLift_scan _ l _).trans hrelease) hrelease

theorem leaveStep_scan (sr : StepRecord) (ok : Bool) : (s.leaveStep l sr ok).1.scan = s.scan := by
  have h := closeStep_scan s l sr ok
  unfold State.leaveStep
  dsimp only
  split
  · split
    · exact h
    · exact h
  · exact h

theorem enterOrder_scan (sr : StepRecord) (k : StepOrder) (m : Nat) : (s.enterOrder l sr k m).1.scan = s.scan := by
  unfold State.enterOrder
  split
  · exact leaveStep_scan s l sr false
  · dsimp only
    split
    · exact post_scan s l _ _ _
    · exact (leaveStep_scan _ l sr false).trans (post_scan s l _ _ _)

theorem enterCall_scan (sr : StepRecord) (r : RescueRecord) (t : Nat) : (s.enterCall l sr r t).1.scan = s.scan := by
  unfold State.enterCall
  split
  · exact closeStep_scan _ l sr true
  · exact closeStep_scan s l sr false

theorem enterReturn_scan (sr : StepRecord) (r : RescueRecord) : (s.enterReturn l sr r).1.scan = s.scan := by
  unfold State.enterReturn
  split
  · exact closeStep_scan _ l sr true
  · exact closeStep_scan s l sr false

/-- The one writer of the Scan Engine among the entry actions (R102, R129). -/
theorem enterCreep_scan (sr : StepRecord) (now : TimeTag) :
    (s.enterCreep l sr now).1.scan = { s.scan with creepSeen := s.scan.creepSeen || s.scan.running } := by
  have hplan := writePlan_scan { s with scan := { s.scan with creepSeen := s.scan.creepSeen || s.scan.running } } l now
  unfold State.enterCreep
  dsimp only
  split
  · exact (leaveStep_scan _ l sr false).trans (hplan _)
  · exact (leaveStep_scan _ l sr true).trans (hplan _)
  · split
    · exact (post_scan _ l _ _ _).trans (hplan _)
    · exact ((leaveStep_scan _ l sr false).trans (post_scan _ l _ _ _)).trans (hplan _)

end

/-! ### Creep seen is kept -/

/-- Creep seen is not taken back. -/
def SeenKept (s u : State) : Prop := s.scan.creepSeen = true → u.scan.creepSeen = true

theorem SeenKept.refl (s : State) : SeenKept s s := id

theorem SeenKept.trans {s u v : State} (h : SeenKept s u) (k : SeenKept u v) : SeenKept s v := k ∘ h

theorem SeenKept.of_scan {s u : State} (h : u.scan = s.scan) : SeenKept s u := fun hs => by rw [h, hs]

section
variable (s : State) (l : Lift)

theorem enterCreep_seenKept (sr : StepRecord) (now : TimeTag) : SeenKept s (s.enterCreep l sr now).1 := fun h => by
  rw [enterCreep_scan, h]
  rfl

theorem enterOnce_seenKept (i : Nat) (now : TimeTag) : SeenKept s (s.enterOnce l i now).1 := by
  unfold State.enterOnce
  split
  · exact .refl _
  · split
    · exact .of_scan (endExecution_scan s l .stepLimit now)
    · dsimp only
      split
      · exact .refl _
      · exact .refl _
      · exact .of_scan (enterOrder_scan _ l _ _ _)
      · exact enterCreep_seenKept (s.modRescue l _) l _ now
      · exact .of_scan (enterCall_scan _ l _ _ _)
      · exact .of_scan (enterReturn_scan _ l _ _)
      · exact .of_scan (endExecution_scan _ l _ now)

theorem runEntries_seenKept (n : Nat) (i : Nat) (now : TimeTag) : SeenKept s (State.runEntries n s l i now) := by
  induction n generalizing s i with
  | zero => exact .refl _
  | succ n ih =>
    have h := enterOnce_seenKept s l i now
    unfold State.runEntries
    split
    next u e =>
      rw [e] at h
      exact h
    next u j e =>
      rw [e] at h
      exact SeenKept.trans h (ih u j)

theorem endStep_seenKept (ok : Bool) (now : TimeTag) : SeenKept s (s.endStep l ok now) := by
  unfold State.endStep
  split
  next sr _ =>
    exact (SeenKept.of_scan (leaveStep_scan s l sr ok)).trans (runEntries_seenKept _ l _ _ now)
  · exact .refl _

theorem renewCreep_seenKept (now : TimeTag) : SeenKept s (s.renewCreep l now) := by
  unfold State.renewCreep
  split
  · dsimp only
    split
    · exact .of_scan (post_scan s l _ _ _)
    · exact (SeenKept.of_scan (post_scan s l _ _ _)).trans (endStep_seenKept _ l false now)
  · exact .refl _

end

theorem foldl_seenKept {f : State → Lift → State} (h : ∀ s l, SeenKept s (f s l)) (ls : List Lift) (s : State) :
    SeenKept s (ls.foldl f s) := by
  induction ls generalizing s with
  | nil => exact .refl _
  | cons l ls ih => exact (h s l).trans (ih (f s l))

theorem foldl_raiseBypass_scan (passed : List Lift) (s : State) : (passed.foldl State.raiseBypass s).scan = s.scan := by
  induction passed generalizing s with
  | nil => rfl
  | cons l ls ih => exact (ih (s.raiseBypass l)).trans rfl

theorem beginRescue_scan (s : State) (l : Lift) (passed : List Lift) : (s.beginRescue l passed).scan = s.scan :=
  (enter_scan _ l _).trans (foldl_raiseBypass_scan passed (s.dequeue l))

theorem grant_seenKept (s : State) (l : Lift) (passed : List Lift) (now : TimeTag) :
    SeenKept s (s.grant l passed now) :=
  (SeenKept.of_scan (beginRescue_scan s l passed)).trans (runEntries_seenKept _ l _ _ now)

theorem walks_seenKept (n : Nat) (s : State) (now : TimeTag) : SeenKept s (State.walks n s now) := by
  induction n generalizing s with
  | zero => exact .refl _
  | succ n ih =>
    unfold State.walks
    split
    · split
      next l passed _ => exact (grant_seenKept s l passed now).trans (ih _)
      · exact .refl _
    · exact .refl _

theorem settle_seenKept (s : State) (now : TimeTag) : SeenKept s (s.settle now) := by
  unfold State.settle
  split
  · exact walks_seenKept s.walkBound s now
  · exact .refl _

theorem finish_seenKept (s : State) (now : TimeTag) : SeenKept s (s.finish now) := by
  have h : (s.finish now).scan = (s.settle now).scan := by
    unfold State.finish
    rw [transmit_link_only]
  exact (settle_seenKept s now).trans (.of_scan h)

/-- A cycle start that finds a CREEP step running has seen a creep, whatever its renewals bring about (R129). -/
theorem openCycle_seen {s : State} (now : TimeTag) (h : ∃ l : Lift, s.inCreep l = true) :
    (s.openCycle now).scan.creepSeen = true := by
  obtain ⟨l, hl⟩ := h
  have hbase : (cycleBase s now).scan.creepSeen = true :=
    List.any_eq_true.mpr ⟨l, List.mem_finRange l, hl⟩
  have hrenew : ∀ (u : State) (l : Lift), SeenKept u (if u.inCreep l then u.renewCreep l now else u) := by
    intro u l
    split
    · exact renewCreep_seenKept u l now
    · exact .refl _
  have hkept : SeenKept (cycleBase s now) (s.openCycle now) := by
    rw [openCycle_eq]
    exact (foldl_seenKept hrenew allLifts _).trans (settle_seenKept _ now)
  exact hkept hbase

end Sys2Proof.Machine
end

section
/-! Descriptors and cycles one after the other (R129 to R131, R135): descriptors taken and passed, the end of a
descriptor's work, a cycle start and a cycle end. -/

namespace Sys2Proof.Machine

open Slice0

/-! ### Descriptors taken (R130, R131) -/

theorem askedLane_eq (s : State) (d : Descriptor) : s.askedLane d = askedOf s d := by
  unfold State.askedLane askedOf
  cases d.lane <;> rfl

/-- The first try of a poll to a node. -/
theorem tryPoll_eq {s : State} {d : Descriptor} {ringNode wanted : Nat} {k : ReplyKind} (left gap : Nat)
    (start : TimeTag) (h : s.pollOf d = (pollFrame ringNode wanted, k)) :
    s.tryPoll d (s.askedLane d) left start gap =
      { s with exchange := some (pollExchange s (askedOf s d) ringNode wanted k),
               scan := { s.scan with phase := .working start gap (.poll d (askedOf s d) left) } } := by
  unfold State.tryPoll
  rw [askedLane_eq, h]
  rfl

theorem takeDescriptor_of_pollPower {s : State} {d : Descriptor} (now : TimeTag) (hd : d.kind = .pollPower) :
    s.takeDescriptor d now = (s.tryPoll d (s.askedLane d) d.retry now d.gap, false) := by
  rw [State.takeDescriptor, hd]

theorem takeDescriptor_of_pollHazard {s : State} {d : Descriptor} (now : TimeTag) (hd : d.kind = .pollHazard) :
    s.takeDescriptor d now = (s.tryPoll d (s.askedLane d) d.retry now d.gap, false) := by
  rw [State.takeDescriptor, hd]

theorem takeDescriptor_of_pollLift {s : State} {d : Descriptor} (now : TimeTag) (hd : d.kind = .pollLift) :
    s.takeDescriptor d now =
      if s.pollExcluded d then (s, true) else (s.tryPoll d (s.askedLane d) d.retry now d.gap, false) := by
  rw [State.takeDescriptor, hd]

theorem takeDescriptor_of_pause {s : State} {d : Descriptor} (now : TimeTag) (hd : d.kind = .pause) :
    s.takeDescriptor d now = if d.gap = 0 then (s, true) else (s.setPhase (.gapWait now d.gap), false) := by
  rw [State.takeDescriptor, hd]

theorem pollExcluded_eq {s : State} {d : Descriptor} {l : Lift} (hl : liftOfNumber d.lift = some l) :
    s.pollExcluded d = decide ((s.lift l).state = .excluded) := by
  rw [State.pollExcluded, hl]

theorem descriptorsAreTaken : DescriptorsAreTaken := by
  intro s d now
  refine ⟨fun hd l hl => ⟨fun hx => ?_, fun hx => ?_⟩, fun hd => ?_, fun hd => ?_, fun hd => ?_⟩
  · rw [takeDescriptor_of_pollLift now hd, pollExcluded_eq hl, decide_eq_true hx, if_pos rfl]
  · have hpoll : s.pollOf d = (pollFrame (s.lift l).entry.ringNode 1, .status) := by
      rw [State.pollOf, hd, hl]
    rw [takeDescriptor_of_pollLift now hd, pollExcluded_eq hl, decide_eq_false hx, if_neg Bool.false_ne_true,
      tryPoll_eq _ _ _ hpoll]
  · have hpoll : s.pollOf d = (pollFrame s.params.powerNode 2, .power) := by
      rw [State.pollOf, hd]
    rw [takeDescriptor_of_pollPower now hd, tryPoll_eq _ _ _ hpoll]
  · have hpoll : s.pollOf d = (pollFrame s.params.hazardNode 3, .hazard) := by
      rw [State.pollOf, hd]
    rw [takeDescriptor_of_pollHazard now hd, tryPoll_eq _ _ _ hpoll]
  · rw [takeDescriptor_of_pause now hd]
    rfl

/-! ### One descriptor after the other (R130) -/

/-- The Scan Engine at descriptor `i`. -/
abbrev atIndex (s : State) (i : Nat) : State := { s with scan := { s.scan with current := some i } }

/-- The descriptors of the active bank. -/
abbrev activeDescriptors (s : State) : List Descriptor := (s.scan.bank s.scan.active).descriptors

theorem activeDescriptors_of_frame {s u : State} (h : DescriptorFrame s u) :
    activeDescriptors u = activeDescriptors s := by
  have hscan : u.scan = { s.scan with current := u.scan.current, phase := u.scan.phase } := congrArg State.scan h
  unfold activeDescriptors
  rw [hscan]
  rfl

theorem atIndex_takeDescriptor_frame (s : State) (i : Nat) (d : Descriptor) (now : TimeTag) :
    DescriptorFrame s ((atIndex s i).takeDescriptor d now).1 :=
  DescriptorFrame.trans (u := atIndex s i) rfl (takeDescriptor_descriptorFrame _ d now)

section
variable {s u : State} {d : Descriptor} {ds : List Descriptor} {i : Nat} {now : TimeTag}

theorem takeFrom_of_held (h : (atIndex s i).takeDescriptor d now = (u, false)) :
    s.takeFrom (d :: ds) i now = (u, false) := by
  rw [State.takeFrom, h]

theorem takeFrom_of_skipped (h : (atIndex s i).takeDescriptor d now = (u, true)) :
    s.takeFrom (d :: ds) i now = u.takeFrom ds (i + 1) now := by
  rw [State.takeFrom, h]

/-- A POLL POWER is never skipped, so descriptors that hold one do not end the cycle. -/
theorem takeFrom_of_pollPower (h : ∃ d ∈ ds, d.kind = .pollPower) : (s.takeFrom ds i now).2 = false := by
  induction ds generalizing s i with
  | nil => exact absurd h (by simp)
  | cons e es ih =>
    cases ht : (atIndex s i).takeDescriptor e now with
    | mk v skipped =>
      cases skipped with
      | false => rw [takeFrom_of_held ht]
      | true =>
        rw [takeFrom_of_skipped ht]
        obtain ⟨d, hmem, hd⟩ := h
        rcases List.mem_cons.mp hmem with rfl | hmem
        · rw [takeDescriptor_of_pollPower now hd] at ht
          exact absurd (congrArg Prod.snd ht) Bool.false_ne_true
        · exact ih ⟨d, hmem, hd⟩

theorem advance_of_stopped (h : s.takeFrom ((activeDescriptors s).drop i) i now = (u, false)) :
    s.advance i now = u := by
  rw [State.advance, h]

theorem advance_of_passed (h : s.takeFrom ((activeDescriptors s).drop i) i now = (u, true)) :
    s.advance i now = if (u.endCycle now).cycleDue now then (u.endCycle now).startCycle now else u.endCycle now := by
  rw [State.advance, h]

theorem drop_of_getElem? (h : (activeDescriptors s)[i]? = some d) :
    (activeDescriptors s).drop i = d :: (activeDescriptors s).drop (i + 1) := by
  obtain ⟨hi, rfl⟩ := List.getElem?_eq_some_iff.mp h
  exact List.drop_eq_getElem_cons hi

theorem advance_of_held (hd : (activeDescriptors s)[i]? = some d)
    (h : (atIndex s i).takeDescriptor d now = (u, false)) : s.advance i now = u :=
  advance_of_stopped (by rw [drop_of_getElem? hd, takeFrom_of_held h])

theorem advance_of_skipped (hd : (activeDescriptors s)[i]? = some d)
    (h : (atIndex s i).takeDescriptor d now = (u, true)) : s.advance i now = u.advance (i + 1) now := by
  have hframe := atIndex_takeDescriptor_frame s i d now
  rw [h] at hframe
  have hstep : s.takeFrom ((activeDescriptors s).drop i) i now =
      u.takeFrom ((activeDescriptors u).drop (i + 1)) (i + 1) now := by
    rw [drop_of_getElem? hd, takeFrom_of_skipped h, activeDescriptors_of_frame hframe]
  cases ht : u.takeFrom ((activeDescriptors u).drop (i + 1)) (i + 1) now with
  | mk v passed =>
    cases passed with
    | false => rw [advance_of_stopped (hstep.trans ht), advance_of_stopped ht]
    | true => rw [advance_of_passed (hstep.trans ht), advance_of_passed ht]

end

/-! ### Cycle ends and cycle starts (R129, R135) -/

theorem cyclesEnd : CyclesEnd := by
  rintro s now began hstart swapped slow rfl hslow a rfl
  have hage : s.cycleAge now = (now - began).toNat := by rw [State.cycleAge, hstart]; rfl
  rw [endCycle_eq s now (hslow.trans (by rw [hage])) rfl]
  rfl

/-- The time since the cycle start is not moved by the cycle end (R135). -/
theorem cycleDue_endCycle (s : State) (now : TimeTag) : (s.endCycle now).cycleDue now = s.cycleDue now := by
  rw [endCycle_eq s now rfl rfl]
  rfl

theorem nextIndex_eq {s : State} {i : Nat} (h : s.scan.current = some i) : s.nextIndex = i + 1 := by
  rw [State.nextIndex, h]

theorem descriptorsFollow : DescriptorsFollow := by
  intro s i now
  refine ⟨fun start gap => ⟨fun h => if_neg (Nat.not_le.mpr h), fun h hi => ?_⟩,
    fun d u hd => ⟨advance_of_held hd, advance_of_skipped hd⟩, fun began hnone hstart => ?_⟩
  · rw [← nextIndex_eq hi]
    exact if_pos h
  · have hpassed : s.takeFrom ((activeDescriptors s).drop i) i now = (s, true) := by
      rw [List.drop_eq_nil_of_le (List.getElem?_eq_none_iff.mp hnone)]
      rfl
    rw [advance_of_passed hpassed, cycleDue_endCycle]
    exact ⟨fun h => if_pos ((cycleDue_iff hstart).mpr h),
      fun h => if_neg fun hdue => absurd ((cycleDue_iff hstart).mp hdue) (Nat.not_le.mpr h)⟩

theorem startCycle_of_stopped {s u : State} {now : TimeTag}
    (h : (s.openCycle now).takeFrom (activeDescriptors (s.openCycle now)) 0 now = (u, false)) :
    s.startCycle now = u := by
  unfold State.startCycle
  dsimp only
  rw [h]

theorem cyclesBegin : CyclesBegin := by
  intro s now base v seen due hseen hdue hbase hv
  have hany : seen = allLifts.any s.inCreep := by
    rw [Bool.eq_iff_iff, hseen, List.any_eq_true]
    simp [allLifts]
  have hprobe : due = probeAt s.scan.cycleCounter := by
    funext this other
    exact hdue this other
  have hopen : s.openCycle now = v := by
    rw [openCycle_eq, hv, hbase, hany, hprobe]
    rfl
  refine ⟨hopen, fun d u hd => ⟨fun h => ?_, fun hvalid h => ?_⟩⟩
  · have htake := takeFrom_of_held (ds := (activeDescriptors v).drop 1) h
    rw [← drop_of_getElem? hd, List.drop_zero] at htake
    exact startCycle_of_stopped (by rw [hopen, htake])
  · have hrest : v.takeFrom (activeDescriptors v) 0 now = u.takeFrom ((activeDescriptors v).drop 1) 1 now := by
      have htake := takeFrom_of_skipped (ds := (activeDescriptors v).drop 1) h
      rwa [← drop_of_getElem? hd, List.drop_zero] at htake
    have hstops := takeFrom_of_pollPower (s := v) (i := 0) (now := now) (pollPower_of_valid hvalid)
    have hframe := atIndex_takeDescriptor_frame v 0 d now
    rw [h] at hframe
    cases ht : u.takeFrom ((activeDescriptors v).drop 1) 1 now with
    | mk x passed =>
      rw [hrest, ht] at hstops
      obtain rfl : passed = false := hstops
      rw [startCycle_of_stopped (by rw [hopen, hrest, ht])]
      exact (advance_of_stopped (by rw [activeDescriptors_of_frame hframe, ht])).symm

/-! ### What a cycle start leaves -/

theorem DescriptorFrame.keeps {s u : State} (h : DescriptorFrame s u) :
    u.laneA = s.laneA ∧ u.laneB = s.laneB ∧ u.scan.creepSeen = s.scan.creepSeen := by
  have ha := congrArg State.laneA h
  have hb := congrArg State.laneB h
  have hseen := congrArg (fun v : State => v.scan.creepSeen) h
  exact ⟨ha, hb, hseen⟩

theorem endCycle_keeps (s : State) (now : TimeTag) :
    (s.endCycle now).laneA = s.laneA ∧ (s.endCycle now).laneB = s.laneB
      ∧ (s.endCycle now).scan.creepSeen = s.scan.creepSeen := by
  rw [endCycle_eq s now rfl rfl]
  exact ⟨rfl, rfl, rfl⟩

/-- The descriptors taken at a cycle start, and the cycle end of a bank that holds none, leave the lanes and creep seen
as the opening set them. -/
theorem startCycle_keeps_opened (s : State) (now : TimeTag) :
    (s.startCycle now).laneA = (s.openCycle now).laneA ∧ (s.startCycle now).laneB = (s.openCycle now).laneB
      ∧ (s.startCycle now).scan.creepSeen = (s.openCycle now).scan.creepSeen := by
  have htaken := takeFrom_descriptorFrame (activeDescriptors (s.openCycle now)) (s.openCycle now) 0 now
  unfold State.startCycle
  dsimp only
  split
  next u e =>
    have hu : DescriptorFrame (s.openCycle now) u := by simpa only [e] using htaken
    obtain ⟨ha, hb, hseen⟩ := hu.keeps
    obtain ⟨ha', hb', hseen'⟩ := endCycle_keeps u now
    exact ⟨ha'.trans ha, hb'.trans hb, hseen'.trans hseen⟩
  next u e =>
    have hu : DescriptorFrame (s.openCycle now) u := by simpa only [e] using htaken
    exact hu.keeps

theorem finish_lanes (s : State) (now : TimeTag) :
    (s.finish now).laneA = s.laneA ∧ (s.finish now).laneB = s.laneB := by
  have h := settle_rescueFrame s now
  unfold State.finish
  rw [transmit_link_only]
  exact ⟨h.laneA, h.laneB⟩

/-- The probe phases a cycle start sets (R116) stand at the end of the event. -/
theorem startCycle_finish_lanes (s : State) (now : TimeTag) :
    ((s.startCycle now).finish now).laneA = { s.laneA with probe := probeAt s.scan.cycleCounter s.laneA s.laneB }
      ∧ ((s.startCycle now).finish now).laneB =
          { s.laneB with probe := probeAt s.scan.cycleCounter s.laneB s.laneA } := by
  obtain ⟨ha, hb⟩ := finish_lanes (s.startCycle now) now
  obtain ⟨ha', hb', -⟩ := startCycle_keeps_opened s now
  have hopen := openCycle_rescueFrame s now
  rw [ha, hb, ha', hb', hopen.laneA, hopen.laneB]
  exact ⟨rfl, rfl⟩

theorem startCycle_finish_seen {s : State} (now : TimeTag) (h : ∃ l : Lift, s.inCreep l = true) :
    ((s.startCycle now).finish now).scan.creepSeen = true := by
  obtain ⟨-, -, hseen⟩ := startCycle_keeps_opened s now
  exact finish_seenKept (s.startCycle now) now (hseen.trans (openCycle_seen now h))

theorem startCycle_finish_scan (s : State) (now : TimeTag) :
    ((s.startCycle now).finish now).scan.running = true
      ∧ ((s.startCycle now).finish now).scan.startTime = some now := by
  obtain ⟨hrun, hstart, -⟩ := startCycle_scan s now
  rw [finish_scan]
  dsimp only
  exact ⟨hrun, hstart⟩

theorem startCycle_finish_cycleKeeps (s : State) (now : TimeTag) :
    CycleKeeps s ((s.startCycle now).finish now) :=
  (startCycle_cycleKeeps s now).trans (finish_cycleKeeps _ now)

/-! ### The end of a gap (R130) -/

theorem expireGap_of_early {s : State} {start now : TimeTag} {gap : Nat} (hp : s.scan.phase = .gapWait start gap)
    (h : (now - start).toNat < gap) : s.expireGap now = s := by
  rw [State.expireGap, hp]
  exact if_neg (Nat.not_le.mpr h)

theorem expireGap_of_due {s : State} {start now : TimeTag} {gap i : Nat} (hp : s.scan.phase = .gapWait start gap)
    (h : gap ≤ (now - start).toNat) (hi : s.scan.current = some i) : s.expireGap now = s.advance (i + 1) now := by
  rw [State.expireGap, hp, ← nextIndex_eq hi]
  exact if_pos h

end Sys2Proof.Machine

open Sys2Proof Sys2Proof.Machine Sys2Proof.Slice0 in
/-- Settles O40: the gap and the period decide, and the rest is what follows a descriptor, a cycle start and a cycle
end. -/
theorem gapAndCycleExpiries : Obligations.GapAndCycleExpiries := by
  refine ⟨fun s t start gap hs hserved hp => ⟨fun hearly => ?early, fun hdue i d hi hd hk hgap => ?pause,
    fun hdue i hi => ?gap⟩, fun s t began hs hserved hp hstart => ⟨fun hearly => ?wait, fun hdue => ?start⟩,
    descriptorsAreTaken, descriptorsFollow, cyclesBegin, cyclesEnd⟩
  case early =>
    have hkept : (s.atTime t).finish t = s.atTime t := finish_of_served (s := s) t hs hserved rfl rfl
    show Host.Outcome.next (((s.atTime t).expireGap t).finish t) = _
    rw [expireGap_of_early (s := s.atTime t) hp hearly, hkept]
    rfl
  case pause =>
    have htake : (atIndex (s.atTime t) (i + 1)).takeDescriptor d t =
        ((atIndex (s.atTime t) (i + 1)).setPhase (.gapWait t d.gap), false) := by
      rw [takeDescriptor_of_pause t hk, if_neg (by omega)]
    show Host.Outcome.next (((s.atTime t).expireGap t).finish t) = _
    rw [expireGap_of_due (s := s.atTime t) hp hdue hi, advance_of_held (s := s.atTime t) hd htake]
    exact congrArg _ (finish_of_served (s := s) t hs hserved rfl rfl)
  case gap =>
    show Host.Outcome.next (((s.atTime t).expireGap t).finish t) = _
    rw [expireGap_of_due (s := s.atTime t) hp hdue hi]
  case wait =>
    have hkept : (s.atTime t).finish t = s.atTime t := finish_of_served (s := s) t hs hserved rfl rfl
    show Host.Outcome.next (((s.atTime t).expireCycle t).finish t) = _
    rw [expireCycle_of_early (s := s.atTime t) hp hstart hearly, hkept]
    rfl
  case start =>
    have hexec : exec (.cycleStart t) s = .next (((s.atTime t).startCycle t).finish t) := by
      show Host.Outcome.next (((s.atTime t).expireCycle t).finish t) = _
      rw [expireCycle_of_due (s := s.atTime t) hp hstart hdue]
    obtain ⟨hrun, hbegan⟩ := startCycle_finish_scan (s.atTime t) t
    obtain ⟨hlaneA, hlaneB⟩ := startCycle_finish_lanes (s.atTime t) t
    have hkeeps := startCycle_finish_cycleKeeps (s.atTime t) t
    have hseen := startCycle_finish_seen (s := s.atTime t) t
    exact ⟨_, hexec, hrun, hbegan, hkeeps.tables, hkeeps.reservoir, hkeeps.hazard, hkeeps.reports,
      hseen, hlaneA, hlaneB, rfl⟩
end
